-- ==== Sys2Proof/Word.lean ====
section
/-! DEFINITION. The word types of the EG816: bytes on the two interfaces, 16-bit sequence numbers and
checks, 32-bit counts of milliseconds, versions and generations. -/

namespace Sys2Proof

/-- A byte of a host frame or of a lane frame. -/
abbrev Byte := BitVec 8

/-- A 16-bit number: a sequence number (R30), a CRC-16 (R168, R178), a lamp mask or image (12, opening). -/
abbrev Half := BitVec 16

/-- A 32-bit number: uptime (R23), lamp version (R122), generation (R149). -/
abbrev Word := BitVec 32

end Sys2Proof
end

