-- ==== Sys2Proof/Config.lean ====
section
/-! DEFINITION. The configuration image (08, R134), the content of a bank (09, R149), and the one thing
about the part that the spec leaves open and nothing can see: in which order a bank's bits enter its check
code. -/

namespace Sys2Proof

/-- Lanes 0 to 7. -/
abbrev LaneId := Fin 8

/-- Lamps 0 to 15 of a lane. -/
abbrev LampId := Fin 16

/-- Control identifiers 0 to 511 (R1). -/
abbrev ControlId := Fin 512

/-- Interlock groups 0 to 31 (R6). -/
abbrev GroupId := Fin 32

/-- The 16 slots of the Request Table (R177). -/
abbrev SlotId := Fin 16

/-- Mode of an interlock group (R6). -/
inductive GroupMode where
  | forced
  | optional
  deriving DecidableEq, Repr

/-- Sense of a control's lamp (R1, R17). -/
inductive Sense where
  | normal
  | inverted
  deriving DecidableEq, Repr

/-- Kind of a control; a MEMBER names its group (R1: the group is present exactly for MEMBER). -/
inductive ControlKind where
  | momentary
  | toggle
  | member (group : GroupId)
  deriving DecidableEq, Repr

/-- The key that operates a control (R1): the triple that R71 looks up. -/
structure Binding where
  lane : LaneId
  extended : Bool
  code : Byte
  deriving DecidableEq, Repr

/-- One lamp of one lane. -/
structure LampPosition where
  lane : LaneId
  lamp : LampId
  deriving DecidableEq, Repr

/-- The lamp that shows a control, with its sense (R1). -/
structure LampRef where
  position : LampPosition
  sense : Sense
  deriving DecidableEq, Repr

/-- The definition of a defined control (R1). -/
structure ControlDef where
  kind : ControlKind
  binding : Option Binding
  lamp : Option LampRef
  deriving DecidableEq, Repr

/-- A lane's settings (R134); the expected type is 00h-7Fh, and 00h matches any module type. -/
structure LaneSetting where
  enabled : Bool
  expectedType : Byte
  deriving DecidableEq, Repr

/-- A configuration image: the working configuration, the store copy, a commit snapshot or a bank's
content (R134). `controls` lists the defined identifiers with rising keys; an identifier it does not list
is undefined. -/
structure ConfigImage where
  lanes : Vector LaneSetting 8
  controls : List (ControlId × ControlDef)
  groupModes : Vector GroupMode 32
  retransmitTimeout : Nat
  retransmitLimit : Nat
  deriving DecidableEq, Repr

/-- The image made of every default of R134's table. -/
def ConfigImage.defaults : ConfigImage where
  lanes := Vector.replicate 8 ⟨true, 0x00#8⟩
  controls := []
  groupModes := Vector.replicate 32 .forced
  retransmitTimeout := 200
  retransmitLimit := 8

/-- What one non-volatile bank holds (R149). The check code is held as `checkError`, its difference
(exclusive or) from the code computed afresh over the generation and the content: 0 exactly when the
check code verifies. `bankCheckCode` in Machine/Store.lean gives the code itself (log 9). -/
structure StoredBank where
  generation : Word
  content : ConfigImage
  checkError : Word
  deriving DecidableEq, Repr

/-- An erased bank, as a new part has: generation 0 (R149). Its content and check code are a DESIGN CHOICE
(log 8): no rule reads them while the generation is 0. -/
def StoredBank.erased : StoredBank := ⟨0, .defaults, 0⟩

/-- What a bank reads back as at the end of a write attempt (R152): what was written, or something else,
which the bank then holds. -/
inductive ReadBack where
  | asWritten
  | other (bank : StoredBank)
  deriving DecidableEq, Repr

/-- In which order the 32-bit CRC of R149 takes the `n` bits of a bank's generation, or of its content. R149
puts the generation before the content and says no more; nothing the host can see depends on it.
UNSPECIFIED: no body, so no proof can rest on an order (log 9). -/
opaque Config.storedOrder : (n : Nat) → Equiv.Perm (Fin n)

end Sys2Proof
end

