-- ==== Sys2Proof/Syntax.lean ====
section
/-! DEFINITION. The commands of the block: one constructor per row of spec/opcode_table.json, in the
table's order. The table gives no operands, so each row carries what its owning rule names: a lane, a
byte, or, for a request, the tag and the body bytes of the good frame that is handed over (R169, R179). -/

namespace Sys2Proof

/-- How a hard reset ends (R24): power comes to the part, or nRESET is released. -/
inductive ResetEnding where
  | powerApplied
  | nresetReleased
  deriving DecidableEq, Repr

/-- How a hard reset begins (R163, R176): power is lost, or nRESET is driven low. -/
inductive ResetBeginning where
  | powerLost
  | nresetLow
  deriving DecidableEq, Repr

/-- The 55 commands. `straps` is the level of BAUD1 (bit 1) and BAUD0 (bit 0) when a reset ends (R167). -/
inductive Instr where
  /-- HARD_RESET (R24). -/
  | hardReset (ending : ResetEnding) (straps : BitVec 2)
  /-- TIME_BASE_TICK (R23). -/
  | timeBaseTick
  /-- HOST_BYTE_RECEIVED (R169). -/
  | hostByteReceived (byte : Byte) (stopBit : Bool)
  /-- GAP_LIMIT (R170). `startBit`: the start bit of a further byte was taken before the limit. -/
  | gapLimit (startBit : Bool := false)
  /-- UNKNOWN_KIND_REQUEST (R188). -/
  | unknownKindRequest (tag kind : Byte) (body : List Byte)
  /-- IDENTIFY_PART (R184). -/
  | identifyPart (tag : Byte) (body : List Byte)
  /-- GET_STATUS (R185). -/
  | getStatus (tag : Byte) (body : List Byte)
  /-- RESTART (R186). -/
  | restart (tag : Byte) (body : List Byte)
  /-- START_EVENTS (R42). -/
  | startEvents (tag : Byte) (body : List Byte)
  /-- ACK_EVENTS (R44). -/
  | ackEvents (tag : Byte) (body : List Byte)
  /-- STOP_EVENTS (R47). -/
  | stopEvents (tag : Byte) (body : List Byte)
  /-- READ_CONTROLS (R19). -/
  | readControls (tag : Byte) (body : List Byte)
  /-- READ_GROUPS (R21). -/
  | readGroups (tag : Byte) (body : List Byte)
  /-- READ_LANE (R119). -/
  | readLane (tag : Byte) (body : List Byte)
  /-- LANE_COMMAND_IDENTIFY (R117). -/
  | laneCommandIdentify (tag lane : Byte)
  /-- LANE_COMMAND_RESCAN (R117). -/
  | laneCommandRescan (tag lane : Byte)
  /-- LANE_COMMAND_RESET_MODULE (R118). -/
  | laneCommandResetModule (tag lane : Byte)
  /-- SET_LAMPS (R130). -/
  | setLamps (tag : Byte) (body : List Byte)
  /-- RELEASE_LAMPS (R132). -/
  | releaseLamps (tag : Byte) (body : List Byte)
  /-- CLEAR_LANE_FAULT (R120). -/
  | clearLaneFault (tag : Byte) (body : List Byte)
  /-- ENTER_CONFIG (R138). -/
  | enterConfig (tag : Byte) (body : List Byte)
  /-- EXIT_CONFIG (R139). -/
  | exitConfig (tag : Byte) (body : List Byte)
  /-- DEFINE_CONTROL (R141). -/
  | defineControl (tag : Byte) (body : List Byte)
  /-- DELETE_CONTROL (R142). -/
  | deleteControl (tag : Byte) (body : List Byte)
  /-- READ_CONTROL_DEF (R143). -/
  | readControlDef (tag : Byte) (body : List Byte)
  /-- SET_GROUP (R144). -/
  | setGroup (tag : Byte) (body : List Byte)
  /-- SET_LANE (R145). -/
  | setLane (tag : Byte) (body : List Byte)
  /-- SET_DELIVERY (R146). -/
  | setDelivery (tag : Byte) (body : List Byte)
  /-- LEARN (R74). -/
  | learn (tag : Byte) (body : List Byte)
  /-- COMMIT (R158). -/
  | commit (tag : Byte) (body : List Byte)
  /-- REVERT (R147). -/
  | revert (tag : Byte) (body : List Byte)
  /-- LOAD_DEFAULTS (R147). -/
  | loadDefaults (tag : Byte) (body : List Byte)
  /-- READ_STORE (R165). -/
  | readStore (tag : Byte) (body : List Byte)
  /-- REPLY_FRAME_START (R173). -/
  | replyFrameStart
  /-- REPORT_FRAME_START (R50). -/
  | reportFrameStart
  /-- REPLY_FRAME_END (R173). -/
  | replyFrameEnd (straps : BitVec 2)
  /-- REPORT_FRAME_END (R52). -/
  | reportFrameEnd
  /-- RETRANSMISSION_TIMER_EXPIRES (R53). -/
  | retransmissionTimerExpires
  /-- TRANSLATOR_TURN (R63). -/
  | translatorTurn
  /-- LEARN_TIMEOUT (R76). -/
  | learnTimeout
  /-- MODULE_FRAME_START (R87). -/
  | moduleFrameStart (lane : LaneId)
  /-- GOOD_FRAME (R83). -/
  | goodFrame (lane : LaneId) (byte : Byte)
  /-- BAD_FRAME (R96). -/
  | badFrame (lane : LaneId)
  /-- FRAME_LIMIT_BREACH (R82). -/
  | frameLimitBreach (lane : LaneId)
  /-- EXCHANGE_START (R104). -/
  | exchangeStart (lane : LaneId)
  /-- NO_CLOCK (R86). -/
  | noClock (lane : LaneId)
  /-- COMMAND_BYTE_COMPLETE (R88). -/
  | commandByteComplete (lane : LaneId)
  /-- TX_TIMEOUT (R88). -/
  | txTimeout (lane : LaneId)
  /-- NO_REPLY (R89). -/
  | noReply (lane : LaneId)
  /-- PROBE_DUE (R105). -/
  | probeDue (lane : LaneId)
  /-- HELLO_DEADLINE (R118). -/
  | helloDeadline (lane : LaneId)
  /-- BANK_READ_ENDS (R153). -/
  | bankReadEnds
  /-- BANK_WRITE_ATTEMPT_ENDS (R152). -/
  | bankWriteAttemptEnds (readBack : ReadBack)
  /-- MODULE_FIRST_CLOCK (R88). -/
  | moduleFirstClock (lane : LaneId)
  /-- HARD_RESET_BEGINS (R163). -/
  | hardResetBegins (cause : ResetBeginning)
  deriving DecidableEq, Repr

end Sys2Proof
end

