-- ==== Sys2Proof/Decode.lean ====
section
/-! DEFINITION. The command that a word spells by the bits of spec/opcode_table.json. No row of this
hardware's table gives bits (98_reader.md: n_rows_with_fixed 0, n_rows_with_fields 0), so no word spells a
command. The bytes of the two interfaces are decoded by the machine itself: host frames by
Machine/HostLink.lean (R169) and Machine/Operands.lean (R188), lane frames by Machine/Link.lean (R83, R90). -/

namespace Sys2Proof

/-- The command of a table row that `nbits` bits `w` spell: none, since no row gives bits. -/
def decodeTableWord (_nbits _w : Nat) : Option Instr := none

end Sys2Proof
end

