-- ==== Sys2Proof/Machine/State.lean ====
section
/-! DEFINITION. The state of the EG816: everything the spec gives the part, as plain data, and the state
right after reset. INVENTORY.md, '## State', lists each field with its rule and its reset value. -/

namespace Sys2Proof.Machine

/-- Reasons the machine stops with a fault: NONE. The spec describes nothing that stops the part: every
request is answered with a status (11.5) and every lane fault is recorded in a latch (R111). -/
inductive Fault where
  deriving DecidableEq, Repr

/-- Reasons for a refusal. Every row of the table has its meaning, so no arm raises it. -/
inductive Refusal where
  /-- Raised only by an arm of `exec` whose command has no meaning yet; safe. -/
  | notModelled (mnemonic : String)
  deriving DecidableEq, Repr

/-! ## Time Base -/

/-- Cause of the most recent reset (R24). -/
inductive ResetCause where
  | power
  | pin
  | restart
  deriving DecidableEq, Repr

/-- The Time Base: uptime in milliseconds and cause of the last reset (R23, R24). -/
structure TimeBase where
  uptime : Word
  cause : ResetCause
  deriving DecidableEq, Repr

/-- The reset line: the part runs, nRESET is held low, or there is no power (R24, R163). -/
inductive ResetLine where
  | running
  | pinLow
  | unpowered
  deriving DecidableEq, Repr

/-- A wait measured on the uptime: the reading at which it began and its length in milliseconds. The expiry
time is their sum; the wait is over when the difference of two readings modulo 2^32 reaches the length
(R23). -/
structure Wait where
  since : Word
  span : Word
  deriving DecidableEq, Repr

/-! ## Request Table and Host Link -/

/-- Status codes (11.5, 12.1). -/
inductive Status where
  | ok | unknownKind | badLength | badField | wrongMode | wrongState | notReady | busy | tagConflict
  | laneBusy | laneDown | noReply | moduleError | aborted | timeout | ackRange
  | duplicateBinding | lampInUse | groupFull | notDefined | storeBusy | storeFailed
  deriving DecidableEq, Repr

/-- A reply: its status and the data bytes after it (12.3, R190). -/
structure Reply where
  status : Status
  data : List Byte
  deriving DecidableEq, Repr

/-- What a slot that is not FREE holds of its request: tag, body check and kind (R177). -/
structure RequestId where
  tag : Byte
  check : Half
  kind : Byte
  deriving DecidableEq, Repr

/-- One entry of the Request Table (R177). -/
inductive RequestSlot where
  | free
  | active (request : RequestId)
  | done (request : RequestId) (reply : Reply)
  deriving DecidableEq, Repr

/-- The Request Table: 16 slots, and the DONE slots from the one that completed longest ago to the newest
(R177, R180). -/
structure RequestTable where
  slots : Vector RequestSlot 16
  order : List SlotId
  deriving DecidableEq, Repr

/-- An entry of the outgoing reply list (R172): a slot whose stored reply is to be sent, or an unstored
refusal with the refused request's tag, kind and status (R181). -/
inductive ReplyEntry where
  | slot (slot : SlotId)
  | refusal (tag kind : Byte) (status : Status)
  deriving DecidableEq, Repr

/-- A host frame less SOF, LEN and CHK, which follow from it (R168). -/
structure HostFrame where
  tag : Byte
  kind : Byte
  body : List Byte
  deriving DecidableEq, Repr

/-- The transmitter (R173): idle, or sending a reply frame or a report frame, whose content was fixed when
the frame started (R174). The report on the line (R39) is the `report` frame. -/
inductive Transmitter where
  | idle
  | reply (frame : HostFrame)
  | report (frame : HostFrame)
  deriving DecidableEq, Repr

/-- The byte a frame in assembly awaits (R169's states but HUNT). -/
inductive Awaited where
  | len | tag | kind | body | chk1 | chk2
  deriving DecidableEq, Repr

/-- A frame in assembly (R169): the byte awaited, the fields received so far, the running check, the held
high check byte, and the uptime at the end of the last byte, from which the gap is measured (R170). -/
structure Assembly where
  awaited : Awaited
  len : Byte
  tag : Byte
  kind : Byte
  body : List Byte
  check : Half
  chkHigh : Byte
  gapSince : Word
  deriving DecidableEq, Repr

/-- The four baud rates (R167). -/
inductive Baud where
  | b19200 | b57600 | b115200 | b230400
  deriving DecidableEq, Repr

/-- The Host Link (R167 to R176). `rx = none` is the receive state HUNT. -/
structure HostLink where
  baud : Baud
  rx : Option Assembly
  discarded : Half
  replies : List ReplyEntry
  tx : Transmitter
  deriving DecidableEq, Repr

/-! ## Lane Controllers -/

/-- Life-cycle state of a lane's module link (R100). -/
inductive Phase where
  | disabled | absent | starting | running | mismatch
  deriving DecidableEq, Repr

/-- Step within STARTING (R99). -/
inductive StartStep where
  | waitHello | identify | enable
  deriving DecidableEq, Repr

/-- State of a lane's wires (R101). -/
inductive Activity where
  | off | idle | receiving | held | sending | awaiting
  deriving DecidableEq, Repr

/-- Lane fault kinds (R111). NONE is the absence of a kind. -/
inductive LaneFault where
  | noClock | txTimeout | noReply | badReply | resendLimit | moduleError
  | rxTimeout | parity | overrun | moduleLost | moduleRestart | typeMismatch
  deriving DecidableEq, Repr

/-- Kinds of command list entry (R103). -/
inductive EntryKind where
  | identify | rescan | resetModule | lamp | probeIdentify | enable | disable
  deriving DecidableEq, Repr

/-- A command list entry: its kind and, for host origin, the request slot it carries; `none` is internal
origin (R103, R117). -/
structure Entry where
  kind : EntryKind
  request : Option SlotId
  deriving DecidableEq, Repr

/-- Module commands with their command bytes fixed for the exchange (R85, R124). -/
inductive ModuleCommand where
  | identify
  | setLamps (low high : Byte)
  | scanEnable
  | scanDisable
  | resend
  | resetModule
  deriving DecidableEq, Repr

/-- Kinds of reply position (R85, R90, R97). -/
inductive ReplyPosition where
  | ack | moduleType | lampCount | resent
  deriving DecidableEq, Repr

/-- The exchange context (R86): the command, the attempt 1 to 3, the index of the command byte in progress,
whether the module has begun clocking it, the reply positions due after it (the first is the one due now;
empty while the byte is being sent), the module type already taken by an IDENTIFY, and the limit in force. -/
structure Exchange where
  command : ModuleCommand
  attempt : Nat
  byteIndex : Nat
  clocked : Bool
  due : List ReplyPosition
  typeTaken : Byte
  limit : Wait
  deriving DecidableEq, Repr

/-- Module type and lamp count, known together (R99). -/
structure ModuleId where
  moduleType : Byte
  lampCount : Byte
  deriving DecidableEq, Repr

/-- A SET-LAMPS waiter (R122). -/
structure LampWaiter where
  slot : SlotId
  target : Word
  deriving DecidableEq, Repr

/-- One Lane Controller with its link (R86, R96) and its lamp state (R122). -/
structure Lane where
  phase : Phase
  startStep : Option StartStep
  activity : Activity
  /-- The module frame in progress, by the uptime at its start bit (R80, R82). -/
  frame : Option Word
  slot : Option Byte
  list : List Entry
  inProgress : Option Entry
  exchange : Option Exchange
  parityCount : Option Nat
  known : Option ModuleId
  failures : Nat
  firstFault : Option LaneFault
  lastFault : Option LaneFault
  faultCount : Byte
  faultsSince : Byte
  statusWanted : Bool
  probeDue : Option Wait
  helloDeadline : Option Wait
  desired : Half
  acked : Half
  desiredVersion : Word
  ackedVersion : Word
  /-- A set bit is HOST, a clear bit is FOLLOW (12, opening). -/
  owners : Half
  /-- Sent image and sent version (R124). -/
  sent : Option (Half × Word)
  waiters : List LampWaiter
  deriving DecidableEq, Repr

/-! ## Code Translator -/

/-- Prefix state of a lane (R62, R69). -/
inductive PrefixState where
  | none | ext | rel | extRel
  deriving DecidableEq, Repr

/-- The LEARN waiter (R62, R74): a lane, or `none` for ANY; its expiry; the request slot. -/
structure LearnWaiter where
  lane : Option LaneId
  expiry : Wait
  slot : SlotId
  deriving DecidableEq, Repr

/-- The Code Translator (R62). -/
structure Translator where
  prefixes : Vector PrefixState 8
  start : LaneId
  learn : Option LearnWaiter
  /-- The lane of the turn that waits for queue space (R65). -/
  waiting : Option LaneId
  deriving DecidableEq, Repr

/-! ## Control Table -/

/-- Physical state of a control (R2). -/
inductive Physical where
  | up | down | unknown
  deriving DecidableEq, Repr

/-- Dynamic part of a defined control (R2). -/
structure ControlState where
  physical : Physical
  latched : Bool
  lastChange : Option Word
  deriving DecidableEq, Repr

/-- The Control Table less what it takes from the working configuration: the dynamic parts, by rising
identifier, and the selected member of each group (R1, R2, R6). -/
structure ControlTable where
  entries : List (ControlId × ControlState)
  selections : Vector (Option ControlId) 32
  deriving DecidableEq, Repr

/-! ## Event Queue and Delivery Unit -/

/-- Kind and kind fields of an event record (R26 to R29). -/
inductive Event where
  | press (control : ControlId)
  | release (control : ControlId)
  | toggled (control : ControlId) (latched : Bool)
  | selected (group : GroupId) (control : ControlId) (previous : Option ControlId)
  | deselected (group : GroupId) (control : ControlId)
  | unmapped (lane : LaneId) (extended release : Bool) (code : Byte)
  | codeError (lane : LaneId) (byte : Byte) (state : PrefixState)
  | laneStatus (lane : LaneId) (phase : Phase) (moduleType : Option Byte) (lastFault : Option LaneFault)
      (faultsSince : Byte)
  deriving DecidableEq, Repr

/-- An event record (R26). -/
structure Record where
  sequence : Half
  timestamp : Word
  event : Event
  deriving DecidableEq, Repr

/-- The Event Queue: records, oldest first, and the next sequence number (R25, R30). -/
structure EventQueue where
  records : List Record
  next : Half
  deriving DecidableEq, Repr

/-- Delivery state (R40). -/
inductive DeliveryState where
  | off | on | stalled
  deriving DecidableEq, Repr

/-- The Delivery Unit (R39). -/
structure Delivery where
  state : DeliveryState
  window : Nat
  inFlight : Nat
  timer : Option Wait
  retransmits : Nat
  deriving DecidableEq, Repr

/-! ## Configuration Unit and Configuration Store -/

/-- Mode of the part (R136). -/
inductive Mode where
  | startup | run | config
  deriving DecidableEq, Repr

/-- The Configuration Unit (R134, R135, R136). -/
structure ConfigUnit where
  mode : Mode
  working : ConfigImage
  storeCopy : ConfigImage
  dirty : Bool
  deriving DecidableEq, Repr

/-- The three banks (R149). -/
inductive BankName where
  | a | b | c
  deriving DecidableEq, Repr

/-- One thing for each of the three banks. -/
structure PerBank (α : Type) where
  a : α
  b : α
  c : α
  deriving DecidableEq, Repr

/-- Standing of a bank (R150). -/
inductive BankStanding where
  | valid | invalid | failed
  deriving DecidableEq, Repr

/-- What the store holds about a bank: its standing, `none` until the vote reads it, and the generation read
at the vote or last written with a verify that passed (R150). -/
structure BankView where
  standing : Option BankStanding
  generation : Word
  deriving DecidableEq, Repr

/-- Standing of the store as a whole (R151). -/
inductive StoreStanding where
  | full | majority | single | blank
  deriving DecidableEq, Repr

/-- Activity of the store (R151). -/
inductive StoreActivity where
  | voting | idle | repairing | committing
  deriving DecidableEq, Repr

/-- Whether a bank write is the repair's or the commit's (R159). -/
inductive WriteOrigin where
  | repair | commit
  deriving DecidableEq, Repr

/-- The bank in progress with its attempt (R151, R152). -/
structure BankWrite where
  bank : BankName
  secondAttempt : Bool
  origin : WriteOrigin
  deriving DecidableEq, Repr

/-- The commit context (R151, R158). -/
structure CommitContext where
  snapshot : ConfigImage
  generation : Word
  good : Nat
  slot : SlotId
  deriving DecidableEq, Repr

/-- The Configuration Store (R149 to R151). -/
structure Store where
  banks : PerBank StoredBank
  views : PerBank BankView
  standing : StoreStanding
  activity : StoreActivity
  generation : Word
  image : ConfigImage
  write : Option BankWrite
  commit : Option CommitContext
  restartPending : Bool
  deriving DecidableEq, Repr

/-! ## The whole part -/

/-- The state of the part, and the commands that wait, first in, first out. -/
structure State where
  time : TimeBase
  line : ResetLine
  lanes : Vector Lane 8
  translator : Translator
  table : ControlTable
  queue : EventQueue
  delivery : Delivery
  link : HostLink
  requests : RequestTable
  config : ConfigUnit
  store : Store
  pending : List Instr
  deriving DecidableEq, Repr

/-- A lane after reset (R98, R121, R133). -/
def Lane.reset : Lane where
  phase := .disabled
  startStep := none
  activity := .off
  frame := none
  slot := none
  list := []
  inProgress := none
  exchange := none
  parityCount := none
  known := none
  failures := 0
  firstFault := none
  lastFault := none
  faultCount := 0
  faultsSince := 0
  statusWanted := false
  probeDue := none
  helloDeadline := none
  desired := 0
  acked := 0
  desiredVersion := 0
  ackedVersion := 0
  owners := 0
  sent := none
  waiters := []

/-- The part right after a power-on reset of a new part (R22, R37, R61, R78, R98, R121, R133, R148, R166,
R176, R187). The cause, the straps' value and the banks are a DESIGN CHOICE (log 7, 8). -/
def State.reset : State where
  time := ⟨0, .power⟩
  line := .running
  lanes := Vector.replicate 8 Lane.reset
  translator := ⟨Vector.replicate 8 .none, 0, none, none⟩
  table := ⟨[], Vector.replicate 32 none⟩
  queue := ⟨[], 0⟩
  delivery := ⟨.off, 0, 0, none, 0⟩
  link := ⟨.b19200, none, 0, [], .idle⟩
  requests := ⟨Vector.replicate 16 .free, []⟩
  config := ⟨.startup, .defaults, .defaults, false⟩
  store :=
    { banks := ⟨.erased, .erased, .erased⟩
      views := ⟨⟨none, 0⟩, ⟨none, 0⟩, ⟨none, 0⟩⟩
      standing := .blank
      activity := .voting
      generation := 0
      image := .defaults
      write := none
      commit := none
      restartPending := false }
  pending := []

end Sys2Proof.Machine
end

