-- ==== Sys2Proof/Machine/Ops.lean ====
section
/-! DEFINITION. Operations that every block uses: sparse tables, waits, saturating counters, the byte
order of the messages, the CRC-16, and the Request Table's completion of a request. -/

namespace Sys2Proof.Machine

/-! ## Sparse tables: keys strictly rising -/

/-- The value a table lists for a key. -/
def lookupKey {n : Nat} {α : Type} (t : List (Fin n × α)) (k : Fin n) : Option α :=
  match t with
  | [] => none
  | (j, v) :: rest => if j = k then some v else lookupKey rest k

/-- The table with a key's value set, keys still rising. -/
def insertKey {n : Nat} {α : Type} (t : List (Fin n × α)) (k : Fin n) (v : α) : List (Fin n × α) :=
  match t with
  | [] => [(k, v)]
  | (j, w) :: rest =>
    if k < j then (k, v) :: (j, w) :: rest
    else if k = j then (k, v) :: rest
    else (j, w) :: insertKey rest k v

/-- The table without a key. -/
def eraseKey {n : Nat} {α : Type} (t : List (Fin n × α)) (k : Fin n) : List (Fin n × α) :=
  t.filter fun e => decide (e.1 ≠ k)

/-- The canonical form: keys strictly rising, so equal tables are equal lists. -/
abbrev sortedKeys {n : Nat} {α : Type} (t : List (Fin n × α)) : Prop := t.Pairwise fun x y => x.1 < y.1

/-! ## Time -/

/-- A wait of `ms` milliseconds that begins at the reading `now` (R23). -/
def startWait (now : Word) (ms : Nat) : Wait := ⟨now, BitVec.ofNat 32 ms⟩

/-- The expiry time of a wait, as an uptime. -/
def Wait.expiry (w : Wait) : Word := w.since + w.span

/-- A wait is over when the difference of two readings, modulo 2^32, is at least its length (R23). -/
def Wait.reached (now : Word) (w : Wait) : Bool := decide (w.span ≤ now - w.since)

/-- The limits and intervals of the lanes and the host link, in milliseconds. -/
def frameLimitMs : Nat := 2
/-- R86. -/
def clockLimitMs : Nat := 10
/-- R88. -/
def byteLimitMs : Nat := 3
/-- R89. -/
def replyLimitMs : Nat := 25
/-- R105. -/
def probeIntervalMs : Nat := 500
/-- R118. -/
def helloLimitMs : Nat := 1000
/-- R170. -/
def gapLimitMs : Nat := 5

/-! ## Counters and byte order -/

/-- A counter from 0 to 255 that stops at 255 (R111). -/
def saturate8 (x : Byte) : Byte := if x = 0xFF#8 then x else x + 1

/-- A counter from 0 to 65535 that stops at 65535 (R171). -/
def saturate16 (x : Half) : Half := if x = 0xFFFF#16 then x else x + 1

/-- Two bytes, high byte first (12, opening). -/
def be16 (x : Half) : List Byte := [x.extractLsb' 8 8, x.extractLsb' 0 8]

/-- Four bytes, high byte first (12, opening). -/
def be32 (x : Word) : List Byte := [x.extractLsb' 24 8, x.extractLsb' 16 8, x.extractLsb' 8 8, x.extractLsb' 0 8]

/-- The number two bytes spell, high byte first. -/
def half (high low : Byte) : Half := high ++ low

/-- A count or index as one byte. -/
def byteOf (n : Nat) : Byte := BitVec.ofNat 8 n

/-- The eight data bits of a byte, D0 (the least significant) first, as both links send them (R82, R167). -/
def dataBits (b : Byte) : List Bool := (List.range 8).map fun i => b.getLsbD i

/-! ## CRC-16 (R168): polynomial 1021h, most significant bit first, not reflected, nothing added -/

/-- One bit of the CRC-16. -/
def crc16Bit (c : Half) : Half := if c.msb then (c <<< 1) ^^^ 0x1021#16 else c <<< 1

/-- One byte of the CRC-16. -/
def crc16Byte (c : Half) (b : Byte) : Half :=
  let c := c ^^^ (b.setWidth 16 <<< 8)
  crc16Bit (crc16Bit (crc16Bit (crc16Bit (crc16Bit (crc16Bit (crc16Bit (crc16Bit c)))))))

/-- The initial value of the check (R168, R169). -/
def crc16Start : Half := 0xFFFF#16

/-- The check over a sequence of bytes. -/
def crc16 (bytes : List Byte) : Half := bytes.foldl crc16Byte crc16Start

/-! ## Lanes -/

/-- The Lane Controller of a lane. -/
def State.lane (s : State) (l : LaneId) : Lane := s.lanes[l]

/-- The state with one lane replaced. -/
def State.setLane (s : State) (l : LaneId) (x : Lane) : State := { s with lanes := s.lanes.set l x }

/-- The state with one lane changed. -/
def State.modLane (s : State) (l : LaneId) (f : Lane → Lane) : State := s.setLane l (f (s.lane l))

/-- The state with every lane changed. -/
def State.mapLanes (s : State) (f : LaneId → Lane → Lane) : State :=
  { s with lanes := Vector.ofFn fun l => f l s.lanes[l] }

/-! ## Host Link and Request Table -/

/-- The entry of the Request Table at a slot. -/
def State.slot (s : State) (i : SlotId) : RequestSlot := s.requests.slots[i]

/-- The frames-discarded counter advances (R171). -/
def countDiscard (s : State) : State :=
  { s with link := { s.link with discarded := saturate16 s.link.discarded } }

/-- A slot's reply joins the list at its newest end, unless an entry for the slot is there (R172). -/
def queueSlotEntry (list : List ReplyEntry) (i : SlotId) : List ReplyEntry :=
  if ReplyEntry.slot i ∈ list then list else list ++ [.slot i]

/-- An entry is a refusal entry (R172). -/
def ReplyEntry.isRefusal : ReplyEntry → Bool
  | .slot _ => false
  | .refusal _ _ _ => true

/-- An unstored refusal (R181): queued while fewer than 4 refusal entries wait, otherwise counted (R172). -/
def queueRefusal (s : State) (tag kind : Byte) (status : Status) : State :=
  if s.link.replies.countP ReplyEntry.isRefusal < 4 then
    { s with link := { s.link with replies := s.link.replies ++ [.refusal tag kind status] } }
  else countDiscard s

/-- A request completes (R183): the reply is stored, the slot becomes DONE as the newest of the completion
order, and its slot entry is queued. A completion for a slot that is not ACTIVE is dropped. -/
def complete (s : State) (i : SlotId) (r : Reply) : State :=
  match s.slot i with
  | .active q =>
    { s with
      requests := ⟨s.requests.slots.set i (.done q r), s.requests.order ++ [i]⟩
      link := { s.link with replies := queueSlotEntry s.link.replies i } }
  | _ => s

/-- A reply that holds its status alone (12.3). -/
def bare (status : Status) : Reply := ⟨status, []⟩

/-- Several requests complete in one happening with one reply each, in order (R183). -/
def completeAll (s : State) (slots : List SlotId) (r : Reply) : State :=
  slots.foldl (fun s i => complete s i r) s

/-! ## The reset line -/

/-- While a reset is held nothing but the reset's own commands has an effect (log 5). -/
def whenRunning (s : State) (f : State → State) : State :=
  match s.line with
  | .running => f s
  | _ => s

end Sys2Proof.Machine
end

