-- ==== Sys2Proof/Machine/Operands.lean ====
section
/-! DEFINITION. The request catalogue (11.6, 12.2) and the fields of request bodies with their ranges
(R188): a byte outside a field's codes reads as `none`, which the request answers with BAD_FIELD. -/

namespace Sys2Proof.Machine

/-- The 26 request kinds (11.6). -/
inductive RequestKind where
  | identifyPart | getStatus | restart | startEvents | ackEvents | stopEvents | readControls | readGroups
  | readLane | laneCommand | setLamps | releaseLamps | clearLaneFault | enterConfig | exitConfig
  | defineControl | deleteControl | readControlDef | setGroup | setLane | setDelivery | learn | commit
  | revert | loadDefaults | readStore
  deriving DecidableEq, Repr

/-- The kind byte of a request (11.6). -/
def RequestKind.code : RequestKind → Byte
  | .identifyPart => 0x01
  | .getStatus => 0x02
  | .restart => 0x03
  | .startEvents => 0x10
  | .ackEvents => 0x11
  | .stopEvents => 0x12
  | .readControls => 0x13
  | .readGroups => 0x14
  | .readLane => 0x20
  | .laneCommand => 0x21
  | .setLamps => 0x22
  | .releaseLamps => 0x23
  | .clearLaneFault => 0x24
  | .enterConfig => 0x30
  | .exitConfig => 0x31
  | .defineControl => 0x32
  | .deleteControl => 0x33
  | .readControlDef => 0x34
  | .setGroup => 0x35
  | .setLane => 0x36
  | .setDelivery => 0x37
  | .learn => 0x38
  | .commit => 0x39
  | .revert => 0x3A
  | .loadDefaults => 0x3B
  | .readStore => 0x3C

/-- Every request kind, in the catalogue's order. -/
def allRequestKinds : List RequestKind :=
  [.identifyPart, .getStatus, .restart, .startEvents, .ackEvents, .stopEvents, .readControls, .readGroups,
   .readLane, .laneCommand, .setLamps, .releaseLamps, .clearLaneFault, .enterConfig, .exitConfig,
   .defineControl, .deleteControl, .readControlDef, .setGroup, .setLane, .setDelivery, .learn, .commit,
   .revert, .loadDefaults, .readStore]

/-- The request kind a kind byte names; the byte is judged whole (R188). -/
def requestKindOf (kind : Byte) : Option RequestKind := allRequestKinds.find? fun k => k.code == kind

/-- The one body length a kind admits (12.2, R188). -/
def RequestKind.bodyLength : RequestKind → Nat
  | .identifyPart | .getStatus | .restart | .stopEvents | .enterConfig | .exitConfig | .commit | .revert
  | .loadDefaults | .readStore => 0
  | .startEvents | .readLane | .clearLaneFault => 1
  | .readGroups | .laneCommand | .deleteControl | .readControlDef | .setGroup | .learn => 2
  | .ackEvents | .readControls | .releaseLamps | .setLane | .setDelivery => 3
  | .setLamps => 5
  | .defineControl => 12

/-- The modes the mode check of R182 admits beside STARTUP (11.6). -/
inductive ModeClass where
  /-- STARTUP, RUN and CONFIG. -/
  | always
  /-- RUN and CONFIG. -/
  | ready
  /-- RUN only. -/
  | runOnly
  /-- CONFIG only. -/
  | configOnly
  deriving DecidableEq, Repr

/-- The catalogue's modes column (11.6). -/
def RequestKind.modeClass : RequestKind → ModeClass
  | .identifyPart | .getStatus => .always
  | .startEvents => .runOnly
  | .defineControl | .deleteControl | .setGroup | .setLane | .setDelivery | .learn | .revert
  | .loadDefaults => .configOnly
  | .restart | .ackEvents | .stopEvents | .readControls | .readGroups | .readLane | .laneCommand
  | .setLamps | .releaseLamps | .clearLaneFault | .enterConfig | .exitConfig | .readControlDef | .commit
  | .readStore => .ready

/-- The mode check of R182: NOT_READY in STARTUP, WRONG_MODE where the mode does not admit the kind. -/
def modeRefusal (c : ModeClass) (m : Mode) : Option Status :=
  match c, m with
  | .always, _ => none
  | _, .startup => some .notReady
  | .runOnly, .config => some .wrongMode
  | .configOnly, .run => some .wrongMode
  | _, _ => none

/-! ## Fields -/

/-- A number below `n`. -/
def finOf (n k : Nat) : Option (Fin n) := if h : k < n then some ⟨k, h⟩ else none

/-- A lane number 0-7. -/
def laneOf (b : Byte) : Option LaneId := finOf 8 b.toNat

/-- A control identifier 0-511. -/
def controlOf (high low : Byte) : Option ControlId := finOf 512 (half high low).toNat

/-- A group 0-31. -/
def groupOf (b : Byte) : Option GroupId := finOf 32 b.toNat

/-- A yes/no field: 00h or 01h. -/
def flagOf (b : Byte) : Option Bool :=
  if b = 0 then some false else if b = 1 then some true else none

/-- A group mode. -/
def groupModeOf (b : Byte) : Option GroupMode :=
  if b = 0 then some .forced else if b = 1 then some .optional else none

/-- A lamp sense. -/
def senseOf (b : Byte) : Option Sense :=
  if b = 0 then some .normal else if b = 1 then some .inverted else none

/-- A control kind; the group byte counts only for MEMBER (R140, R188). -/
def kindOf (kind group : Byte) : Option ControlKind :=
  if kind = 0 then some .momentary
  else if kind = 1 then some .toggle
  else if kind = 2 then (groupOf group).map .member
  else none

/-- A key code 01h-AFh. -/
def keyCodeOf (b : Byte) : Option Byte := if 0x01#8 ≤ b ∧ b ≤ 0xAF#8 then some b else none

/-- The binding fields: present, lane, extended, code. `none` is a field outside its range; `some none` no
binding, the other three bytes then not being checked (R188). -/
def bindingOf (present lane extended code : Byte) : Option (Option Binding) := do
  if ← flagOf present then
    let l ← laneOf lane
    let e ← flagOf extended
    let c ← keyCodeOf code
    pure (some ⟨l, e, c⟩)
  else pure none

/-- The lamp fields: present, lane, lamp, sense (R188). -/
def lampOf (present lane lamp sense : Byte) : Option (Option LampRef) := do
  if ← flagOf present then
    let l ← laneOf lane
    let n ← finOf 16 lamp.toNat
    let v ← senseOf sense
    pure (some ⟨⟨l, n⟩, v⟩)
  else pure none

/-- The module commands of LANE-COMMAND (12, coding table). -/
def laneCommandOf (b : Byte) : Option EntryKind :=
  if b = 0 then some .identify else if b = 1 then some .rescan else if b = 2 then some .resetModule else none

/-- The LEARN lane: 00h-07h, or FFh for ANY; `some none` is ANY. -/
def learnLaneOf (b : Byte) : Option (Option LaneId) :=
  if b = 0xFF then some none else (laneOf b).map some

end Sys2Proof.Machine
end

