-- ==== Sys2Proof/WellFormed.lean ====
section
/-! DEFINITION. Which commands the outside world can give, and which configuration images keep the laws
of R134. `exec` is total: it has an answer for an ill-formed command too (log 24). -/

namespace Sys2Proof

/-- The 26 request kinds of the catalogue (11.6, 12.2). -/
def catalogueCodes : List Byte :=
  [0x01, 0x02, 0x03, 0x10, 0x11, 0x12, 0x13, 0x14, 0x20, 0x21, 0x22, 0x23, 0x24, 0x30, 0x31, 0x32, 0x33, 0x34,
   0x35, 0x36, 0x37, 0x38, 0x39, 0x3A, 0x3B, 0x3C]

/-- A key code is 01h-AFh (R1, R68). -/
abbrev isKeyCode (b : Byte) : Prop := 0x01#8 ≤ b ∧ b ≤ 0xAF#8

/-- A definition whose binding, if it has one, names a key code (R1). -/
abbrev ControlDef.wf (d : ControlDef) : Prop := ∀ b ∈ d.binding, isKeyCode b.code

/-- The lamp position of a definition, if it has a lamp. -/
def ControlDef.lampPosition (d : ControlDef) : Option LampPosition := d.lamp.map (·.position)

/-- Number of defined MEMBER controls of a group (R6). -/
def ConfigImage.memberCount (image : ConfigImage) (g : GroupId) : Nat :=
  image.controls.countP fun e => decide (e.2.kind = .member g)

/-- No two defined controls have the same binding (R140). -/
abbrev ConfigImage.distinctBindings (image : ConfigImage) : Prop :=
  image.controls.Pairwise fun x y => x.2.binding = none ∨ x.2.binding ≠ y.2.binding

/-- No two defined controls reference the same lamp (R140). -/
abbrev ConfigImage.distinctLamps (image : ConfigImage) : Prop :=
  image.controls.Pairwise fun x y => x.2.lampPosition = none ∨ x.2.lampPosition ≠ y.2.lampPosition

/-- The laws that every image the part holds satisfies: the ranges of R1 and R134, the uniqueness of R140,
the 16 members of R6, and the canonical form of the list of definitions. -/
abbrev ConfigImage.wf (image : ConfigImage) : Prop :=
  image.controls.Pairwise (fun x y => x.1 < y.1) ∧ (∀ e ∈ image.controls, e.2.wf) ∧
  image.distinctBindings ∧ image.distinctLamps ∧ (∀ g, image.memberCount g ≤ 16) ∧
  (∀ l : LaneId, image.lanes[l].expectedType ≤ 0x7F#8) ∧
  50 ≤ image.retransmitTimeout ∧ image.retransmitTimeout ≤ 2000 ∧
  1 ≤ image.retransmitLimit ∧ image.retransmitLimit ≤ 15

/-- A bank reads VALID when its generation is not 0 and its check code verifies (R149, R150). -/
def StoredBank.readsValid (b : StoredBank) : Bool := b.generation != 0 && b.checkError == 0

/-- A bank that reads VALID holds an image that keeps the laws (R134: the store wrote it from such an
image). -/
abbrev StoredBank.wf (b : StoredBank) : Prop := b.readsValid = true → b.content.wf

/-- A request frame: tag 1-255, at most 198 body bytes (R168). -/
abbrev requestWf (tag : Byte) (body : List Byte) : Prop := tag ≠ 0 ∧ body.length ≤ 198

/-- The commands that the outside world can give: a request's tag is not 0 and its body fits a frame
(R168); UNKNOWN_KIND_REQUEST carries a kind outside the catalogue (R188); a bank that reads back VALID
holds a lawful image (R134). -/
def Instr.wf : Instr → Bool
  | .hardReset _ _ | .hardResetBegins _ | .timeBaseTick | .hostByteReceived _ _ | .gapLimit _ => true
  | .unknownKindRequest tag kind body => decide (requestWf tag body ∧ kind ∉ catalogueCodes)
  | .identifyPart tag body | .getStatus tag body | .restart tag body | .startEvents tag body
  | .ackEvents tag body | .stopEvents tag body | .readControls tag body | .readGroups tag body
  | .readLane tag body | .setLamps tag body | .releaseLamps tag body | .clearLaneFault tag body
  | .enterConfig tag body | .exitConfig tag body | .defineControl tag body | .deleteControl tag body
  | .readControlDef tag body | .setGroup tag body | .setLane tag body | .setDelivery tag body
  | .learn tag body | .commit tag body | .revert tag body | .loadDefaults tag body
  | .readStore tag body => decide (requestWf tag body)
  | .laneCommandIdentify tag _ | .laneCommandRescan tag _ | .laneCommandResetModule tag _ => decide (tag ≠ 0)
  | .replyFrameStart | .reportFrameStart | .replyFrameEnd _ | .reportFrameEnd
  | .retransmissionTimerExpires | .translatorTurn | .learnTimeout => true
  | .moduleFrameStart _ | .goodFrame _ _ | .badFrame _ | .frameLimitBreach _ | .exchangeStart _
  | .noClock _ | .commandByteComplete _ | .txTimeout _ | .noReply _ | .probeDue _ | .helloDeadline _
  | .moduleFirstClock _ | .bankReadEnds => true
  | .bankWriteAttemptEnds readBack =>
    match readBack with
    | .asWritten => true
    | .other bank => decide bank.wf

end Sys2Proof
end

