-- ==== Sys2Proof/Machine/Flags.lean ====
section
/-! DEFINITION. How values show on the wire: the coding table of 12, status codes (12.1), the flags byte of
READ-CONTROLS and the entry byte of READ-LANE (12.3), records (12.4), and the host frame (R168). -/

namespace Sys2Proof.Machine

/-! ## The coding table (12) -/

/-- Yes/no and flags: no 00h, yes 01h. -/
def flagCode (b : Bool) : Byte := if b then 1 else 0

/-- Mode codes. -/
def Mode.code : Mode → Byte
  | .startup => 0
  | .run => 1
  | .config => 2

/-- Delivery state codes. -/
def DeliveryState.code : DeliveryState → Byte
  | .off => 0
  | .on => 1
  | .stalled => 2

/-- Phase codes. -/
def Phase.code : Phase → Byte
  | .disabled => 0
  | .absent => 1
  | .starting => 2
  | .running => 3
  | .mismatch => 4

/-- Start step codes; outside STARTING 00h (R189). -/
def startStepCode : Option StartStep → Byte
  | none => 0
  | some .waitHello => 1
  | some .identify => 2
  | some .enable => 3

/-- Activity codes. -/
def Activity.code : Activity → Byte
  | .off => 0
  | .idle => 1
  | .receiving => 2
  | .held => 3
  | .sending => 4
  | .awaiting => 5

/-- Fault kind codes. -/
def LaneFault.code : LaneFault → Byte
  | .noClock => 0x01
  | .txTimeout => 0x02
  | .noReply => 0x03
  | .badReply => 0x04
  | .resendLimit => 0x05
  | .moduleError => 0x06
  | .rxTimeout => 0x07
  | .parity => 0x08
  | .overrun => 0x09
  | .moduleLost => 0x0A
  | .moduleRestart => 0x0B
  | .typeMismatch => 0x0C

/-- A fault kind or NONE 00h. -/
def faultCode : Option LaneFault → Byte
  | none => 0
  | some k => k.code

/-- Control kind codes. -/
def kindCode : ControlKind → Byte
  | .momentary => 0
  | .toggle => 1
  | .member _ => 2

/-- Physical state codes. -/
def Physical.code : Physical → Byte
  | .up => 0
  | .down => 1
  | .unknown => 2

/-- Prefix state codes. -/
def PrefixState.code : PrefixState → Byte
  | .none => 0
  | .ext => 1
  | .rel => 2
  | .extRel => 3

/-- Group mode codes. -/
def groupModeCode : GroupMode → Byte
  | .forced => 0
  | .optional => 1

/-- Lamp sense codes. -/
def senseCode : Sense → Byte
  | .normal => 0
  | .inverted => 1

/-- Command list entry codes. -/
def EntryKind.code : EntryKind → Byte
  | .identify => 0
  | .rescan => 1
  | .resetModule => 2
  | .lamp => 3
  | .probeIdentify => 4
  | .enable => 5
  | .disable => 6

/-- Bank standing codes; a standing not yet held has no code and cannot be asked for (R165 is refused in
STARTUP); it is shown as INVALID (log 29). -/
def bankStandingCode : Option BankStanding → Byte
  | some .valid => 0
  | some .invalid => 1
  | some .failed => 2
  | none => 1

/-- Store standing codes. -/
def StoreStanding.code : StoreStanding → Byte
  | .full => 0
  | .majority => 1
  | .single => 2
  | .blank => 3

/-- Store activity codes. -/
def StoreActivity.code : StoreActivity → Byte
  | .voting => 0
  | .idle => 1
  | .repairing => 2
  | .committing => 3

/-- Bank codes. -/
def BankName.code : BankName → Byte
  | .a => 0
  | .b => 1
  | .c => 2

/-- Reset cause codes. -/
def ResetCause.code : ResetCause → Byte
  | .power => 0
  | .pin => 1
  | .restart => 2

/-- Status codes (12.1). -/
def Status.code : Status → Byte
  | .ok => 0x00
  | .unknownKind => 0x01
  | .badLength => 0x02
  | .badField => 0x03
  | .wrongMode => 0x04
  | .wrongState => 0x05
  | .notReady => 0x06
  | .busy => 0x07
  | .tagConflict => 0x08
  | .laneBusy => 0x10
  | .laneDown => 0x11
  | .noReply => 0x12
  | .moduleError => 0x13
  | .aborted => 0x14
  | .timeout => 0x15
  | .ackRange => 0x20
  | .duplicateBinding => 0x30
  | .lampInUse => 0x31
  | .groupFull => 0x32
  | .notDefined => 0x33
  | .storeBusy => 0x40
  | .storeFailed => 0x41

/-! ## Absent fields (R189) -/

/-- A control number, FFFFh when absent. -/
def controlOrAbsent : Option ControlId → Half
  | none => 0xFFFF
  | some c => BitVec.ofNat 16 c.val

/-- A control number. -/
def controlHalf (c : ControlId) : Half := BitVec.ofNat 16 c.val

/-! ## READ-CONTROLS, READ-GROUPS and READ-CONTROL-DEF entries (12.3) -/

/-- The flags byte of a READ-CONTROLS entry of a defined control: bit 0 defined, bit 1 selected, bit 2 last
change present, bits 3-4 kind, bits 5-6 physical, bit 7 latched ON. -/
def controlFlags (kind : ControlKind) (c : ControlState) (selected : Bool) : Byte :=
  1#8 ||| (flagCode selected <<< 1) ||| (flagCode c.lastChange.isSome <<< 2) ||| (kindCode kind <<< 3) |||
    (c.physical.code <<< 5) ||| (flagCode c.latched <<< 7)

/-- The ten bytes of a definition after the defined byte (12.3, R189). -/
def definitionBytes (d : ControlDef) : List Byte :=
  let group := match d.kind with
    | .member g => byteOf g.val
    | _ => 0
  let binding := match d.binding with
    | some b => [1, byteOf b.lane.val, flagCode b.extended, b.code]
    | none => [0, 0, 0, 0]
  let lamp := match d.lamp with
    | some r => [1, byteOf r.position.lane.val, byteOf r.position.lamp.val, senseCode r.sense]
    | none => [0, 0, 0, 0]
  [kindCode d.kind, group] ++ binding ++ lamp

/-- The defined byte of an identifier and the ten bytes of its definition, all zeros where it is undefined
(12.3, R189). -/
def definedBytes (d : Option ControlDef) : List Byte :=
  match d with
  | some d => 1 :: definitionBytes d
  | none => List.replicate 11 0

/-- The entry byte of READ-LANE: bits 0-3 the kind, bit 7 host origin (12.3). DESIGN CHOICE: bits 4-6, of which
12.3 says nothing, are sent as 0 (log 33). -/
def entryByte (e : Entry) : Byte := e.kind.code ||| (flagCode e.request.isSome <<< 7)

/-- An entry byte, FFh for none (R189). -/
def entryByteOrAbsent : Option Entry → Byte
  | none => 0xFF
  | some e => entryByte e

/-! ## Records and reports (12.4) -/

/-- Record kind code and kind fields (12.4). DESIGN CHOICE: bits 2-7 of the flags byte of an UNMAPPED record, of
which 12.4 says nothing, are sent as 0 (log 34). -/
def Event.bytes : Event → List Byte
  | .press c => 0x01 :: be16 (controlHalf c)
  | .release c => 0x02 :: be16 (controlHalf c)
  | .toggled c v => 0x03 :: be16 (controlHalf c) ++ [flagCode v]
  | .selected g c p => [0x04, byteOf g.val] ++ be16 (controlHalf c) ++ be16 (controlOrAbsent p)
  | .deselected g c => [0x05, byteOf g.val] ++ be16 (controlHalf c)
  | .unmapped l ext rel code => [0x06, byteOf l.val, flagCode ext ||| (flagCode rel <<< 1), code]
  | .codeError l b p => [0x07, byteOf l.val, b, p.code]
  | .laneStatus l ph mt lf n => [0x08, byteOf l.val, ph.code, mt.getD 0, faultCode lf, n]

/-- A record: sequence, timestamp, kind, kind fields. -/
def Record.bytes (r : Record) : List Byte := be16 r.sequence ++ be32 r.timestamp ++ r.event.bytes

/-- An event report: kind C0h, tag 0, the count, then the records, oldest first. -/
def reportFrame (records : List Record) : HostFrame :=
  ⟨0x00, 0xC0, byteOf records.length :: records.flatMap Record.bytes⟩

/-! ## Host frames (R168) -/

/-- LEN: TAG, KIND and BODY together. -/
def HostFrame.len (f : HostFrame) : Byte := byteOf (f.body.length + 2)

/-- CHK: the CRC-16 over LEN, TAG, KIND and BODY. -/
def HostFrame.check (f : HostFrame) : Half := crc16 (f.len :: f.tag :: f.kind :: f.body)

/-- The bytes of a frame on the line, in order. -/
def HostFrame.wire (f : HostFrame) : List Byte :=
  0xA5 :: f.len :: f.tag :: f.kind :: (f.body ++ be16 f.check)

/-- The ten bits of a byte on the host line, in the order they are sent: start bit 0, eight data bits from the
least significant, no parity, one stop bit (R167). -/
def hostByteBits (b : Byte) (stop : Bool) : List Bool := false :: dataBits b ++ [stop]

/-- The bits of a frame on HTXD: every byte directly after the byte before it, each with stop bit 1 (R167). -/
def HostFrame.lineBits (f : HostFrame) : List Bool := f.wire.flatMap fun b => hostByteBits b true

/-- The body of a reply: its status, then its data. -/
def Reply.body (r : Reply) : List Byte := r.status.code :: r.data

/-- A reply frame: the request's tag, the request kind plus 80h modulo 100h (R168). -/
def replyFrame (tag kind : Byte) (r : Reply) : HostFrame := ⟨tag, kind + 0x80, r.body⟩

/-- A frame is the reply of a RESTART that completed with OK (R175). -/
def isRestartReply (f : HostFrame) : Bool := f.kind == 0x83 && f.body == (bare .ok).body

end Sys2Proof.Machine
end

