-- ==== Sys2Proof/Machine/Controls.lean ====
section
/-! DEFINITION. The Control Table (01): dynamic parts, selections, actions, lit values, and what changes of
lanes, mode and definitions do to them; with the follow writes of the lamp logic (R18, R123), which every
one of these happenings hands its lit values to. -/

namespace Sys2Proof.Machine

/-! ## Reading the table -/

/-- A control as it stands when its identifier becomes defined (R5). -/
def ControlState.fresh : ControlState := ⟨.unknown, false, none⟩

/-- The definition of an identifier in the working configuration (R1); `none` is undefined. -/
def State.definition (s : State) (c : ControlId) : Option ControlDef := lookupKey s.config.working.controls c

/-- The dynamic part of an identifier (R2). -/
def State.control (s : State) (c : ControlId) : ControlState := (lookupKey s.table.entries c).getD .fresh

/-- The selected member of a group (R6). -/
def State.selection (s : State) (g : GroupId) : Option ControlId := s.table.selections[g]

/-- The mode of a group (R6). -/
def State.groupMode (s : State) (g : GroupId) : GroupMode := s.config.working.groupModes[g]

/-- The control is its group's selected member (R19). -/
def State.isSelected (s : State) (c : ControlId) (d : ControlDef) : Bool :=
  match d.kind with
  | .member g => decide (s.selection g = some c)
  | _ => false

/-- A definition is bound to a lane. -/
def defBoundTo (d : ControlDef) (l : LaneId) : Bool :=
  match d.binding with
  | some b => decide (b.lane = l)
  | none => false

/-- The control is defined and bound to the lane. -/
def State.boundTo (s : State) (c : ControlId) (l : LaneId) : Bool :=
  match s.definition c with
  | some d => defBoundTo d l
  | none => false

/-! ## Changing the table -/

/-- The state with one control's dynamic part set. -/
def State.setControl (s : State) (c : ControlId) (x : ControlState) : State :=
  { s with table := { s.table with entries := insertKey s.table.entries c x } }

/-- The state with every dynamic part changed. -/
def State.mapControls (s : State) (f : ControlId → ControlState → ControlState) : State :=
  { s with table := { s.table with entries := s.table.entries.map fun e => (e.1, f e.1 e.2) } }

/-- The state with one group's selection set. -/
def State.setSelection (s : State) (g : GroupId) (c : Option ControlId) : State :=
  { s with table := { s.table with selections := s.table.selections.set g c } }

/-- The physical state becomes `p`; last change is set when it changes (R4). -/
def ControlState.withPhysical (now : Word) (p : Physical) (x : ControlState) : ControlState :=
  if x.physical = p then x else { x with physical := p, lastChange := some now }

/-- The selection status changes, so last change is set (R4). -/
def ControlState.touched (now : Word) (x : ControlState) : ControlState := { x with lastChange := some now }

/-! ## Lit values (R17) and the follow writes (R18, R123) -/

/-- The lit value from kind, state, selection and sense (R17). -/
def litOf (kind : ControlKind) (sense : Sense) (x : ControlState) (selected : Bool) : Bool :=
  let lit := match kind with
    | .momentary => decide (x.physical = .down)
    | .toggle => x.latched
    | .member _ => selected
  match sense with
  | .normal => lit
  | .inverted => !lit

/-- The lamp position of a defined control with its lit value; nothing for a control without a lamp. -/
def State.handedLamp (s : State) (c : ControlId) : List (LampPosition × Bool) :=
  match s.definition c with
  | some d =>
    match d.lamp with
    | some r => [(r.position, litOf d.kind r.sense (s.control c) (s.isSelected c d))]
    | none => []
  | none => []

/-- The lamps of several controls. -/
def State.handedLamps (s : State) (cs : List ControlId) : List (LampPosition × Bool) :=
  cs.flatMap s.handedLamp

/-- The lit value of a lamp position: that of the defined control that references it, or OFF (R17, R129). -/
def State.litAt (s : State) (p : LampPosition) : Bool :=
  match s.config.working.controls.find? fun e => decide (e.2.lampPosition = some p) with
  | some (c, d) =>
    match d.lamp with
    | some r => litOf d.kind r.sense (s.control c) (s.isSelected c d)
    | none => false
  | none => false

/-- Every lamp position of every lane (R18, full recompute). -/
def allPositions : List LampPosition :=
  (List.finRange 8).flatMap fun l => (List.finRange 16).map fun n => ⟨l, n⟩

/-- The identifiers defined in the working configuration. -/
def State.definedControls (s : State) : List ControlId := s.config.working.controls.map (·.1)

/-- The defined controls bound to a lane. -/
def State.controlsBoundTo (s : State) (l : LaneId) : List ControlId :=
  (s.config.working.controls.filter fun e => defBoundTo e.2 l).map (·.1)

/-- The image bit of a lamp: bit n stands for lamp n (12, opening). -/
def lampBit (n : LampId) : Half := 1#16 <<< n.val

/-- An image with one lamp set. -/
def setLamp (image : Half) (n : LampId) (on : Bool) : Half :=
  if on then image ||| lampBit n else image &&& ~~~(lampBit n)

/-- A lamp's owner is HOST (R122). -/
def Lane.hostOwns (x : Lane) (n : LampId) : Bool := x.owners.getLsbD n.val

/-- One handed value reaches a lane's desired image if it is for this lane and the owner is FOLLOW; it is
discarded if the owner is HOST (R123). -/
def followWrite (l : LaneId) (owners : Half) (image : Half) (h : LampPosition × Bool) : Half :=
  if h.1.lane = l ∧ owners.getLsbD h.1.lamp.val = false then setLamp image h.1.lamp h.2 else image

/-- All values handed in one happening are written (R123); versions follow in `settleLamps`. -/
def State.writeLamps (s : State) (handed : List (LampPosition × Bool)) : State :=
  s.mapLanes fun l x => { x with desired := handed.foldl (followWrite l x.owners) x.desired }

/-- A LAMP entry is in the command list. -/
def Lane.hasLampEntry (x : Lane) : Bool := x.list.any fun e => decide (e.kind = .lamp)

/-- A LAMP entry is queued at the tail on a RUNNING lane unless one is in the list (R123). -/
def Lane.queueLamp (x : Lane) : Lane :=
  if x.phase = .running ∧ x.hasLampEntry = false then { x with list := x.list ++ [⟨.lamp, none⟩] } else x

/-- The end of a happening for one lane's lamps. A lane that entered RUNNING has its images sent afresh
(R129, steps 3 and 4). Otherwise the desired version advances by one when the desired image differs from
what it was before the happening, and a LAMP entry is queued (R123). -/
def settleLane (before x : Lane) : Lane :=
  if before.phase ≠ .running ∧ x.phase = .running then
    ({ x with acked := 0, desiredVersion := 1, ackedVersion := 0 } : Lane).queueLamp
  else if x.desired = before.desired then x
  else ({ x with desiredVersion := x.desiredVersion + 1 } : Lane).queueLamp

/-- The end of a happening for the lamps of every lane (R123, R129). -/
def settleLamps (before after : State) : State := after.mapLanes fun l x => settleLane (before.lane l) x

/-! ## Actions (R8 to R12) -/

/-- The record an action on a defined control yields (R9 to R12). -/
def actionEvent (s : State) (c : ControlId) (d : ControlDef) (release : Bool) : Option Event :=
  let x := s.control c
  match release, d.kind with
  | false, .momentary => if x.physical = .down then none else some (.press c)
  | false, .toggle => if x.physical = .down then none else some (.toggled c (!x.latched))
  | false, .member g =>
    if x.physical = .down then none
    else if s.selection g = some c then
      match s.groupMode g with
      | .forced => none
      | .optional => some (.deselected g c)
    else some (.selected g c (s.selection g))
  | true, .momentary => if x.physical = .down then some (.release c) else none
  | true, _ => none

/-- A press that finds the key not DOWN, by kind (R9 to R11). -/
def pressState (s : State) (c : ControlId) (d : ControlDef) : State :=
  let now := s.time.uptime
  let x := s.control c
  let down : ControlState := { x with physical := .down, lastChange := some now }
  match d.kind with
  | .momentary => s.setControl c down
  | .toggle => s.setControl c { down with latched := !x.latched }
  | .member g =>
    if s.selection g = some c then
      match s.groupMode g with
      | .forced => s.setControl c down
      | .optional => (s.setControl c down).setSelection g none
    else
      let moved := match s.selection g with
        | some p => s.setControl p ((s.control p).touched now)
        | none => s
      (moved.setControl c down).setSelection g (some c)

/-- What an action does to the table (R9 to R12), lamps aside. -/
def actionState (s : State) (c : ControlId) (d : ControlDef) (release : Bool) : State :=
  if release then s.setControl c ((s.control c).withPhysical s.time.uptime .up)
  else if (s.control c).physical = .down then s
  else pressState s c d

/-- The previous member a SELECTED record names (R18). -/
def previousMember : Option Event → List ControlId
  | some (.selected _ _ (some p)) => [p]
  | _ => []

/-- An action taken whole (R8): the table changes, and the lit values that may have changed are handed. -/
def takeAction (s : State) (c : ControlId) (d : ControlDef) (release : Bool) : State :=
  let t := actionState s c d release
  t.writeLamps (t.handedLamps (c :: previousMember (actionEvent s c d release)))

/-! ## Lane start, lane loss and mode changes (R13 to R16) -/

/-- The defined controls bound to a lane take a physical state (R13, R14). -/
def setBoundPhysical (s : State) (l : LaneId) (p : Physical) : State :=
  s.mapControls fun c x => if s.boundTo c l then x.withPhysical s.time.uptime p else x

/-- The lit values of the controls bound to a lane are handed (R18). -/
def handBound (s : State) (l : LaneId) : State := s.writeLamps (s.handedLamps (s.controlsBoundTo l))

/-- ENTER-CONFIG at the table: every control UNKNOWN, the lamps of all defined controls handed (R15). -/
def allUnknown (s : State) : State :=
  let t := s.mapControls fun _ x => x.withPhysical s.time.uptime .unknown
  t.writeLamps (t.handedLamps t.definedControls)

/-- A control bound to a lane whose phase is RUNNING. -/
def State.boundRunning (s : State) (c : ControlId) : Bool :=
  match s.definition c with
  | some d =>
    match d.binding with
    | some b => decide ((s.lane b.lane).phase = .running)
    | none => false
  | none => false

/-- EXIT-CONFIG at the table: bound controls of RUNNING lanes UP, every lamp position recomputed (R16). -/
def exitUp (s : State) : State :=
  let t := s.mapControls fun c x => if s.boundRunning c then x.withPhysical s.time.uptime .up else x
  t.writeLamps (allPositions.map fun p => (p, t.litAt p))

/-! ## Definition changes (R5, R7, R18) -/

/-- Two kinds are the same kind, whatever the group (R5: "kind unchanged"). -/
def sameKind : ControlKind → ControlKind → Bool
  | .momentary, .momentary => true
  | .toggle, .toggle => true
  | .member _, .member _ => true
  | _, _ => false

/-- The selection a group keeps under new definitions (R7). -/
def keptSelection (s : State) (image : ConfigImage) (g : GroupId) : Option ControlId :=
  match s.selection g with
  | some c =>
    match lookupKey image.controls c with
    | some d => if d.kind = .member g then some c else none
    | none => none
  | none => none

/-- A selection that a control held is cleared by new definitions (R7). -/
def losesSelection (s : State) (image : ConfigImage) (c : ControlId) : Bool :=
  (List.finRange 32).any fun g => decide (s.selection g = some c ∧ keptSelection s image g ≠ some c)

/-- The dynamic part of an identifier under its new definition (R5). -/
def alignedControl (s : State) (image : ConfigImage) (c : ControlId) (d : ControlDef) : ControlState :=
  match s.definition c with
  | none => .fresh
  | some o =>
    let x := s.control c
    let cleared := !sameKind o.kind d.kind
    { x with
      latched := if cleared then false else x.latched
      lastChange := if (cleared && x.latched) || losesSelection s image c then some s.time.uptime else x.lastChange }

/-- The identifiers whose definition differs between the working configuration and a new image. -/
def changedControls (s : State) (image : ConfigImage) : List ControlId :=
  (s.definedControls ++ image.controls.map (·.1)).filter fun c =>
    decide (s.definition c ≠ lookupKey image.controls c)

/-- A lamp position that some defined control of an image references. -/
def imageReferences (image : ConfigImage) (p : LampPosition) : Bool :=
  image.controls.any fun e => decide (e.2.lampPosition = some p)

/-- The old lamp of an identifier, handed OFF when no control references it any more (R18). -/
def releasedLamp (s : State) (image : ConfigImage) (c : ControlId) : List (LampPosition × Bool) :=
  match (s.definition c).bind ControlDef.lampPosition with
  | some p => if imageReferences image p then [] else [(p, false)]
  | none => []

/-- The definitions and group modes of the working configuration are replaced: dynamic parts and selections
are brought into line (R5, R7) and the lamps of every changed identifier are handed (R18). -/
def replaceDefinitions (s : State) (image : ConfigImage) : State :=
  let t : State :=
    { s with
      config := { s.config with working := image }
      table :=
        { entries := image.controls.map fun e => (e.1, alignedControl s image e.1 e.2)
          selections := Vector.ofFn fun g => keptSelection s image g } }
  let changed := changedControls s image
  t.writeLamps (changed.flatMap (releasedLamp s image) ++ t.handedLamps changed)

/-- The dirty flag is recomputed by comparing the two images (R135). -/
def recomputeDirty (s : State) : State :=
  { s with config := { s.config with dirty := decide (s.config.working ≠ s.config.storeCopy) } }

end Sys2Proof.Machine
end

