-- ==== Sys2Proof/Machine/Turns.lean ====
section
/-! DEFINITION. How the Code Translator judges a turn (R63 to R72): which lane it goes to, what the lane's
item is, which record it would create, and whether it waits for queue space. -/

namespace Sys2Proof.Machine

/-- EXT prefix byte. -/
def extByte : Byte := 0xB0
/-- REL prefix byte. -/
def relByte : Byte := 0xB8

/-- What a byte does with the prefix state (R69): moves it, breaks the order or is illegal, or completes a
key code with its extended and release flags. -/
inductive Taken where
  | moved (state : PrefixState)
  | offending
  | completed (extended release : Bool)
  deriving DecidableEq, Repr

/-- The extended flag a prefix state gives a completed code (R69). -/
def PrefixState.isExtended : PrefixState → Bool
  | .ext | .extRel => true
  | .none | .rel => false

/-- The release flag a prefix state gives a completed code (R69). -/
def PrefixState.isRelease : PrefixState → Bool
  | .rel | .extRel => true
  | .none | .ext => false

/-- The table of R69 over the classes of R68. DESIGN CHOICE: B4h, B5h, BEh and BFh, which R68 puts in no class since
they never stand in a slot, would be offending (log 36). -/
def classifyByte (p : PrefixState) (b : Byte) : Taken :=
  if b = extByte then
    match p with
    | .none => .moved .ext
    | _ => .offending
  else if b = relByte then
    match p with
    | .none => .moved .rel
    | .ext => .moved .extRel
    | _ => .offending
  else if isKeyCode b then .completed p.isExtended p.isRelease
  else .offending

/-- The prefix state after a byte is taken (R69): NONE after a completed code and after CODE_ERROR. -/
def Taken.nextPrefix : Taken → PrefixState
  | .moved p => p
  | _ => .none

/-- The prefix state of a lane (R62). -/
def State.prefixOf (s : State) (l : LaneId) : PrefixState := s.translator.prefixes[l]

/-- The prefix state of a lane is set (R69, R73). -/
def State.setPrefix (s : State) (l : LaneId) (p : PrefixState) : State :=
  { s with translator := { s.translator with prefixes := s.translator.prefixes.set l p } }

/-- The defined control bound to a key: the lookup of R71 and R75. -/
def State.boundControl (s : State) (l : LaneId) (extended : Bool) (code : Byte) :
    Option (ControlId × ControlDef) :=
  s.config.working.controls.find? fun e => decide (e.2.binding = some ⟨l, extended, code⟩)

/-- The LANE_STATUS record fields of a lane as it stands (R29). -/
def laneStatusEvent (s : State) (l : LaneId) : Event :=
  let x := s.lane l
  .laneStatus l x.phase (x.known.map (·.moduleType)) x.lastFault x.faultsSince

/-- The record that taking the byte in a lane's slot would create (R65, R70 to R72). -/
def byteEvent (s : State) (l : LaneId) (b : Byte) : Option Event :=
  match classifyByte (s.prefixOf l) b with
  | .moved _ => none
  | .offending => some (.codeError l b (s.prefixOf l))
  | .completed ext rel =>
    match s.config.mode with
    | .run =>
      match s.boundControl l ext b with
      | some (c, d) => actionEvent s c d rel
      | none => some (.unmapped l ext rel b)
    | _ => none

/-- The record that a lane's item would create (R64, R65). -/
def turnEvent (s : State) (l : LaneId) : Option Event :=
  if (s.lane l).statusWanted then some (laneStatusEvent s l)
  else
    match (s.lane l).slot with
    | some b => byteEvent s l b
    | none => none

/-- A lane is eligible when its status-wanted flag is raised or its slot holds a byte (R63). -/
def eligible (s : State) (l : LaneId) : Bool := (s.lane l).statusWanted || (s.lane l).slot.isSome

/-- The lanes in the order a turn considers them: from the starting lane upward, 7 round to 0 (R63). -/
def laneOrder (start : LaneId) : List LaneId := (List.finRange 8).map fun i => start + i

/-- The lane the next turn goes to (R63). -/
def nextLane (s : State) : Option LaneId := (laneOrder s.translator.start).find? (eligible s)

/-- The Event Queue holds 128 records (R25). -/
def queueFull (s : State) : Bool := decide (128 ≤ s.queue.records.length)

/-- The lane's turn is not served: it would create a record, delivery is ON or STALLED, the queue is full
(R65). -/
def turnHeld (s : State) (l : LaneId) : Bool :=
  decide (s.delivery.state ≠ .off) && queueFull s && (turnEvent s l).isSome

/-- The lane whose turn waits when a turn is considered now (R65): the first eligible lane from the starting lane.
DESIGN CHOICE: also where a lane before the waiting one has become eligible during the wait, of which R66 says both
that the first eligible lane is chosen and that it is the lane of the waiting turn (log 35). -/
def heldLane (s : State) : Option LaneId :=
  match nextLane s with
  | some l => if turnHeld s l then some l else none
  | none => none

/-- While the Translator waits, it considers the turn anew (R66). -/
def reconsider (s : State) : State :=
  match s.translator.waiting with
  | none => s
  | some _ => { s with translator := { s.translator with waiting := heldLane s } }

end Sys2Proof.Machine
end

