-- ==== Sys2Proof/Machine/Lanes.lean ====
section
/-! DEFINITION. The Lane Controller's phase machine (06): faults, phases, the command list, HELLO, entering
and leaving RUNNING, module loss, and the application of lane settings. -/

namespace Sys2Proof.Machine

/-! ## Small facts about a lane -/

/-- A start-up entry (R103): PROBE-IDENTIFY, ENABLE or DISABLE. -/
def Entry.isStartUp (e : Entry) : Bool :=
  match e.kind with
  | .probeIdentify | .enable | .disable => true
  | .identify | .rescan | .resetModule | .lamp => false

/-- An entry fits a phase (R103): start-up entries ABSENT, STARTING and MISMATCH, the others RUNNING. -/
def Entry.fits (e : Entry) (p : Phase) : Bool :=
  match p with
  | .running => !e.isStartUp
  | .absent | .starting | .mismatch => e.isStartUp
  | .disabled => false

/-- The activity of a lane with no exchange: a module frame in progress is RECEIVING, a full slot HELD,
otherwise IDLE (R94, R101; log 14). -/
def restActivity (x : Lane) : Activity :=
  if x.frame.isSome then .receiving else if x.slot.isSome then .held else .idle

/-- A module type matches when the expected type is 00h or equals it (R100). -/
def matchesType (expected : Byte) (known : Option ModuleId) : Bool :=
  expected == 0 || known.map (·.moduleType) == some expected

/-- The expected type in force for a lane (R107). -/
def State.expectedType (s : State) (l : LaneId) : Byte := s.config.working.lanes[l].expectedType

/-- Delivery is not OFF, so phase changes and faults raise status-wanted (R112). -/
def State.delivering (s : State) : Bool := decide (s.delivery.state ≠ .off)

/-- A fault is recorded in the latch (R111, R112). -/
def recordFault (s : State) (l : LaneId) (k : LaneFault) : State :=
  s.modLane l fun x =>
    { x with
      firstFault := if x.firstFault.isNone then some k else x.firstFault
      lastFault := some k
      faultCount := saturate8 x.faultCount
      faultsSince := saturate8 x.faultsSince
      statusWanted := x.statusWanted || s.delivering }

/-- A phase change (R100): the failure count becomes 0 (R109), the probe due time and the hello deadline are
cleared (R105, R118), entries that do not fit leave the list, and status-wanted is raised (R112). -/
def changePhase (s : State) (l : LaneId) (p : Phase) (step : Option StartStep) : State :=
  s.modLane l fun x =>
    { x with
      phase := p
      startStep := step
      failures := 0
      probeDue := none
      helloDeadline := none
      list := x.list.filter (·.fits p)
      statusWanted := x.statusWanted || s.delivering }

/-- A change of start step within STARTING: no phase change (R100). -/
def changeStep (s : State) (l : LaneId) (step : StartStep) : State :=
  s.modLane l fun x => { x with startStep := some step, helloDeadline := none }

/-- A start-up entry is queued; it replaces any other (R103). -/
def queueStartUp (s : State) (l : LaneId) (k : EntryKind) : State :=
  s.modLane l fun x => { x with list := x.list.filter (fun e => !e.isStartUp) ++ [⟨k, none⟩] }

/-- Module type and lamp count become known, or unknown. -/
def setKnown (s : State) (l : LaneId) (m : Option ModuleId) : State :=
  s.modLane l fun x => { x with known := m }

/-- The lane enters ABSENT: module unknown, a probe queued at once (R105, R107, R110). -/
def enterAbsent (s : State) (l : LaneId) : State :=
  queueStartUp (setKnown (changePhase s l .absent none) l none) l .probeIdentify

/-- The lane enters MISMATCH: DISABLE queued (R107, R108). -/
def enterMismatch (s : State) (l : LaneId) : State :=
  queueStartUp (changePhase s l .mismatch none) l .disable

/-! ## Leaving RUNNING (R114) and module loss (R110) -/

/-- The requests that end when a lane leaves RUNNING, in order: the entry in progress, the host entries in
list order, the SET-LAMPS waiters in the order taken (R114). -/
def Lane.hostWork (x : Lane) : List SlotId :=
  (x.inProgress.bind (·.request)).toList ++ x.list.filterMap (·.request) ++ x.waiters.map (·.slot)

/-- The lane's own state when it leaves RUNNING (R114, R127): the exchange abandoned, all RUNNING entries
gone, no waiters, no sent image, the slot emptied. -/
def Lane.leaving (x : Lane) : Lane :=
  let y : Lane :=
    { x with
      exchange := none
      inProgress := none
      parityCount := none
      sent := none
      list := x.list.filter (·.isStartUp)
      waiters := []
      slot := none }
  { y with activity := restActivity y }

/-- The Translator considers the turn anew when the lane of the waiting turn leaves RUNNING (R66). -/
def reconsiderFor (s : State) (l : LaneId) : State :=
  if s.translator.waiting = some l then reconsider s else s

/-- The lane leaves RUNNING (R114): host work ends with the status, the lane is cleared, the prefix state
becomes NONE, the bound controls UNKNOWN with their lamps handed (R14, R18), status-wanted is raised. The
phase itself changes in the caller. -/
def leaveRunning (s : State) (l : LaneId) (status : Status) : State :=
  let s := completeAll s (s.lane l).hostWork (bare status)
  let s := s.modLane l Lane.leaving
  let s := s.setPrefix l .none
  let s := handBound (setBoundPhysical s l .unknown) l
  let s := s.modLane l fun x => { x with statusWanted := x.statusWanted || s.delivering }
  reconsiderFor s l

/-- The module is lost (R110). -/
def loseModule (s : State) (l : LaneId) : State :=
  enterAbsent (leaveRunning (recordFault s l .moduleLost) l .laneDown) l

/-! ## Entering RUNNING (R113, R129) -/

/-- Every lamp of the lane whose owner is FOLLOW takes its lit value as the table computes it (R129). -/
def refreshFollow (s : State) (l : LaneId) : State :=
  s.writeLamps ((List.finRange 16).map fun n => (⟨l, n⟩, s.litAt ⟨l, n⟩))

/-- The lane enters RUNNING (R113): bound controls UP in RUN mode (R13), lit values handed, FOLLOW lamps
refreshed (R129). `settleLamps` then sets the versions to 1 and 0 and queues the LAMP entry. -/
def enterRunning (s : State) (l : LaneId) : State :=
  let s := changePhase s l .running none
  let s := match s.config.mode with
    | .run => setBoundPhysical s l .up
    | _ => s
  refreshFollow (handBound s l) l

/-! ## HELLO (R106) -/

/-- The module has restarted: its type is asked for again (R106). -/
def restartStart (s : State) (l : LaneId) : State :=
  queueStartUp (setKnown s l none) l .probeIdentify

/-- A HELLO is taken, by phase and step (R106). Outside RUNNING a start-up entry in progress has been ended
by the HELLO and is replaced. -/
def helloTaken (s : State) (l : LaneId) : State :=
  let x := s.lane l
  let dropped := s.modLane l fun x => { x with inProgress := none }
  match x.phase with
  | .absent =>
    let t := dropped.modLane l fun x => { x with probeDue := none }
    if x.list.any fun e => decide (e.kind = .probeIdentify) then t else queueStartUp t l .probeIdentify
  | .starting =>
    match x.startStep with
    | some .waitHello => queueStartUp (changeStep dropped l .identify) l .probeIdentify
    | _ => restartStart (changeStep dropped l .identify) l
  | .running =>
    let t := leaveRunning (recordFault s l .moduleRestart) l .laneDown
    restartStart (changePhase t l .starting (some .identify)) l
  | .mismatch => restartStart (changePhase dropped l .starting (some .identify)) l
  | .disabled => s

/-! ## Type checks (R107, R117) -/

/-- A type that does not match: fault TYPE_MISMATCH, phase MISMATCH, DISABLE queued (R107). -/
def typeMismatch (s : State) (l : LaneId) : State := enterMismatch (recordFault s l .typeMismatch) l

/-- The type of a lane found by a probe or after a HELLO is checked (R107). -/
def checkIdentified (s : State) (l : LaneId) : State :=
  if matchesType (s.expectedType l) (s.lane l).known then
    let t := match (s.lane l).phase with
      | .starting => changeStep s l .enable
      | _ => changePhase s l .starting (some .enable)
    queueStartUp t l .enable
  else typeMismatch s l

/-- The type is checked again when SCAN-ENABLE is acknowledged in step ENABLE (R107). -/
def checkEnabled (s : State) (l : LaneId) : State :=
  if matchesType (s.expectedType l) (s.lane l).known then enterRunning s l else typeMismatch s l

/-! ## Lane settings (R115) -/

/-- Disabling (R115): from RUNNING by R114 with ABORTED; everything under way is dropped; the activity is OFF,
or RECEIVING until a module frame in progress ends (R80). -/
def disableLane (s : State) (l : LaneId) : State :=
  let s := if (s.lane l).phase = .running then leaveRunning s l .aborted else s
  let s := changePhase s l .disabled none
  s.modLane l fun x =>
    { x with
      exchange := none
      inProgress := none
      parityCount := none
      known := none
      list := []
      activity := if x.frame.isSome then .receiving else .off }

/-- Enabling (R115): IDLE, phase ABSENT, a probe queued at once (R105). -/
def enableLane (s : State) (l : LaneId) : State :=
  (enterAbsent s l).modLane l fun x => { x with activity := restActivity x }

/-- A changed expected type (R115). -/
def applyExpectedType (s : State) (l : LaneId) : State :=
  let fit := matchesType (s.expectedType l) (s.lane l).known
  match (s.lane l).phase with
  | .running =>
    if fit then s else enterMismatch (leaveRunning (recordFault s l .typeMismatch) l .aborted) l
  | .mismatch => if fit then queueStartUp (changePhase s l .starting (some .enable)) l .enable else s
  | .absent | .starting | .disabled => s

/-- A lane takes its setting from the working configuration (R115); `old` is the setting before. DESIGN CHOICE: a
change that disables the lane and gives another expected type as well fits two rows of R115's table; the row of
disabling alone is taken, and no TYPE_MISMATCH is recorded (log 38). -/
def applySetting (s : State) (l : LaneId) (old : LaneSetting) : State :=
  let new := s.config.working.lanes[l]
  match new.enabled, decide ((s.lane l).phase = .disabled) with
  | false, false => disableLane s l
  | false, true => s
  | true, true => enableLane s l
  | true, false => if new.expectedType = old.expectedType then s else applyExpectedType s l

/-- Every lane takes its setting, lane by lane from lane 0 upward (R147). -/
def applyAllSettings (s : State) (old : Vector LaneSetting 8) : State :=
  (List.finRange 8).foldl (fun s l => applySetting s l old[l]) s

end Sys2Proof.Machine
end

