-- ==== Sys2Proof/Machine/Store.lean ====
section
/-! DEFINITION. The Configuration Store (09): the check code, the start-up vote, bank writes, repair, COMMIT
and READ-STORE, with the hand-over of the voted image to the Configuration Unit (R137). -/

namespace Sys2Proof.Machine

/-! ## Check code (R149) -/

/-- One bit of the CRC-32 of polynomial 04C11DB7h. -/
def crc32Bit (c : Word) (bit : Bool) : Word :=
  if c.msb != bit then (c <<< 1) ^^^ 0x04C11DB7#32 else c <<< 1

/-- The CRC-32 with initial value FFFFFFFFh over a sequence of bits (R149). DESIGN CHOICE: the most significant bit
is shifted out first, the result is not reflected, and no final value is added; R149 gives the polynomial and the
initial value only (log 9). -/
def crc32 (bits : List Bool) : Word := bits.foldl crc32Bit 0xFFFFFFFF#32

/-- A content with every item of R134: the eight lane settings, the 512 definitions, the 32 group modes, the
retransmit timeout and limit. DESIGN CHOICE: the spec does not say how the store codes an item; the codes are those
of chapter 12 (log 9). -/
def contentBytes (content : ConfigImage) : List Byte :=
  content.lanes.toList.flatMap (fun x => [flagCode x.enabled, x.expectedType]) ++
    (List.finRange 512).flatMap (fun c => definedBytes (lookupKey content.controls c)) ++
    content.groupModes.toList.map groupModeCode ++ be16 (BitVec.ofNat 16 content.retransmitTimeout) ++
    [byteOf content.retransmitLimit]

/-- Bits in the order in which the CRC takes them (log 9). -/
def inStoredOrder (bits : List Bool) : List Bool :=
  List.ofFn fun i => bits.get (Config.storedOrder bits.length i)

/-- The bits of a bank that its CRC is taken over: the generation's, then the content's (R149). -/
def bankBits (generation : Word) (content : ConfigImage) : List Bool :=
  inStoredOrder ((be32 generation).flatMap dataBits) ++ inStoredOrder ((contentBytes content).flatMap dataBits)

/-- The check code computed afresh over a generation and then a content (R149). -/
def freshCheckCode (generation : Word) (content : ConfigImage) : Word := crc32 (bankBits generation content)

/-- The check code a bank holds (R149, log 9). -/
def bankCheckCode (b : StoredBank) : Word := freshCheckCode b.generation b.content ^^^ b.checkError

/-! ## Banks -/

/-- What a bank holds. -/
def PerBank.get {α : Type} (p : PerBank α) (n : BankName) : α :=
  match n with
  | .a => p.a
  | .b => p.b
  | .c => p.c

/-- One bank's thing replaced. -/
def PerBank.set {α : Type} (p : PerBank α) (n : BankName) (x : α) : PerBank α :=
  match n with
  | .a => { p with a := x }
  | .b => { p with b := x }
  | .c => { p with c := x }

/-- The standing of a bank becomes (R150). -/
def setStanding (st : Store) (n : BankName) (v : BankStanding) : Store :=
  { st with views := st.views.set n { st.views.get n with standing := some v } }

/-- A bank becomes VALID with a generation (R150). -/
def setValid (st : Store) (n : BankName) (generation : Word) : Store :=
  { st with views := st.views.set n ⟨some .valid, generation⟩ }

/-- A bank's standing is VALID. -/
def isValid (st : Store) (n : BankName) : Bool := decide ((st.views.get n).standing = some .valid)

/-! ## The vote (R153 to R155) -/

/-- The bank the vote reads next: the first whose standing is not held, in the order A, B, C (R153, R166). -/
def nextBankRead (st : Store) : Option BankName :=
  if st.views.a.standing.isNone then some .a
  else if st.views.b.standing.isNone then some .b
  else if st.views.c.standing.isNone then some .c
  else none

/-- The end of a bank's read sets its standing (R153). -/
def readBank (st : Store) (n : BankName) : Store :=
  let b := st.banks.get n
  { st with views := st.views.set n ⟨some (if b.readsValid then .valid else .invalid), b.generation⟩ }

/-- Two banks are identical: both VALID, same generation, same content (R149). -/
def identicalBanks (st : Store) (m n : BankName) : Bool :=
  isValid st m && isValid st n &&
    decide ((st.banks.get m).generation = (st.banks.get n).generation ∧
      (st.banks.get m).content = (st.banks.get n).content)

/-- The outcome of the vote (R154). -/
structure VoteOutcome where
  image : ConfigImage
  generation : Word
  standing : StoreStanding
  /-- The bank outside a pair, which a repair rewrites. -/
  odd : Option BankName
  deriving DecidableEq, Repr

/-- The better of two candidate banks: the VALID one with the higher generation, the earlier on a tie
(R154). -/
def betterBank (st : Store) (m : Option BankName) (n : BankName) : Option BankName :=
  match m with
  | none => if isValid st n then some n else none
  | some m =>
    if isValid st n && decide ((st.banks.get m).generation < (st.banks.get n).generation) then some n else some m

/-- The VALID bank with the highest generation, the first in the order A, B, C on a tie (R154). -/
def bestBank (st : Store) : Option BankName := betterBank st (betterBank st (betterBank st none .a) .b) .c

/-- An outcome that takes a bank's image. -/
def outcomeOf (st : Store) (n : BankName) (standing : StoreStanding) (odd : Option BankName) : VoteOutcome :=
  ⟨(st.banks.get n).content, (st.banks.get n).generation, standing, odd⟩

/-- The outcome decided from the three standings, generations and contents (R154). -/
def voteOutcome (st : Store) : VoteOutcome :=
  match identicalBanks st .a .b, identicalBanks st .a .c, identicalBanks st .b .c with
  | true, true, _ => outcomeOf st .a .full none
  | true, false, _ => outcomeOf st .a .majority (some .c)
  | false, true, _ => outcomeOf st .a .majority (some .b)
  | false, false, true => outcomeOf st .b .majority (some .a)
  | false, false, false =>
    match bestBank st with
    | some n => outcomeOf st n .single none
    | none => ⟨.defaults, 0, .blank, none⟩

/-- A write attempt begins on a bank: INVALID, and the bank in progress names it (R152). -/
def beginAttempt (st : Store) (n : BankName) (second : Bool) (origin : WriteOrigin) : Store :=
  { setStanding st n .invalid with write := some ⟨n, second, origin⟩ }

/-- The store's own part of the vote's completion (R155): image, generation and standing in use, then the
repair's first attempt or IDLE. -/
def concludeVote (st : Store) (v : VoteOutcome) : Store :=
  let st : Store := { st with image := v.image, generation := v.generation, standing := v.standing }
  match v.odd with
  | some n => beginAttempt { st with activity := .repairing } n false .repair
  | none => { st with activity := .idle }

/-- The Configuration Unit takes the image in use (R137, R22): working configuration and store copy, dirty
clear, definitions loaded with every control UNKNOWN, mode RUN, lane settings applied. -/
def loadImage (s : State) (image : ConfigImage) : State :=
  let t : State :=
    { s with
      config := ⟨.run, image, image, false⟩
      table := ⟨image.controls.map fun e => (e.1, .fresh), Vector.replicate 32 none⟩ }
  applyAllSettings t s.config.working.lanes

/-- The vote completes (R155). -/
def completeVote (s : State) : State :=
  let v := voteOutcome s.store
  loadImage { s with store := concludeVote s.store v } v.image

/-- A bank's read ends (R153); after C the vote completes in the same happening. -/
def bankReadEnds (s : State) : State :=
  match s.store.activity, nextBankRead s.store with
  | .voting, some n =>
    let t := { s with store := readBank s.store n }
    if n = .c then completeVote t else t
  | _, _ => s

/-! ## Bank writes (R152, R156, R159 to R161) -/

/-- What a write puts into a bank: the repair the image in use, the commit its snapshot (R156, R160). -/
def writtenBank (st : Store) (w : BankWrite) : StoredBank :=
  match w.origin, st.commit with
  | .commit, some c => ⟨c.generation, c.snapshot, 0⟩
  | _, _ => ⟨st.generation, st.image, 0⟩

/-- What the bank holds after the attempt (R152, log 11). -/
def heldAfter (written : StoredBank) (r : ReadBack) : StoredBank :=
  match r with
  | .asWritten => written
  | .other b => b

/-- The commit's first attempt on bank A begins (R158, R159). -/
def beginCommit (st : Store) : Store := beginAttempt st .a false .commit

/-- The end of a repair attempt while no commit has been taken (R156). -/
def repairAttemptEnds (st : Store) (w : BankWrite) (pass : Bool) : Store :=
  match pass, w.secondAttempt with
  | true, _ => { setValid st w.bank st.generation with standing := .full, activity := .idle, write := none }
  | false, false => beginAttempt st w.bank true .repair
  | false, true => { setStanding st w.bank .failed with activity := .idle, write := none }

/-- The end of a repair attempt that a commit has overtaken (R159). -/
def overtakenAttemptEnds (st : Store) (w : BankWrite) (pass : Bool) : Store :=
  beginCommit
    (match pass, w.secondAttempt with
      | true, _ => setValid st w.bank st.generation
      | false, false => setStanding st w.bank .invalid
      | false, true => setStanding st w.bank .failed)

/-- The store's standing by the good count (R161). -/
def standingOfGood (good : Nat) : StoreStanding :=
  if good = 0 then .blank else if good = 1 then .single else if good = 2 then .majority else .full

/-- The commit ends (R161): standing, store copy, generation in use and dirty flag are set, the context is
cleared, and the COMMIT request completes. -/
def commitEnds (s : State) (c : CommitContext) : State :=
  let t := recomputeDirty
    { s with
      store :=
        { s.store with
          standing := standingOfGood c.good
          generation := c.generation
          activity := .idle
          commit := none
          write := none }
      config := { s.config with storeCopy := if c.good = 0 then .defaults else c.snapshot } }
  complete t c.slot
    ⟨if 2 ≤ c.good then .ok else .storeFailed, [byteOf c.good] ++ be32 c.generation ++ [flagCode t.config.dirty]⟩

/-- The next bank's first attempt begins, or after bank C the commit ends (R160, R161). -/
def nextBank (s : State) (n : BankName) (c : CommitContext) : State :=
  let s := { s with store := { s.store with commit := some c } }
  match n with
  | .a => { s with store := beginAttempt s.store .b false .commit }
  | .b => { s with store := beginAttempt s.store .c false .commit }
  | .c => commitEnds s c

/-- The end of a commit's attempt (R160). -/
def commitAttemptEnds (s : State) (w : BankWrite) (c : CommitContext) (pass : Bool) : State :=
  match pass, w.secondAttempt with
  | true, _ => nextBank { s with store := setValid s.store w.bank c.generation } w.bank { c with good := c.good + 1 }
  | false, false => { s with store := beginAttempt s.store w.bank true .commit }
  | false, true => nextBank { s with store := setStanding s.store w.bank .failed } w.bank c

/-- A bank write attempt ends (R152): the bank holds what it reads back as, and the attempt passes verify
when that is what was written. -/
def writeAttemptEnds (s : State) (r : ReadBack) : State :=
  match s.store.write with
  | none => s
  | some w =>
    let written := writtenBank s.store w
    let held := heldAfter written r
    let pass := decide (held = written)
    let s := { s with store := { s.store with banks := s.store.banks.set w.bank held } }
    match w.origin, s.store.commit with
    | .repair, none => { s with store := repairAttemptEnds s.store w pass }
    | .repair, some _ => { s with store := overtakenAttemptEnds s.store w pass }
    | .commit, some c => commitAttemptEnds s w c pass
    | .commit, none => s

/-- An attempt cut by a hard reset leaves its bank INVALID at the next vote (R163, log 10). -/
def cutWrite (st : Store) : Store :=
  match st.write with
  | some w => { st with banks := st.banks.set w.bank { st.banks.get w.bank with checkError := 1 }, write := none }
  | none => st

/-! ## COMMIT (R158, R159) and READ-STORE (R165) -/

/-- The generation a bank counts with: its own while VALID, otherwise 0 (R158). -/
def validGeneration (st : Store) (n : BankName) : Nat :=
  if isValid st n then (st.views.get n).generation.toNat else 0

/-- One more than the larger of the generation in use and the highest VALID generation (R158). -/
def commitGeneration (st : Store) : Nat :=
  1 + max st.generation.toNat (max (validGeneration st .a) (max (validGeneration st .b) (validGeneration st .c)))

/-- A COMMIT that is taken (R158, R159): the context is set up; the first attempt on A begins unless a
repair's attempt is in progress. -/
def takeCommit (s : State) (i : SlotId) : State :=
  let c : CommitContext := ⟨s.config.working, BitVec.ofNat 32 (commitGeneration s.store), 0, i⟩
  let st : Store := { s.store with commit := some c, activity := .committing }
  { s with store := if st.write.isSome then st else beginCommit st }

/-- COMMIT (R158). -/
def commitRequest (i : SlotId) (_body : List Byte) (s : State) : State :=
  if s.store.activity = .committing ∨ s.store.restartPending = true then complete s i (bare .storeBusy)
  else if 4294967295 < commitGeneration s.store then complete s i (bare .wrongState)
  else takeCommit s i

/-- One bank in READ-STORE: its standing, and its generation while VALID (R165, R189). -/
def bankBytes (st : Store) (n : BankName) : List Byte :=
  bankStandingCode (st.views.get n).standing :: be32 (if isValid st n then (st.views.get n).generation else 0)

/-- The bank in progress in READ-STORE: bank and attempt, FFh and 00h for none (R165, R189). -/
def writeBytes (w : Option BankWrite) : List Byte :=
  match w with
  | some w => [w.bank.code, if w.secondAttempt then 2 else 1]
  | none => [0xFF, 0x00]

/-- READ-STORE (R165). -/
def readStore (i : SlotId) (_body : List Byte) (s : State) : State :=
  let st := s.store
  complete s i
    ⟨.ok, bankBytes st .a ++ bankBytes st .b ++ bankBytes st .c ++ [st.standing.code, st.activity.code] ++
      writeBytes st.write ++ be32 st.generation ++ [flagCode s.config.dirty]⟩

/-! ## The meanings -/

/-- BANK_READ_ENDS (R153). -/
def execBankReadEnds (s : State) : Host.Outcome State Fault Refusal := .next (whenRunning s bankReadEnds)

/-- BANK_WRITE_ATTEMPT_ENDS (R152). -/
def execBankWriteAttemptEnds (readBack : ReadBack) (s : State) : Host.Outcome State Fault Refusal :=
  .next (whenRunning s fun s => writeAttemptEnds s readBack)

end Sys2Proof.Machine
end

