-- ==== Sys2Proof/Machine/Configure.lean ====
section
/-! DEFINITION. The requests of the Configuration Unit (08) and the reads of the Control Table (R19 to R21). -/

namespace Sys2Proof.Machine

/-- The reply of an edit: OK with the dirty flag (R141 to R147). -/
def dirtyReply (s : State) : Reply := ⟨.ok, [flagCode s.config.dirty]⟩

/-! ## Entering and leaving CONFIG (R138, R139) -/

/-- The mode changes. -/
def setMode (s : State) (m : Mode) : State := { s with config := { s.config with mode := m } }

/-- ENTER-CONFIG (R138). -/
def enterConfig (i : SlotId) (_body : List Byte) (s : State) : State :=
  if s.config.mode = .config ∨ s.delivery.state ≠ .off then complete s i (bare .wrongState)
  else complete (settleLamps s (allUnknown (setMode s .config))) i (bare .ok)

/-- EXIT-CONFIG ends a LEARN waiter with ABORTED (R76, R139). -/
def abortLearn (s : State) : State :=
  match s.translator.learn with
  | some w => complete { s with translator := { s.translator with learn := none } } w.slot (bare .aborted)
  | none => s

/-- An internal RESCAN entry is queued on a RUNNING lane unless one is in its list (R116). -/
def Lane.queueRescan (x : Lane) : Lane :=
  if x.phase = .running ∧ (x.list.any fun e => decide (e = ⟨.rescan, none⟩)) = false then
    { x with list := x.list ++ [⟨.rescan, none⟩] }
  else x

/-- EXIT-CONFIG (R139): LEARN aborted, RUN, controls UP and lamps recomputed, RESCAN entries, the reply. -/
def exitConfig (i : SlotId) (_body : List Byte) (s : State) : State :=
  if s.config.mode ≠ .config then complete s i (bare .wrongState)
  else
    let t := setMode (abortLearn s) .run
    let t := settleLamps t (exitUp t)
    let t := t.mapLanes fun _ x => x.queueRescan
    complete t i (dirtyReply t)

/-! ## Definitions (R140 to R143) -/

/-- The working configuration with one definition set or, with `none`, removed. -/
def withDefinition (image : ConfigImage) (c : ControlId) (d : Option ControlDef) : ConfigImage :=
  { image with
    controls := match d with
      | some d => insertKey image.controls c d
      | none => eraseKey image.controls c }

/-- A change of definitions as one happening: the table in line, the lamps handed and settled, the dirty flag
recomputed (R141, R142). -/
def editDefinitions (s : State) (image : ConfigImage) : State :=
  recomputeDirty (settleLamps s (replaceDefinitions s image))

/-- Another defined control with the same binding (R140). -/
def bindingHolder (image : ConfigImage) (c : ControlId) (b : Option Binding) : Option ControlId :=
  if b.isNone then none
  else (image.controls.find? fun e => decide (e.1 ≠ c ∧ e.2.binding = b)).map (·.1)

/-- Another defined control that references the same lamp (R140). -/
def lampHolder (image : ConfigImage) (c : ControlId) (r : Option LampRef) : Option ControlId :=
  match r with
  | none => none
  | some r => (image.controls.find? fun e => decide (e.1 ≠ c ∧ e.2.lampPosition = some r.position)).map (·.1)

/-- 16 defined controls other than this identifier are MEMBER controls of the group (R140). -/
def groupIsFull (image : ConfigImage) (c : ControlId) (kind : ControlKind) : Bool :=
  match kind with
  | .member g => decide (16 ≤ image.controls.countP fun e => decide (e.1 ≠ c ∧ e.2.kind = .member g))
  | _ => false

/-- A refusal that names the holding control (R140, R190). -/
def holderReply (status : Status) (h : ControlId) : Reply := ⟨status, be16 (controlHalf h)⟩

/-- The checks of R140 after the fields, and the definition (R141). -/
def defineControlAs (i : SlotId) (c : ControlId) (d : ControlDef) (s : State) : State :=
  let image := s.config.working
  match bindingHolder image c d.binding with
  | some h => complete s i (holderReply .duplicateBinding h)
  | none =>
    match lampHolder image c d.lamp with
    | some h => complete s i (holderReply .lampInUse h)
    | none =>
      if groupIsFull image c d.kind then complete s i (bare .groupFull)
      else
        let t := editDefinitions s (withDefinition image c (some d))
        complete t i (dirtyReply t)

/-- The fields of DEFINE-CONTROL (12.2); `none` when one is out of range (R140, R188). -/
def definitionOf (body : List Byte) : Option (ControlId × ControlDef) :=
  match body with
  | [ih, il, kind, group, bp, bl, be, bc, lp, ll, ln, ls] => do
    let c ← controlOf ih il
    let k ← kindOf kind group
    let b ← bindingOf bp bl be bc
    let r ← lampOf lp ll ln ls
    pure (c, ⟨k, b, r⟩)
  | _ => none

/-- DEFINE-CONTROL (R140, R141). -/
def defineControl (i : SlotId) (body : List Byte) (s : State) : State :=
  match definitionOf body with
  | some (c, d) => defineControlAs i c d s
  | none => complete s i (bare .badField)

/-- DELETE-CONTROL (R142). -/
def deleteControl (i : SlotId) (body : List Byte) (s : State) : State :=
  match body with
  | [h, l] =>
    match controlOf h l with
    | none => complete s i (bare .badField)
    | some c =>
      match s.definition c with
      | none => complete s i (bare .notDefined)
      | some _ =>
        let t := editDefinitions s (withDefinition s.config.working c none)
        complete t i (dirtyReply t)
  | _ => complete s i (bare .badLength)

/-- READ-CONTROL-DEF (R143, R189). -/
def readControlDef (i : SlotId) (body : List Byte) (s : State) : State :=
  match body with
  | [h, l] =>
    match controlOf h l with
    | none => complete s i (bare .badField)
    | some c => complete s i ⟨.ok, definedBytes (s.definition c)⟩
  | _ => complete s i (bare .badLength)

/-! ## Groups, lanes, delivery parameters (R144 to R146) -/

/-- The working configuration is replaced in items that are not definitions; the dirty flag is recomputed. -/
def setWorking (s : State) (image : ConfigImage) : State :=
  recomputeDirty { s with config := { s.config with working := image } }

/-- SET-GROUP (R144). -/
def setGroup (i : SlotId) (body : List Byte) (s : State) : State :=
  match body with
  | [g, m] =>
    match groupOf g, groupModeOf m with
    | some g, some m =>
      let image := s.config.working
      let t := setWorking s { image with groupModes := image.groupModes.set g m }
      complete t i (dirtyReply t)
    | _, _ => complete s i (bare .badField)
  | _ => complete s i (bare .badLength)

/-- A lane's settings become those given and are applied at once (R145, R115). -/
def changeSetting (s : State) (l : LaneId) (new : LaneSetting) : State :=
  let image := s.config.working
  let t := setWorking s { image with lanes := image.lanes.set l new }
  settleLamps s (applySetting t l image.lanes[l])

/-- SET-LANE (R145). -/
def setLaneRequest (i : SlotId) (body : List Byte) (s : State) : State :=
  match body with
  | [l, e, ty] =>
    match laneOf l, flagOf e with
    | some l, some e =>
      if 0x7F#8 < ty then complete s i (bare .badField)
      else
        let t := changeSetting s l ⟨e, ty⟩
        complete t i ⟨.ok, [flagCode t.config.dirty, (t.lane l).phase.code]⟩
    | _, _ => complete s i (bare .badField)
  | _ => complete s i (bare .badLength)

/-- SET-DELIVERY (R146). -/
def setDelivery (i : SlotId) (body : List Byte) (s : State) : State :=
  match body with
  | [th, tl, n] =>
    let ms := (half th tl).toNat
    if ms < 50 ∨ 2000 < ms ∨ n.toNat < 1 ∨ 15 < n.toNat then complete s i (bare .badField)
    else
      let t := setWorking s { s.config.working with retransmitTimeout := ms, retransmitLimit := n.toNat }
      complete t i (dirtyReply t)
  | _ => complete s i (bare .badLength)

/-! ## REVERT and LOAD-DEFAULTS (R147) -/

/-- The working configuration is replaced whole: definitions in line, every lane's setting applied, lane by
lane, the lamps of the happening settled, the dirty flag recomputed (R147). -/
def replaceWorking (s : State) (image : ConfigImage) : State :=
  recomputeDirty (settleLamps s (applyAllSettings (replaceDefinitions s image) s.config.working.lanes))

/-- REVERT (R147). -/
def revertRequest (i : SlotId) (_body : List Byte) (s : State) : State :=
  let t := replaceWorking s s.config.storeCopy
  complete t i (dirtyReply t)

/-- LOAD-DEFAULTS (R147). -/
def loadDefaults (i : SlotId) (_body : List Byte) (s : State) : State :=
  let t := replaceWorking s .defaults
  complete t i (dirtyReply t)

/-! ## READ-CONTROLS and READ-GROUPS (R19 to R21) -/

/-- The as-of sequence: present while delivery is not OFF (R20, R189). -/
def asOfBytes (s : State) : List Byte := if s.delivering then 1 :: be16 s.queue.next else [0, 0, 0]

/-- One READ-CONTROLS entry; all zeros for an undefined identifier (R19, 12.3, R189). -/
def controlEntry (s : State) (c : ControlId) : List Byte :=
  match s.definition c with
  | some d =>
    let x := s.control c
    controlFlags d.kind x (s.isSelected c d) :: be32 (x.lastChange.getD 0)
  | none => [0, 0, 0, 0, 0]

/-- `count` numbers from `first` upward that lie below `n`. -/
def idRange (n first count : Nat) : List (Fin n) := (List.range count).filterMap fun k => finOf n (first + k)

/-- READ-CONTROLS (R19). -/
def readControls (i : SlotId) (body : List Byte) (s : State) : State :=
  match body with
  | [fh, fl, n] =>
    let first := (half fh fl).toNat
    if 511 < first ∨ n.toNat < 1 ∨ 32 < n.toNat ∨ 512 < first + n.toNat then complete s i (bare .badField)
    else complete s i ⟨.ok, asOfBytes s ++ n :: (idRange 512 first n.toNat).flatMap (controlEntry s)⟩
  | _ => complete s i (bare .badLength)

/-- One READ-GROUPS entry: mode, member count, selected member (R21, 12.3). -/
def groupEntry (s : State) (g : GroupId) : List Byte :=
  [groupModeCode (s.groupMode g), byteOf (s.config.working.memberCount g)] ++ be16 (controlOrAbsent (s.selection g))

/-- READ-GROUPS (R21). -/
def readGroups (i : SlotId) (body : List Byte) (s : State) : State :=
  match body with
  | [f, n] =>
    let first := f.toNat
    if 31 < first ∨ n.toNat < 1 ∨ 32 < n.toNat ∨ 32 < first + n.toNat then complete s i (bare .badField)
    else complete s i ⟨.ok, asOfBytes s ++ n :: (idRange 32 first n.toNat).flatMap (groupEntry s)⟩
  | _ => complete s i (bare .badLength)

end Sys2Proof.Machine
end

