-- ==== Sys2Proof/Machine/Delivery.lean ====
section
/-! DEFINITION. The Time Base (R23), the Event Queue (02) and the Delivery Unit (03): appending, the session
requests START-EVENTS, ACK-EVENTS and STOP-EVENTS, reports, and retransmission. -/

namespace Sys2Proof.Machine

/-! ## Queue -/

/-- Records held (R25). -/
def State.occupancy (s : State) : Nat := s.queue.records.length

/-- Unsent records: the occupancy less the in-flight count (R39). -/
def State.unsentCount (s : State) : Nat := s.queue.records.length - s.delivery.inFlight

/-- An append (R31): next sequence number, current uptime, newest end; the number advances, wrapping (R30). -/
def appendRecord (s : State) (e : Event) : State :=
  { s with
    queue := ⟨s.queue.records ++ [⟨s.queue.next, s.time.uptime, e⟩], s.queue.next + 1⟩ }

/-- A record a turn creates is appended, or dropped while delivery is OFF (R31, R32). -/
def placeRecord (s : State) (e : Option Event) : State :=
  match e, s.delivery.state with
  | some e, .on => appendRecord s e
  | some e, .stalled => appendRecord s e
  | _, _ => s

/-! ## START-EVENTS (R42) -/

/-- Every lane's status-wanted flag takes a value (R42, R47). -/
def State.setAllWanted (s : State) (v : Bool) : State := s.mapLanes fun _ x => { x with statusWanted := v }

/-- A delivery session opens (R42). -/
def openSession (s : State) (window : Nat) : State :=
  ({ s with
    queue := { s.queue with next := 0 }
    delivery := ⟨.on, window, 0, none, 0⟩ } : State).setAllWanted true

/-- START-EVENTS (window) (R42). -/
def startEvents (i : SlotId) (body : List Byte) (s : State) : State :=
  match body with
  | [w] =>
    if 64 < w.toNat then complete s i (bare .badField)
    else if s.delivery.state ≠ .off then complete s i (bare .wrongState)
    else complete (openSession s w.toNat) i ⟨.ok, be16 0 ++ [w]⟩
  | _ => complete s i (bare .badLength)

/-! ## ACK-EVENTS (R43 to R46) -/

/-- The base of the acceptable range: next sequence less one, less the occupancy (R43). -/
def State.ackBase (s : State) : Half := s.queue.next - 1 - BitVec.ofNat 16 s.occupancy

/-- The distance from the base to S, counted forward: the number of records S acknowledges (R43). -/
def State.ackDistance (s : State) (through : Half) : Nat := (through - s.ackBase).toNat

/-- The retransmission timer started with the timeout in force (R56). -/
def State.freshTimer (s : State) : Wait := startWait s.time.uptime s.config.working.retransmitTimeout

/-- An acknowledgement that removes at least one record lets a waiting turn be considered anew (R66). -/
def reconsiderAfter (n : Nat) (s : State) : State := if 0 < n then reconsider s else s

/-- The changes of an admitted ACK-EVENTS that removes `n` records (R44, R45). DESIGN CHOICE: taken during a report
frame with records left in flight it starts a stopped timer, as R44 step 4 and R52's table say of every admitted
ACK-EVENTS; R50 says that a stopped timer stays stopped until the report ends (log 32). -/
def admitAck (s : State) (n window : Nat) : State :=
  let stalled := decide (s.delivery.state = .stalled)
  let left := min (s.delivery.inFlight - n) window
  reconsiderAfter n
    { s with
      queue := { s.queue with records := s.queue.records.drop n }
      delivery :=
        { state := if stalled then .on else s.delivery.state
          window := window
          inFlight := left
          timer := if 0 < left then some s.freshTimer else none
          retransmits := if 0 < n || stalled then 0 else s.delivery.retransmits } }

/-- ACK-EVENTS (through S, window W) (R43, R44). -/
def ackEvents (i : SlotId) (body : List Byte) (s : State) : State :=
  match body with
  | [sh, sl, w] =>
    if 64 < w.toNat then complete s i (bare .badField)
    else if s.delivery.state = .off then complete s i (bare .wrongState)
    else
      let n := s.ackDistance (half sh sl)
      if n ≤ s.delivery.inFlight then
        let t := admitAck s n w.toNat
        complete t i ⟨.ok, [byteOf n, byteOf t.delivery.inFlight, byteOf t.unsentCount]⟩
      else
        complete s i
          ⟨.ackRange, be16 s.ackBase ++ be16 (s.ackBase + BitVec.ofNat 16 s.delivery.inFlight)⟩
  | _ => complete s i (bare .badLength)

/-! ## STOP-EVENTS (R47) -/

/-- The delivery session closes (R35, R47). -/
def closeSession (s : State) : State :=
  reconsider
    (({ s with
      queue := { s.queue with records := [] }
      delivery := ⟨.off, 0, 0, none, 0⟩ } : State).setAllWanted false)

/-- STOP-EVENTS (R47). -/
def stopEvents (i : SlotId) (_body : List Byte) (s : State) : State :=
  let reply : Reply := ⟨.ok, byteOf s.occupancy :: be16 s.queue.next⟩
  complete (if s.delivery.state = .off then s else closeSession s) i reply

/-! ## Reports (R48 to R52) -/

/-- The number of records a report carries: the smallest of 8, the unsent count, and the window less the
in-flight count (R49). -/
def State.reportSize (s : State) : Nat := min 8 (min s.unsentCount (s.delivery.window - s.delivery.inFlight))

/-- The Delivery Unit offers a report (R48). -/
def State.offersReport (s : State) : Bool :=
  decide (s.delivery.state = .on ∧ 0 < s.unsentCount ∧ s.delivery.inFlight < s.delivery.window)

/-- The oldest unsent records a report carries (R49). -/
def State.reportRecords (s : State) : List Record :=
  (s.queue.records.drop s.delivery.inFlight).take s.reportSize

/-- A report frame starts where the transmitter is idle, no reply waits and the Delivery Unit offers one; the
records it carries become in flight (R48, R50, R173). -/
def reportStarts (s : State) : State :=
  match s.link.tx, s.link.replies with
  | .idle, [] =>
    if s.offersReport then
      { s with
        link := { s.link with tx := .report (reportFrame s.reportRecords) }
        delivery := { s.delivery with inFlight := s.delivery.inFlight + s.reportSize } }
    else s
  | _, _ => s

/-- A report frame ends; the timer starts if it is stopped, delivery is ON and records are in flight (R52). -/
def reportEnds (s : State) : State :=
  match s.link.tx with
  | .report _ =>
    { s with
      link := { s.link with tx := .idle }
      delivery :=
        { s.delivery with
          timer :=
            if s.delivery.timer.isNone ∧ s.delivery.state = .on ∧ 0 < s.delivery.inFlight then some s.freshTimer
            else s.delivery.timer } }
  | _ => s

/-! ## Retransmission (R53, R54) -/

/-- An expiry with records in flight (R53). -/
def retransmit (s : State) : State :=
  let count := s.delivery.retransmits + 1
  let stall := decide (s.config.working.retransmitLimit ≤ count)
  { s with
    delivery :=
      { s.delivery with
        state := if stall then .stalled else s.delivery.state
        inFlight := 0
        retransmits := count
        timer := if stall then none else some s.freshTimer } }

/-- The retransmission timer expires: with nothing in flight it only stops (R53, R54). -/
def timerExpires (s : State) : State :=
  match s.delivery.timer with
  | some w =>
    if w.reached s.time.uptime then
      if s.delivery.inFlight = 0 then { s with delivery := { s.delivery with timer := none } }
      else retransmit s
    else s
  | none => s

/-- The uptime advances by one millisecond, wrapping (R23). -/
def tick (s : State) : State := { s with time := { s.time with uptime := s.time.uptime + 1 } }

/-! ## The meanings -/

/-- TIME_BASE_TICK (R23). -/
def execTimeBaseTick (s : State) : Host.Outcome State Fault Refusal := .next (whenRunning s tick)

/-- REPORT_FRAME_START (R50). -/
def execReportFrameStart (s : State) : Host.Outcome State Fault Refusal := .next (whenRunning s reportStarts)

/-- REPORT_FRAME_END (R52). -/
def execReportFrameEnd (s : State) : Host.Outcome State Fault Refusal := .next (whenRunning s reportEnds)

/-- RETRANSMISSION_TIMER_EXPIRES (R53). -/
def execRetransmissionTimerExpires (s : State) : Host.Outcome State Fault Refusal :=
  .next (whenRunning s timerExpires)

end Sys2Proof.Machine
end

