-- ==== Sys2Proof/Machine/Link.lean ====
section
/-! DEFINITION. The lane link (05): bytes and frames, commands and their reply positions, exchanges and how
they end, RESEND recovery, and the meanings of the lane commands of the table. -/

namespace Sys2Proof.Machine

/-! ## Bytes and frames (R68, R82, R83, 12.5) -/

/-- ACK. -/
def ackByte : Byte := 0xB4
/-- HELLO. -/
def helloByte : Byte := 0xB5
/-- RESEND-REQ. -/
def resendReqByte : Byte := 0xBE
/-- MODULE-ERROR. -/
def moduleErrorByte : Byte := 0xBF

/-- Classes of the bytes a module sends (R83). -/
inductive ByteClass where
  | keyCode | keyPrefix | hello | ack | resendReq | moduleError | illegal
  deriving DecidableEq, Repr

/-- The class of a byte (R83, 12.5). -/
def byteClass (b : Byte) : ByteClass :=
  if isKeyCode b then .keyCode
  else if b = extByte ∨ b = relByte then .keyPrefix
  else if b = helloByte then .hello
  else if b = ackByte then .ack
  else if b = resendReqByte then .resendReq
  else if b = moduleErrorByte then .moduleError
  else .illegal

/-- The eleven bits of a lane frame, in the order they are clocked: start 0, data bits from D0, parity,
stop (R82). -/
def laneFrameBits (b : Byte) (parity stop : Bool) : List Bool :=
  false :: dataBits b ++ [parity, stop]

/-- The parity bit that makes the eight data bits and itself odd (R82). -/
def oddParity (b : Byte) : Bool := ((List.range 8).countP fun i => b.getLsbD i) % 2 == 0

/-- A received frame is good when its parity is odd and its stop bit is 1 (R82). -/
def frameIsGood (b : Byte) (parity stop : Bool) : Bool := parity == oddParity b && stop

/-- The frame in which the part sends a command byte: correct parity, stop bit 1 (R82). -/
def partFrame (b : Byte) : List Bool := laneFrameBits b (oddParity b) true

/-! ## Commands (R85) -/

/-- The command bytes (R85, 12.5). -/
def ModuleCommand.bytes : ModuleCommand → List Byte
  | .identify => [0x60]
  | .setLamps low high => [0x61, low, high]
  | .scanEnable => [0x62]
  | .scanDisable => [0x63]
  | .resend => [0x6E]
  | .resetModule => [0x6F]

/-- The reply positions after each command byte (R85). -/
def ModuleCommand.positions : ModuleCommand → List ReplyPosition
  | .identify => [.ack, .moduleType, .lampCount]
  | .resend => [.resent]
  | .setLamps _ _ | .scanEnable | .scanDisable | .resetModule => [.ack]

/-- The low half of an image: lamps 0 to 7 (12.5). -/
def lampsLow (image : Half) : Byte := image.extractLsb' 0 8
/-- The high half of an image: lamps 8 to 15 (12.5). -/
def lampsHigh (image : Half) : Byte := image.extractLsb' 8 8

/-- The command that carries out an entry; a LAMP entry's bytes are made from the desired image (R85,
R124). -/
def Entry.command (e : Entry) (desired : Half) : ModuleCommand :=
  match e.kind with
  | .identify | .probeIdentify => .identify
  | .rescan | .enable => .scanEnable
  | .disable => .scanDisable
  | .resetModule => .resetModule
  | .lamp => .setLamps (lampsLow desired) (lampsHigh desired)

/-! ## Taking the line and ending an exchange (R86, R94) -/

/-- The line is taken for a command byte: SENDING, no clock yet, the 10 ms limit running (R86). -/
def Lane.take (x : Lane) (now : Word) (ex : Exchange) : Lane :=
  { x with
    activity := .sending
    exchange := some { ex with clocked := false, due := [], limit := startWait now clockLimitMs } }

/-- A new exchange of a command: attempt 1, first byte (R86). -/
def Lane.startExchange (x : Lane) (now : Word) (c : ModuleCommand) : Lane :=
  x.take now ⟨c, 1, 0, false, [], 0, startWait now clockLimitMs⟩

/-- The exchange context is cleared and the activity becomes what the slot and a frame in progress call for
(R94). -/
def Lane.endExchange (x : Lane) : Lane :=
  let y : Lane := { x with exchange := none, parityCount := none }
  { y with activity := restActivity y }

/-- The end of a module frame outside an exchange, before its byte is handled. -/
def Lane.endFrame (x : Lane) : Lane :=
  let y : Lane := { x with frame := none }
  { y with activity := restActivity y }

/-! ## A byte outside an exchange (R83, R84) -/

/-- An event or illegal byte in RUNNING enters the slot, or is lost as OVERRUN when it is full (R83, R84). -/
def slotByte (s : State) (l : LaneId) (b : Byte) : State :=
  match (s.lane l).slot with
  | none => s.modLane l fun x => { x with slot := some b, activity := .held }
  | some _ => recordFault s l .overrun

/-- A byte received outside an exchange, by class and phase (R83). -/
def receiveByte (s : State) (l : LaneId) (b : Byte) : State :=
  match byteClass b with
  | .hello => helloTaken s l
  | .ack | .resendReq | .moduleError => s
  | .keyCode | .keyPrefix | .illegal => if (s.lane l).phase = .running then slotByte s l b else s

/-! ## Outcomes (R109, R117, R125, R126) -/

/-- The reply of a request whose exchange failed (R117, R126, R190). -/
def failureReply (k : LaneFault) : Reply :=
  match k with
  | .moduleError => bare .moduleError
  | _ => ⟨.noReply, [k.code]⟩

/-- A request completes if there is one. -/
def completeOpt (s : State) (i : Option SlotId) (r : Reply) : State :=
  match i with
  | some i => complete s i r
  | none => s

/-- The entry in progress ends with a failure in RUNNING: a host entry by R117, a LAMP entry by R126. -/
def failEntry (s : State) (l : LaneId) (e : Option Entry) (k : LaneFault) : State :=
  match e with
  | some ⟨.lamp, _⟩ =>
    let s := completeAll s ((s.lane l).waiters.map (·.slot)) (failureReply k)
    s.modLane l fun x => { x with waiters := [], sent := none }
  | some ⟨_, request⟩ => completeOpt s request (failureReply k)
  | none => s

/-- The failure counts against the module, unless it is MODULE_ERROR (R109). -/
def countFailure (s : State) (l : LaneId) (k : LaneFault) : State :=
  if k = .moduleError then s else s.modLane l fun x => { x with failures := x.failures + 1 }

/-- A LAMP entry that failed on a lane that stays RUNNING is queued again (R126). -/
def requeueLamp (s : State) (l : LaneId) (e : Option Entry) : State :=
  match e with
  | some ⟨.lamp, _⟩ => s.modLane l Lane.queueLamp
  | _ => s

/-- An exchange fails (R94, R109): in RUNNING recorded, counted, its entry ended, and the module lost at the
third; in STARTING and MISMATCH recorded and to ABSENT; in ABSENT a failed probe, due again in 500 ms. -/
def exchangeFails (s : State) (l : LaneId) (k : LaneFault) : State :=
  let x := s.lane l
  let s := s.setLane l { x.endExchange with inProgress := none }
  match x.phase with
  | .running =>
    let s := failEntry (countFailure (recordFault s l k) l k) l x.inProgress k
    if 3 ≤ (s.lane l).failures then loseModule s l else requeueLamp s l x.inProgress
  | .starting | .mismatch => enterAbsent (recordFault s l k) l
  | .absent => s.modLane l fun x => { x with probeDue := some (startWait s.time.uptime probeIntervalMs) }
  | .disabled => s

/-- A version target is reached: its distance from the acknowledged version is 0, or greater than that of the
desired version (R122). -/
def targetReached (desired acked target : Word) : Bool :=
  decide (target - acked = 0 ∨ desired - acked < target - acked)

/-- The reply of a SET-LAMPS that ends OK: the target version (R130). -/
def lampsReply (target : Word) : Reply := ⟨.ok, be32 target⟩

/-- SET-LAMPS waiters end OK, in order (R125, R131). -/
def completeWaiters (s : State) (ws : List LampWaiter) : State :=
  ws.foldl (fun s w => complete s w.slot (lampsReply w.target)) s

/-- A LAMP exchange succeeds (R125). -/
def lampSucceeds (s : State) (l : LaneId) : State :=
  match (s.lane l).sent with
  | none => s
  | some (image, version) =>
    let s := s.modLane l fun x => { x with acked := image, ackedVersion := version, sent := none }
    let x := s.lane l
    let reached := fun w : LampWaiter => targetReached x.desiredVersion x.ackedVersion w.target
    let s := completeWaiters s (x.waiters.filter reached)
    s.modLane l fun x => { x with waiters := x.waiters.filter fun w => !reached w }

/-- A host RESET-MODULE succeeds (R118): the lane leaves RUNNING for STARTING at WAIT_HELLO. -/
def resetSucceeds (s : State) (l : LaneId) : State :=
  let s := leaveRunning s l .laneDown
  let s := changePhase (setKnown s l none) l .starting (some .waitHello)
  s.modLane l fun x => { x with helloDeadline := some (startWait s.time.uptime helloLimitMs) }

/-- A host IDENTIFY succeeds (R117). -/
def hostIdentified (s : State) (l : LaneId) (m : ModuleId) : State :=
  let s := setKnown s l (some m)
  if matchesType (s.expectedType l) (some m) then s
  else enterMismatch (leaveRunning (recordFault s l .typeMismatch) l .laneDown) l

/-- An exchange of a command list entry succeeds (R94, R109); `m` is what an IDENTIFY was told. -/
def exchangeSucceeds (s : State) (l : LaneId) (m : ModuleId) : State :=
  let x := s.lane l
  let s := s.setLane l { x.endExchange with inProgress := none, failures := 0 }
  match x.inProgress with
  | some ⟨.identify, request⟩ =>
    hostIdentified (completeOpt s request ⟨.ok, [m.moduleType, m.lampCount]⟩) l m
  | some ⟨.rescan, request⟩ => completeOpt s request (bare .ok)
  | some ⟨.resetModule, request⟩ => resetSucceeds (completeOpt s request (bare .ok)) l
  | some ⟨.lamp, _⟩ => lampSucceeds s l
  | some ⟨.probeIdentify, _⟩ => checkIdentified (setKnown s l (some m)) l
  | some ⟨.enable, _⟩ => checkEnabled s l
  | some ⟨.disable, _⟩ => s
  | none => s

/-! ## Reply positions (R90 to R93, R97) -/

/-- The attempt has ended: the command is sent again from its first byte, or the exchange fails with
RESEND_LIMIT after the third attempt (R92). -/
def repeatCommand (s : State) (l : LaneId) (ex : Exchange) : State :=
  if ex.attempt < 3 then
    s.modLane l fun x =>
      x.take s.time.uptime { ex with attempt := ex.attempt + 1, byteIndex := 0, typeTaken := 0 }
  else exchangeFails s l .resendLimit

/-- A reply position is filled: the next one falls due with a fresh limit, or the line is taken for the next
command byte, or the exchange succeeds (R89, R90, R93). -/
def fillPosition (s : State) (l : LaneId) (ex : Exchange) (rest : List ReplyPosition) (m : ModuleId) : State :=
  match rest with
  | _ :: _ =>
    s.modLane l fun x =>
      { x with
        exchange := some
          { ex with due := rest, typeTaken := m.moduleType, limit := startWait s.time.uptime replyLimitMs } }
  | [] =>
    if ex.byteIndex + 1 < ex.command.bytes.length then
      s.modLane l fun x => x.take s.time.uptime { ex with byteIndex := ex.byteIndex + 1 }
    else exchangeSucceeds s l m

/-- A stray event byte in an ACK position (R91). -/
def strayByte (s : State) (l : LaneId) (b : Byte) : State :=
  if (s.lane l).phase = .running then
    match (s.lane l).slot with
    | none => s.modLane l fun x => { x with slot := some b }
    | some _ => exchangeFails s l .badReply
  else s

/-- The exchange ends by HELLO, which goes to the phase machine (R90, R94, R106). -/
def helloEnds (s : State) (l : LaneId) : State := helloTaken (s.modLane l Lane.endExchange) l

/-- A RESEND exchange succeeds with a good byte, handled as a byte outside an exchange (R97). -/
def resendDelivers (s : State) (l : LaneId) (b : Byte) : State :=
  receiveByte (s.modLane l fun x => { x.endExchange with failures := 0 }) l b

/-- A RESEND exchange succeeds with a bad byte: the parity count rises; at 2 a second RESEND exchange starts,
at 3 the byte is lost with fault PARITY (R97). -/
def resendBad (s : State) (l : LaneId) : State :=
  let count := (s.lane l).parityCount.getD 0 + 1
  let s := s.modLane l fun x => { x with failures := 0 }
  if count < 3 then
    s.modLane l fun x => { x.startExchange s.time.uptime .resend with parityCount := some count }
  else recordFault (s.modLane l Lane.endExchange) l .parity

/-- A good frame's byte in an ACK position (R90). -/
def ackReply (s : State) (l : LaneId) (ex : Exchange) (rest : List ReplyPosition) (b : Byte) : State :=
  match byteClass b with
  | .ack => fillPosition s l ex rest ⟨ex.typeTaken, 0⟩
  | .resendReq => repeatCommand s l ex
  | .moduleError => exchangeFails s l .moduleError
  | .hello => helloEnds s l
  | .keyCode | .keyPrefix => strayByte s l b
  | .illegal => exchangeFails s l .badReply

/-- A good frame's byte in a reply position (R90, R97). -/
def replyByte (s : State) (l : LaneId) (ex : Exchange) (b : Byte) : State :=
  match ex.due with
  | [] => s
  | .ack :: rest => ackReply s l ex rest b
  | .moduleType :: rest =>
    if 0x01#8 ≤ b ∧ b ≤ 0x7F#8 then fillPosition s l ex rest ⟨b, 0⟩
    else if b = helloByte then helloEnds s l
    else exchangeFails s l .badReply
  | .lampCount :: rest =>
    if b ≤ 0x10#8 then fillPosition s l ex rest ⟨ex.typeTaken, b⟩
    else if b = helloByte then helloEnds s l
    else exchangeFails s l .badReply
  | .resent :: _ =>
    if b = resendReqByte then repeatCommand s l ex
    else if b = moduleErrorByte then exchangeFails s l .moduleError
    else resendDelivers s l b

/-- A bad frame in a reply position (R90, R92, R97). -/
def badReplyFrame (s : State) (l : LaneId) (ex : Exchange) : State :=
  match ex.due with
  | [] => s
  | .resent :: _ => resendBad s l
  | _ :: _ => repeatCommand s l ex

/-- A bad frame outside an exchange (R84, R96). -/
def badFrameOutside (s : State) (l : LaneId) : State :=
  let x := s.lane l
  if x.phase = .absent then s
  else
    match x.slot with
    | some _ => recordFault s l .overrun
    | none => s.modLane l fun x => { x.startExchange s.time.uptime .resend with parityCount := some 1 }

/-! ## Happenings on a lane's wires -/

/-- A module frame starts: an IDLE lane becomes RECEIVING (R87); in AWAITING the frame falls in a reply
position and the activity stays (R89, log 15). -/
def frameStarts (s : State) (l : LaneId) : State :=
  match (s.lane l).activity with
  | .idle => s.modLane l fun x => { x with activity := .receiving, frame := some s.time.uptime }
  | .awaiting => s.modLane l fun x => { x with frame := if x.frame.isNone then some s.time.uptime else x.frame }
  | _ => s

/-- A frame ends on a disabled lane: its byte is discarded and the activity becomes OFF (R80, R115). -/
def endDisabledFrame (s : State) (l : LaneId) : State :=
  s.modLane l fun x => { x with frame := none, activity := .off }

/-- A module frame ends good (R83, R90). -/
def goodFrameEnds (s : State) (l : LaneId) (b : Byte) : State :=
  let x := s.lane l
  match x.activity with
  | .receiving =>
    if x.phase = .disabled then endDisabledFrame s l else receiveByte (s.modLane l Lane.endFrame) l b
  | .awaiting =>
    match x.exchange with
    | some ex => replyByte (s.modLane l fun x => { x with frame := none }) l ex b
    | none => s
  | _ => s

/-- A module frame ends bad (R84, R90, R96, R97). -/
def badFrameEnds (s : State) (l : LaneId) : State :=
  let x := s.lane l
  match x.activity with
  | .receiving =>
    if x.phase = .disabled then endDisabledFrame s l else badFrameOutside (s.modLane l Lane.endFrame) l
  | .awaiting =>
    match x.exchange with
    | some ex => badReplyFrame (s.modLane l fun x => { x with frame := none }) l ex
    | none => s
  | _ => s

/-- A frame in progress has not ended 2 ms after its start bit (R82). -/
def Lane.frameOverdue (x : Lane) (now : Word) : Bool :=
  match x.frame with
  | some t => (startWait t frameLimitMs).reached now
  | none => false

/-- A module frame breaches the frame limit and is abandoned (R82, R84, R89). -/
def frameBreached (s : State) (l : LaneId) : State :=
  let x := s.lane l
  match x.frameOverdue s.time.uptime, x.activity with
  | true, .receiving =>
    match x.phase with
    | .disabled => endDisabledFrame s l
    | .absent => s.modLane l Lane.endFrame
    | _ => recordFault (s.modLane l Lane.endFrame) l .rxTimeout
  | true, .awaiting => exchangeFails (s.modLane l fun x => { x with frame := none }) l .noReply
  | _, _ => s

/-- The head entry may start its exchange: IDLE, slot empty, the entry fits the phase (R104). -/
def Lane.startable (x : Lane) : Option Entry :=
  match x.activity, x.slot, x.list with
  | .idle, none, e :: _ => if e.fits x.phase then some e else none
  | _, _, _ => none

/-- The head entry leaves the list and becomes the entry in progress, and the line is taken; a LAMP entry
captures the desired image and version (R104, R124). -/
def Lane.begin (x : Lane) (now : Word) (e : Entry) : Lane :=
  let y : Lane :=
    { x with
      list := x.list.drop 1
      inProgress := some e
      sent := if e.kind = .lamp then some (x.desired, x.desiredVersion) else x.sent }
  y.startExchange now (e.command x.desired)

/-- The head entry starts its exchange where it may (R104). -/
def exchangeStarts (s : State) (l : LaneId) : State :=
  match (s.lane l).startable with
  | some e => s.modLane l fun x => x.begin s.time.uptime e
  | none => s

/-- The exchange of a lane in an activity, for the limits of the link. -/
def Lane.exchangeIn (x : Lane) (a : Activity) : Option Exchange := if x.activity = a then x.exchange else none

/-- The module begins clocking: the 10 ms limit ends and the 3 ms limit starts (R88). -/
def firstClock (s : State) (l : LaneId) : State :=
  match (s.lane l).exchangeIn .sending with
  | some ex =>
    if ex.clocked then s
    else
      s.modLane l fun x =>
        { x with exchange := some { ex with clocked := true, limit := startWait s.time.uptime byteLimitMs } }
  | none => s

/-- The command byte is complete: AWAITING, its first reply position due within 25 ms (R88, R89). -/
def byteCompletes (s : State) (l : LaneId) : State :=
  match (s.lane l).exchangeIn .sending with
  | some ex =>
    if ex.clocked then
      s.modLane l fun x =>
        { x with
          activity := .awaiting
          exchange := some
            { ex with due := ex.command.positions, limit := startWait s.time.uptime replyLimitMs } }
    else s
  | none => s

/-- No clock 10 ms after the take (R86). -/
def clockExpires (s : State) (l : LaneId) : State :=
  match (s.lane l).exchangeIn .sending with
  | some ex => if !ex.clocked && ex.limit.reached s.time.uptime then exchangeFails s l .noClock else s
  | none => s

/-- The command byte is not complete 3 ms after the first clock (R88). -/
def byteExpires (s : State) (l : LaneId) : State :=
  match (s.lane l).exchangeIn .sending with
  | some ex => if ex.clocked && ex.limit.reached s.time.uptime then exchangeFails s l .txTimeout else s
  | none => s

/-- A reply position is unfilled at its deadline (R89); a frame in progress runs on to its end (R80). -/
def replyExpires (s : State) (l : LaneId) : State :=
  match (s.lane l).exchangeIn .awaiting with
  | some ex => if ex.limit.reached s.time.uptime then exchangeFails s l .noReply else s
  | none => s

/-- A wait that may be absent is over. -/
def waitOver (now : Word) (w : Option Wait) : Bool :=
  match w with
  | some w => w.reached now
  | none => false

/-- The uptime reaches an ABSENT lane's probe due time (R105). -/
def probeFallsDue (s : State) (l : LaneId) : State :=
  let x := s.lane l
  if x.phase = .absent ∧ waitOver s.time.uptime x.probeDue = true then
    queueStartUp (s.modLane l fun x => { x with probeDue := none }) l .probeIdentify
  else s

/-- The hello deadline passes in WAIT_HELLO: a RESEND exchange is abandoned and the lane goes to ABSENT with
no fault (R118). -/
def helloExpires (s : State) (l : LaneId) : State :=
  let x := s.lane l
  if x.phase = .starting ∧ x.startStep = some .waitHello ∧ waitOver s.time.uptime x.helloDeadline = true then
    let t := if x.exchange.isSome then s.modLane l Lane.endExchange else s
    enterAbsent t l
  else s

/-! ## Pins (R79, R86, R98) -/

/-- What the part does with LCLKn: holds it low, leaves it released, or is in the take of a command byte,
holding it for a nominal 100 us and then releasing it (log 23). -/
inductive ClockLine where
  | heldLow | released | taking
  deriving DecidableEq, Repr

/-- LCLKn of a lane (R79). -/
def clockLine (x : Lane) : ClockLine :=
  match x.activity with
  | .off | .held => .heldLow
  | .idle | .receiving | .awaiting => .released
  | .sending =>
    match x.exchange with
    | some ex => if ex.clocked then .released else .taking
    | none => .released

/-- What the part drives on LDATn: nothing, the start bit of a take, or the bits of the command byte being
clocked (R79, R86, R88). -/
inductive DataLine where
  | released
  | startBit
  | sending (bits : List Bool)
  deriving DecidableEq, Repr

/-- LDATn of a lane (R79, R86, R88, R94). -/
def dataLine (x : Lane) : DataLine :=
  match x.activity, x.exchange with
  | .sending, some ex =>
    if ex.clocked then .sending (partFrame (ex.command.bytes.getD ex.byteIndex 0)) else .startBit
  | _, _ => .released

/-! ## The meanings -/

/-- MODULE_FRAME_START (R87). -/
def execModuleFrameStart (lane : LaneId) (s : State) : Host.Outcome State Fault Refusal :=
  .next (whenRunning s fun s => frameStarts s lane)

/-- GOOD_FRAME (R83, R90): with the lamp writes of the happening settled. -/
def execGoodFrame (lane : LaneId) (byte : Byte) (s : State) : Host.Outcome State Fault Refusal :=
  .next (whenRunning s fun s => settleLamps s (goodFrameEnds s lane byte))

/-- BAD_FRAME (R96). -/
def execBadFrame (lane : LaneId) (s : State) : Host.Outcome State Fault Refusal :=
  .next (whenRunning s fun s => settleLamps s (badFrameEnds s lane))

/-- FRAME_LIMIT_BREACH (R82). -/
def execFrameLimitBreach (lane : LaneId) (s : State) : Host.Outcome State Fault Refusal :=
  .next (whenRunning s fun s => settleLamps s (frameBreached s lane))

/-- EXCHANGE_START (R104). -/
def execExchangeStart (lane : LaneId) (s : State) : Host.Outcome State Fault Refusal :=
  .next (whenRunning s fun s => exchangeStarts s lane)

/-- MODULE_FIRST_CLOCK (R88). -/
def execModuleFirstClock (lane : LaneId) (s : State) : Host.Outcome State Fault Refusal :=
  .next (whenRunning s fun s => firstClock s lane)

/-- NO_CLOCK (R86). -/
def execNoClock (lane : LaneId) (s : State) : Host.Outcome State Fault Refusal :=
  .next (whenRunning s fun s => settleLamps s (clockExpires s lane))

/-- COMMAND_BYTE_COMPLETE (R88). -/
def execCommandByteComplete (lane : LaneId) (s : State) : Host.Outcome State Fault Refusal :=
  .next (whenRunning s fun s => byteCompletes s lane)

/-- TX_TIMEOUT (R88). -/
def execTxTimeout (lane : LaneId) (s : State) : Host.Outcome State Fault Refusal :=
  .next (whenRunning s fun s => settleLamps s (byteExpires s lane))

/-- NO_REPLY (R89). -/
def execNoReply (lane : LaneId) (s : State) : Host.Outcome State Fault Refusal :=
  .next (whenRunning s fun s => settleLamps s (replyExpires s lane))

/-- PROBE_DUE (R105). -/
def execProbeDue (lane : LaneId) (s : State) : Host.Outcome State Fault Refusal :=
  .next (whenRunning s fun s => probeFallsDue s lane)

/-- HELLO_DEADLINE (R118). -/
def execHelloDeadline (lane : LaneId) (s : State) : Host.Outcome State Fault Refusal :=
  .next (whenRunning s fun s => helloExpires s lane)

end Sys2Proof.Machine
end

