-- ==== Sys2Proof/Machine/LaneRequests.lean ====
section
/-! DEFINITION. The requests that name a lane: READ-LANE, LANE-COMMAND, CLEAR-LANE-FAULT (06.10), SET-LAMPS
and RELEASE-LAMPS (07.5). -/

namespace Sys2Proof.Machine

/-! ## LANE-COMMAND (R117) -/

/-- Host entries in a command list (R103). -/
def Lane.hostEntries (x : Lane) : Nat := x.list.countP fun e => e.request.isSome

/-- LANE-COMMAND (lane, command) (R117): the entry is queued and the request waits. -/
def laneCommand (i : SlotId) (body : List Byte) (s : State) : State :=
  match body with
  | [l, c] =>
    match laneOf l, laneCommandOf c with
    | some l, some k =>
      if (s.lane l).phase ≠ .running then complete s i (bare .laneDown)
      else if 2 ≤ (s.lane l).hostEntries then complete s i (bare .laneBusy)
      else s.modLane l fun x => { x with list := x.list ++ [⟨k, some i⟩] }
    | _, _ => complete s i (bare .badField)
  | _ => complete s i (bare .badLength)

/-! ## READ-LANE (R119) -/

/-- The five bytes of the command list: its length, then four entry bytes (12.3, R189). -/
def listBytes (list : List Entry) : List Byte :=
  byteOf list.length :: (List.range 4).map fun k => entryByteOrAbsent list[k]?

/-- A RESEND exchange is in progress (R119). -/
def Lane.resending (x : Lane) : Bool :=
  match x.exchange with
  | some ex => decide (ex.command = .resend)
  | none => false

/-- The 36 bytes of a READ-LANE reply (R119, 12.3, R189). -/
def laneBytes (x : Lane) (setting : LaneSetting) : List Byte :=
  [x.phase.code, startStepCode x.startStep, x.activity.code,
   flagCode x.slot.isSome, x.slot.getD 0,
   (x.known.map (·.moduleType)).getD 0, (x.known.map (·.lampCount)).getD 0xFF,
   setting.expectedType, flagCode setting.enabled] ++
  listBytes x.list ++
  [entryByteOrAbsent x.inProgress, flagCode x.resending, byteOf x.failures,
   faultCode x.firstFault, faultCode x.lastFault, x.faultCount, x.faultsSince, flagCode x.statusWanted] ++
  be16 x.desired ++ be16 x.acked ++ be32 x.desiredVersion ++ be32 x.ackedVersion ++ be16 x.owners

/-- READ-LANE (R119). -/
def readLane (i : SlotId) (body : List Byte) (s : State) : State :=
  match body with
  | [l] =>
    match laneOf l with
    | some l => complete s i ⟨.ok, laneBytes (s.lane l) s.config.working.lanes[l]⟩
    | none => complete s i (bare .badField)
  | _ => complete s i (bare .badLength)

/-! ## CLEAR-LANE-FAULT (R120) -/

/-- CLEAR-LANE-FAULT (R120): the reply carries the three values as they stood. -/
def clearLaneFault (i : SlotId) (body : List Byte) (s : State) : State :=
  match body with
  | [l] =>
    match laneOf l with
    | some l =>
      let x := s.lane l
      complete (s.modLane l fun x => { x with firstFault := none, lastFault := none, faultCount := 0 }) i
        ⟨.ok, [faultCode x.firstFault, faultCode x.lastFault, x.faultCount]⟩
    | none => complete s i (bare .badField)
  | _ => complete s i (bare .badLength)

/-! ## SET-LAMPS and RELEASE-LAMPS (R130, R132) -/

/-- A lane with a new desired image: if it differs, the version advances and a LAMP entry is queued (R123,
R130, R132). -/
def Lane.withDesired (x : Lane) (image : Half) : Lane :=
  if image = x.desired then x
  else ({ x with desired := image, desiredVersion := x.desiredVersion + 1 } : Lane).queueLamp

/-- SET-LAMPS writes ownership and values (R130, steps 1 and 2). -/
def Lane.hostLamps (x : Lane) (mask values : Half) : Lane :=
  ({ x with owners := x.owners ||| mask } : Lane).withDesired ((x.desired &&& ~~~mask) ||| (values &&& mask))

/-- SET-LAMPS on a RUNNING lane (R130): the request completes when its target is reached already, otherwise it
waits. -/
def setLampsOn (i : SlotId) (l : LaneId) (mask values : Half) (s : State) : State :=
  let t := s.modLane l fun x => x.hostLamps mask values
  let x := t.lane l
  let target := x.desiredVersion
  if targetReached x.desiredVersion x.ackedVersion target then complete t i (lampsReply target)
  else t.modLane l fun x => { x with waiters := x.waiters ++ [⟨i, target⟩] }

/-- SET-LAMPS (lane, mask, values) (R130). -/
def setLamps (i : SlotId) (body : List Byte) (s : State) : State :=
  match body with
  | [l, mh, ml, vh, vl] =>
    match laneOf l with
    | some l =>
      if (s.lane l).phase ≠ .running then complete s i (bare .laneDown)
      else setLampsOn i l (half mh ml) (half vh vl) s
    | none => complete s i (bare .badField)
  | _ => complete s i (bare .badLength)

/-- The lit values of a lane's 16 lamps as the table computes them (R17). -/
def litImage (s : State) (l : LaneId) : Half :=
  (List.finRange 16).foldl (fun image n => setLamp image n (s.litAt ⟨l, n⟩)) 0

/-- RELEASE-LAMPS at a lane (R132). -/
def Lane.releaseLamps (x : Lane) (mask lit : Half) : Lane :=
  ({ x with owners := x.owners &&& ~~~mask } : Lane).withDesired ((x.desired &&& ~~~mask) ||| (lit &&& mask))

/-- RELEASE-LAMPS (lane, mask) (R132): the reply carries the desired version after the request. -/
def releaseLampsRequest (i : SlotId) (body : List Byte) (s : State) : State :=
  match body with
  | [l, mh, ml] =>
    match laneOf l with
    | some l =>
      let t := s.modLane l fun x => x.releaseLamps (half mh ml) (litImage s l)
      complete t i ⟨.ok, be32 (t.lane l).desiredVersion⟩
    | none => complete s i (bare .badField)
  | _ => complete s i (bare .badLength)

end Sys2Proof.Machine
end

