-- ==== Sys2Proof/Machine/Resets.lean ====
section
/-! DEFINITION. Hard reset and restart (R22, R24, R37, R61, R78, R98, R121, R133, R148, R163, R166, R167, R176,
R187): what is cut when a reset begins, and the state it leaves. -/

namespace Sys2Proof.Machine

/-- The baud rate the straps select: bit 1 is BAUD1, bit 0 is BAUD0 (R167). -/
def baudOf (straps : BitVec 2) : Baud :=
  if straps = 0 then .b19200 else if straps = 1 then .b57600 else if straps = 2 then .b115200 else .b230400

/-- The rate in baud (R167). -/
def Baud.rate : Baud → Nat
  | .b19200 => 19200
  | .b57600 => 57600
  | .b115200 => 115200
  | .b230400 => 230400

/-- A reset ends (R37 and the reset rule of every chapter): every block at its reset values, the cause
recorded, the straps read; the banks keep what they hold. -/
def resetBlocks (s : State) (cause : ResetCause) (straps : BitVec 2) : State :=
  { State.reset with
    time := ⟨0, cause⟩
    link := { State.reset.link with baud := baudOf straps }
    store := { State.reset.store with banks := s.store.banks }
    pending := s.pending }

/-- A lane's link when a reset begins: frame and exchange cut with no outcome, activity OFF (R98, R101). -/
def Lane.cut (x : Lane) : Lane :=
  { x with
    activity := .off
    frame := none
    exchange := none
    inProgress := none
    parityCount := none
    sent := none }

/-- A reset cuts a bank write attempt (R163), the frame on HTXD (R176) and every lane exchange (R98). -/
def cutActivity (s : State) : State :=
  ({ s with store := cutWrite s.store, link := { s.link with tx := .idle } } : State).mapLanes fun _ x => x.cut

/-- The reset line when a hard reset begins; a loss of power is not undone by nRESET (R24). -/
def lineAfter (line : ResetLine) (cause : ResetBeginning) : ResetLine :=
  match cause, line with
  | .powerLost, _ => .unpowered
  | .nresetLow, .unpowered => .unpowered
  | .nresetLow, _ => .pinLow

/-- A hard reset begins (R163, R176): no outcome, no replies. -/
def hardResetStarts (s : State) (cause : ResetBeginning) : State :=
  { cutActivity s with line := lineAfter s.line cause }

/-- The cause a hard reset records: POWER when power was applied, also where nRESET is released after it,
otherwise PIN (R24). -/
def hardResetCause (line : ResetLine) (ending : ResetEnding) : ResetCause :=
  match ending, line with
  | .powerApplied, _ => .power
  | .nresetReleased, .unpowered => .power
  | .nresetReleased, _ => .pin

/-- A hard reset ends (R24, R153): every block at its reset values and the vote begun. -/
def hardResetEnds (s : State) (ending : ResetEnding) (straps : BitVec 2) : State :=
  resetBlocks (cutActivity s) (hardResetCause s.line ending) straps

/-- The restart (R175, R186): a reset with cause RESTART. -/
def restartPart (s : State) (straps : BitVec 2) : State := resetBlocks (cutActivity s) .restart straps

/-! ## The meanings -/

/-- HARD_RESET (R24). -/
def execHardReset (ending : ResetEnding) (straps : BitVec 2) (s : State) : Host.Outcome State Fault Refusal :=
  .next (hardResetEnds s ending straps)

/-- HARD_RESET_BEGINS (R163). -/
def execHardResetBegins (cause : ResetBeginning) (s : State) : Host.Outcome State Fault Refusal :=
  .next (hardResetStarts s cause)

end Sys2Proof.Machine
end

