-- ==== Sys2Proof/Machine/Translate.lean ====
section
/-! DEFINITION. The Code Translator's turns (R63 to R72) and LEARN (R74 to R76). -/

namespace Sys2Proof.Machine

/-- A control number field, FFFFh when no control is bound (R75, R189). -/
def boundField (found : Option (ControlId × ControlDef)) : List Byte := be16 (controlOrAbsent (found.map (·.1)))

/-- The LEARN waiter is for a lane (R72). -/
def LearnWaiter.hears (w : LearnWaiter) (l : LaneId) : Bool :=
  match w.lane with
  | some k => decide (k = l)
  | none => true

/-- The LEARN waiter becomes none. -/
def clearLearn (s : State) : State := { s with translator := { s.translator with learn := none } }

/-- A completed code in CONFIG mode: a press on the waiter's lane satisfies LEARN, anything else is discarded
(R72, R75). -/
def learnCode (s : State) (l : LaneId) (extended release : Bool) (code : Byte) : State :=
  match s.translator.learn with
  | some w =>
    if !release && w.hears l then
      complete (clearLearn s) w.slot
        ⟨.ok, [byteOf l.val, flagCode extended, code] ++ boundField (s.boundControl l extended code)⟩
    else s
  | none => s

/-- What a completed code does, by the mode (R71, R72); its record is placed by the caller. -/
def routeCode (s : State) (l : LaneId) (extended release : Bool) (code : Byte) : State :=
  match s.config.mode with
  | .run =>
    match s.boundControl l extended code with
    | some (c, d) => takeAction s c d release
    | none => s
  | .config => learnCode s l extended release code
  | .startup => s

/-- The slot is emptied and the lane leaves HELD (R67, R101). -/
def Lane.slotTaken (x : Lane) : Lane :=
  { x with slot := none, activity := if x.activity = .held then .idle else x.activity }

/-- The starting lane moves to the lane after the one served (R63). -/
def advanceStart (s : State) (l : LaneId) : State :=
  { s with translator := { s.translator with start := l + 1 } }

/-- A turn takes the byte in a lane's slot (R67). -/
def takeByte (s : State) (l : LaneId) (b : Byte) : State :=
  let taken := classifyByte (s.prefixOf l) b
  let event := byteEvent s l b
  let t := match taken with
    | .completed ext rel => routeCode s l ext rel b
    | _ => s
  (placeRecord (t.setPrefix l taken.nextPrefix) event).modLane l Lane.slotTaken

/-- A LANE_STATUS turn (R64): the record is appended from the lane as it stands, the flag is lowered, and
faults since previous becomes 0 with the append (R29). -/
def statusTurn (s : State) (l : LaneId) : State :=
  let appended := s.delivering
  (placeRecord s (some (laneStatusEvent s l))).modLane l fun x =>
    { x with statusWanted := false, faultsSince := if appended then 0 else x.faultsSince }

/-- A turn serves one item of a lane (R64). DESIGN CHOICE: R32's last row gives the record of a turn taken after
START-EVENTS the sequence 0, where START-EVENTS has raised the lane's flag (R42), so that R64 makes the item a
LANE_STATUS record; the LANE_STATUS record of the first lane served takes 0, the byte's record a later number
(log 37). -/
def serveLane (s : State) (l : LaneId) : State :=
  let t :=
    if (s.lane l).statusWanted then statusTurn s l
    else
      match (s.lane l).slot with
      | some b => takeByte s l b
      | none => s
  advanceStart t l

/-- The Translator takes a turn where it is not waiting and a lane is eligible; a turn that would create a
record while the queue is full is not served, and the Translator waits (R63, R65). It serves no turn in
STARTUP (R78). -/
def takeTurn (s : State) : State :=
  match s.config.mode, s.translator.waiting, nextLane s with
  | .startup, _, _ => s
  | _, none, some l =>
    if turnHeld s l then { s with translator := { s.translator with waiting := some l } } else serveLane s l
  | _, _, _ => s

/-- The LEARN waiter ends at its timeout (R76). -/
def learnExpires (s : State) : State :=
  match s.translator.learn with
  | some w => if w.expiry.reached s.time.uptime then complete (clearLearn s) w.slot (bare .timeout) else s
  | none => s

/-- LEARN (lane, timeout) (R74). -/
def learnRequest (i : SlotId) (body : List Byte) (s : State) : State :=
  match body with
  | [lane, seconds] =>
    match learnLaneOf lane with
    | none => complete s i (bare .badField)
    | some target =>
      if seconds.toNat < 1 ∨ 60 < seconds.toNat then complete s i (bare .badField)
      else if s.translator.learn.isSome then complete s i (bare .wrongState)
      else
        { s with
          translator :=
            { s.translator with learn := some ⟨target, startWait s.time.uptime (seconds.toNat * 1000), i⟩ } }
  | _ => complete s i (bare .badLength)

/-! ## The meanings -/

/-- TRANSLATOR_TURN (R63): with the lamp writes of the happening settled. -/
def execTranslatorTurn (s : State) : Host.Outcome State Fault Refusal :=
  .next (whenRunning s fun s => settleLamps s (takeTurn s))

/-- LEARN_TIMEOUT (R76). -/
def execLearnTimeout (s : State) : Host.Outcome State Fault Refusal := .next (whenRunning s learnExpires)

end Sys2Proof.Machine
end

