-- ==== Sys2Proof/Machine/Requests.lean ====
section
/-! DEFINITION. The Request Table (11): intake, slots, validation, the requests it carries out itself, and
the meanings of the request rows of the table. A request row is the hand-over of one good frame (R169, R179);
it leaves the receiver's own state as it is (log 1). -/

namespace Sys2Proof.Machine

/-! ## Slots (R177, R180) -/

/-- What a slot that is not FREE holds of its request (R177). -/
def RequestSlot.request : RequestSlot → Option RequestId
  | .free => none
  | .active q => some q
  | .done q _ => some q

/-- The slot is FREE. -/
def RequestSlot.isFree : RequestSlot → Bool
  | .free => true
  | _ => false

/-- The slot is ACTIVE. -/
def RequestSlot.isActive : RequestSlot → Bool
  | .active _ => true
  | _ => false

/-- The slot is DONE. -/
def RequestSlot.isDone : RequestSlot → Bool
  | .done _ _ => true
  | _ => false

/-- The slot holds a frame's tag (R179). -/
def RequestSlot.holds (x : RequestSlot) (tag : Byte) : Bool := x.request.any fun q => q.tag == tag

/-- The slot that is not FREE and holds a tag (R179). -/
def State.slotHolding (s : State) (tag : Byte) : Option SlotId :=
  (List.finRange 16).find? fun i => (s.slot i).holds tag

/-- The slot a new request is placed in: a FREE one (the lowest, log 12), else the DONE slot that completed
longest ago, else none (R180). -/
def State.chosenSlot (s : State) : Option SlotId :=
  match (List.finRange 16).find? fun i => (s.slot i).isFree with
  | some i => some i
  | none => s.requests.order.head?

/-- Number of ACTIVE slots (R185). -/
def State.activeSlots (s : State) : Nat := (List.finRange 16).countP fun i => (s.slot i).isActive

/-- Number of DONE slots (R185). -/
def State.doneSlots (s : State) : Nat := (List.finRange 16).countP fun i => (s.slot i).isDone

/-- The stored reply of a RESTART that completed with OK (R164, R186). -/
def RequestSlot.isRestartOk : RequestSlot → Bool
  | .done q r => q.kind == RequestKind.restart.code && decide (r = bare .ok)
  | _ => false

/-- The frame of a RESTART reply with status OK is on HTXD (R175). -/
def State.restartOnLine (s : State) : Bool :=
  match s.link.tx with
  | .reply f => isRestartReply f
  | _ => false

/-- A slot that is reused loses its entry in the outgoing reply list (R172); where that entry is the reply of
the RESTART that set restart pending, restart pending is cleared (R164, log 13). -/
def dropSlotEntry (s : State) (i : SlotId) : State :=
  let lost := decide (ReplyEntry.slot i ∈ s.link.replies) && (s.slot i).isRestartOk && !s.restartOnLine
  { s with
    link := { s.link with replies := s.link.replies.filter fun e => decide (e ≠ .slot i) }
    store := { s.store with restartPending := s.store.restartPending && !lost } }

/-- A request is placed in a slot: ACTIVE, out of the completion order, no stored reply (R180). -/
def placeRequest (s : State) (i : SlotId) (q : RequestId) : State :=
  let t := dropSlotEntry s i
  { t with requests := ⟨t.requests.slots.set i (.active q), t.requests.order.filter fun j => decide (j ≠ i)⟩ }

/-! ## General requests (R184 to R186) -/

/-- The data of an IDENTIFY-PART reply: "EG816", revision 1, 8 lanes, 16 lamps, 512 controls, 32 groups, 128
records, 16 slots (R184, 12.3). -/
def identity : List Byte :=
  [0x45, 0x47, 0x38, 0x31, 0x36, 1, 8, 16] ++ be16 512 ++ [32, 128, 16]

/-- IDENTIFY-PART (R184). -/
def identifyPart (i : SlotId) (_body : List Byte) (s : State) : State := complete s i ⟨.ok, identity⟩

/-- The data of a GET-STATUS reply, read before the request completes (R185, 12.3). -/
def statusBytes (s : State) : List Byte :=
  [s.config.mode.code, s.delivery.state.code, byteOf s.delivery.window, byteOf s.delivery.inFlight,
   byteOf s.unsentCount] ++
  be16 s.queue.next ++
  [byteOf s.delivery.retransmits, s.store.standing.code, s.store.activity.code, flagCode s.config.dirty,
   byteOf s.activeSlots, byteOf s.doneSlots] ++
  (List.finRange 8).map (fun l => (s.lane l).phase.code) ++
  be16 s.link.discarded ++ be32 s.time.uptime ++ [s.time.cause.code]

/-- GET-STATUS (R185). -/
def getStatus (i : SlotId) (_body : List Byte) (s : State) : State := complete s i ⟨.ok, statusBytes s⟩

/-- RESTART (R186, R164): taken only while the store is IDLE and no restart is pending. -/
def restartRequest (i : SlotId) (_body : List Byte) (s : State) : State :=
  if s.store.activity ≠ .idle ∨ s.store.restartPending = true then complete s i (bare .storeBusy)
  else complete { s with store := { s.store with restartPending := true } } i (bare .ok)

/-! ## Validation (R182) -/

/-- The field checks, the kind's own checks and its effect, by the owner of each kind (R182, steps 4 and 5). -/
def carryOut : RequestKind → SlotId → List Byte → State → State
  | .identifyPart => identifyPart
  | .getStatus => getStatus
  | .restart => restartRequest
  | .startEvents => startEvents
  | .ackEvents => ackEvents
  | .stopEvents => stopEvents
  | .readControls => readControls
  | .readGroups => readGroups
  | .readLane => readLane
  | .laneCommand => laneCommand
  | .setLamps => setLamps
  | .releaseLamps => releaseLampsRequest
  | .clearLaneFault => clearLaneFault
  | .enterConfig => enterConfig
  | .exitConfig => exitConfig
  | .defineControl => defineControl
  | .deleteControl => deleteControl
  | .readControlDef => readControlDef
  | .setGroup => setGroup
  | .setLane => setLaneRequest
  | .setDelivery => setDelivery
  | .learn => learnRequest
  | .commit => commitRequest
  | .revert => revertRequest
  | .loadDefaults => loadDefaults
  | .readStore => readStore

/-- A taken request of a catalogue kind: length, mode, then its owner (R182, steps 2 to 5). -/
def validateKind (s : State) (i : SlotId) (k : RequestKind) (body : List Byte) : State :=
  if body.length ≠ k.bodyLength then complete s i (bare .badLength)
  else
    match modeRefusal k.modeClass s.config.mode with
    | some status => complete s i (bare status)
    | none => carryOut k i body s

/-- A taken request is validated and carried out (R182). -/
def validate (s : State) (i : SlotId) (kind : Byte) (body : List Byte) : State :=
  match requestKindOf kind with
  | some k => validateKind s i k body
  | none => complete s i (bare .unknownKind)

/-! ## Intake (R178, R179) -/

/-- The body check of a request: the CRC-16 over its kind and body (R178). -/
def bodyCheck (kind : Byte) (body : List Byte) : Half := crc16 (kind :: body)

/-- A stored reply is queued again (R179, R172). -/
def requeue (s : State) (i : SlotId) : State :=
  { s with link := { s.link with replies := queueSlotEntry s.link.replies i } }

/-- A request is taken: placed in a slot and validated in the same happening (R179, R182). -/
def takeRequest (s : State) (i : SlotId) (q : RequestId) (body : List Byte) : State :=
  validate (placeRequest s i q) i q.kind body

/-- The Request Table takes a good frame (R179). -/
def intake (s : State) (tag kind : Byte) (body : List Byte) : State :=
  let q : RequestId := ⟨tag, bodyCheck kind body, kind⟩
  match s.slotHolding tag with
  | some i =>
    match s.slot i with
    | .active p => if p.check = q.check then s else queueRefusal s tag kind .tagConflict
    | .done p _ => if p.check = q.check then requeue s i else takeRequest s i q body
    | .free => s
  | none =>
    match s.chosenSlot with
    | some i => takeRequest s i q body
    | none => queueRefusal s tag kind .busy

/-- A frame whose check matches: with tag 0 it is discarded and counted, otherwise it is handed over (R169,
R170). -/
def receiveFrame (tag kind : Byte) (body : List Byte) (s : State) : State :=
  if tag = 0 then countDiscard s else intake s tag kind body

/-! ## The meanings -/

/-- UNKNOWN_KIND_REQUEST (R188). -/
def execUnknownKindRequest (tag kind : Byte) (body : List Byte) (s : State) : Host.Outcome State Fault Refusal :=
  .next (whenRunning s (receiveFrame tag kind body))

/-- IDENTIFY_PART (R184). -/
def execIdentifyPart (tag : Byte) (body : List Byte) (s : State) : Host.Outcome State Fault Refusal :=
  .next (whenRunning s (receiveFrame tag RequestKind.identifyPart.code body))

/-- GET_STATUS (R185). -/
def execGetStatus (tag : Byte) (body : List Byte) (s : State) : Host.Outcome State Fault Refusal :=
  .next (whenRunning s (receiveFrame tag RequestKind.getStatus.code body))

/-- RESTART (R186). -/
def execRestart (tag : Byte) (body : List Byte) (s : State) : Host.Outcome State Fault Refusal :=
  .next (whenRunning s (receiveFrame tag RequestKind.restart.code body))

/-- START_EVENTS (R42). -/
def execStartEvents (tag : Byte) (body : List Byte) (s : State) : Host.Outcome State Fault Refusal :=
  .next (whenRunning s (receiveFrame tag RequestKind.startEvents.code body))

/-- ACK_EVENTS (R44). -/
def execAckEvents (tag : Byte) (body : List Byte) (s : State) : Host.Outcome State Fault Refusal :=
  .next (whenRunning s (receiveFrame tag RequestKind.ackEvents.code body))

/-- STOP_EVENTS (R47). -/
def execStopEvents (tag : Byte) (body : List Byte) (s : State) : Host.Outcome State Fault Refusal :=
  .next (whenRunning s (receiveFrame tag RequestKind.stopEvents.code body))

/-- READ_CONTROLS (R19). -/
def execReadControls (tag : Byte) (body : List Byte) (s : State) : Host.Outcome State Fault Refusal :=
  .next (whenRunning s (receiveFrame tag RequestKind.readControls.code body))

/-- READ_GROUPS (R21). -/
def execReadGroups (tag : Byte) (body : List Byte) (s : State) : Host.Outcome State Fault Refusal :=
  .next (whenRunning s (receiveFrame tag RequestKind.readGroups.code body))

/-- READ_LANE (R119). -/
def execReadLane (tag : Byte) (body : List Byte) (s : State) : Host.Outcome State Fault Refusal :=
  .next (whenRunning s (receiveFrame tag RequestKind.readLane.code body))

/-- LANE_COMMAND_IDENTIFY (R117): LANE-COMMAND with lane command 00h. -/
def execLaneCommandIdentify (tag lane : Byte) (s : State) : Host.Outcome State Fault Refusal :=
  .next (whenRunning s (receiveFrame tag RequestKind.laneCommand.code [lane, 0]))

/-- LANE_COMMAND_RESCAN (R117): LANE-COMMAND with lane command 01h. -/
def execLaneCommandRescan (tag lane : Byte) (s : State) : Host.Outcome State Fault Refusal :=
  .next (whenRunning s (receiveFrame tag RequestKind.laneCommand.code [lane, 1]))

/-- LANE_COMMAND_RESET_MODULE (R118): LANE-COMMAND with lane command 02h. -/
def execLaneCommandResetModule (tag lane : Byte) (s : State) : Host.Outcome State Fault Refusal :=
  .next (whenRunning s (receiveFrame tag RequestKind.laneCommand.code [lane, 2]))

/-- SET_LAMPS (R130). -/
def execSetLamps (tag : Byte) (body : List Byte) (s : State) : Host.Outcome State Fault Refusal :=
  .next (whenRunning s (receiveFrame tag RequestKind.setLamps.code body))

/-- RELEASE_LAMPS (R132). -/
def execReleaseLamps (tag : Byte) (body : List Byte) (s : State) : Host.Outcome State Fault Refusal :=
  .next (whenRunning s (receiveFrame tag RequestKind.releaseLamps.code body))

/-- CLEAR_LANE_FAULT (R120). -/
def execClearLaneFault (tag : Byte) (body : List Byte) (s : State) : Host.Outcome State Fault Refusal :=
  .next (whenRunning s (receiveFrame tag RequestKind.clearLaneFault.code body))

/-- ENTER_CONFIG (R138). -/
def execEnterConfig (tag : Byte) (body : List Byte) (s : State) : Host.Outcome State Fault Refusal :=
  .next (whenRunning s (receiveFrame tag RequestKind.enterConfig.code body))

/-- EXIT_CONFIG (R139). -/
def execExitConfig (tag : Byte) (body : List Byte) (s : State) : Host.Outcome State Fault Refusal :=
  .next (whenRunning s (receiveFrame tag RequestKind.exitConfig.code body))

/-- DEFINE_CONTROL (R141). -/
def execDefineControl (tag : Byte) (body : List Byte) (s : State) : Host.Outcome State Fault Refusal :=
  .next (whenRunning s (receiveFrame tag RequestKind.defineControl.code body))

/-- DELETE_CONTROL (R142). -/
def execDeleteControl (tag : Byte) (body : List Byte) (s : State) : Host.Outcome State Fault Refusal :=
  .next (whenRunning s (receiveFrame tag RequestKind.deleteControl.code body))

/-- READ_CONTROL_DEF (R143). -/
def execReadControlDef (tag : Byte) (body : List Byte) (s : State) : Host.Outcome State Fault Refusal :=
  .next (whenRunning s (receiveFrame tag RequestKind.readControlDef.code body))

/-- SET_GROUP (R144). -/
def execSetGroup (tag : Byte) (body : List Byte) (s : State) : Host.Outcome State Fault Refusal :=
  .next (whenRunning s (receiveFrame tag RequestKind.setGroup.code body))

/-- SET_LANE (R145). -/
def execSetLane (tag : Byte) (body : List Byte) (s : State) : Host.Outcome State Fault Refusal :=
  .next (whenRunning s (receiveFrame tag RequestKind.setLane.code body))

/-- SET_DELIVERY (R146). -/
def execSetDelivery (tag : Byte) (body : List Byte) (s : State) : Host.Outcome State Fault Refusal :=
  .next (whenRunning s (receiveFrame tag RequestKind.setDelivery.code body))

/-- LEARN (R74). -/
def execLearn (tag : Byte) (body : List Byte) (s : State) : Host.Outcome State Fault Refusal :=
  .next (whenRunning s (receiveFrame tag RequestKind.learn.code body))

/-- COMMIT (R158). -/
def execCommit (tag : Byte) (body : List Byte) (s : State) : Host.Outcome State Fault Refusal :=
  .next (whenRunning s (receiveFrame tag RequestKind.commit.code body))

/-- REVERT (R147). -/
def execRevert (tag : Byte) (body : List Byte) (s : State) : Host.Outcome State Fault Refusal :=
  .next (whenRunning s (receiveFrame tag RequestKind.revert.code body))

/-- LOAD_DEFAULTS (R147). -/
def execLoadDefaults (tag : Byte) (body : List Byte) (s : State) : Host.Outcome State Fault Refusal :=
  .next (whenRunning s (receiveFrame tag RequestKind.loadDefaults.code body))

/-- READ_STORE (R165). -/
def execReadStore (tag : Byte) (body : List Byte) (s : State) : Host.Outcome State Fault Refusal :=
  .next (whenRunning s (receiveFrame tag RequestKind.readStore.code body))

end Sys2Proof.Machine
end

