-- ==== Sys2Proof/Machine/HostLink.lean ====
section
/-! DEFINITION. The Host Link (10): the receiver's states, discards, the gap limit, and reply frames on HTXD. -/

namespace Sys2Proof.Machine

/-! ## Reception (R169, R170) -/

/-- SOF. -/
def sofByte : Byte := 0xA5

/-- The receive state becomes HUNT or a frame in assembly. -/
def setRx (s : State) (rx : Option Assembly) : State := { s with link := { s.link with rx := rx } }

/-- A frame in assembly is discarded: HUNT, and the counter advances (R170, R171). -/
def discardFrame (s : State) : State := countDiscard (setRx s none)

/-- A frame begins: state LEN, the running check at FFFFh, the gap measured from here (R169). -/
def beginFrame (now : Word) : Assembly := ⟨.len, 0, 0, 0, [], crc16Start, 0, now⟩

/-- A byte is taken into the running check and the gap is measured from it (R169). -/
def Assembly.taking (a : Assembly) (now : Word) (b : Byte) (next : Awaited) : Assembly :=
  { a with awaited := next, check := crc16Byte a.check b, gapSince := now }

/-- The state after the byte that leaves `received` body bytes received: BODY until LEN less 2 of them have
come, then CHK1 (R169). -/
def afterBody (len : Byte) (received : Nat) : Awaited := if received + 2 < len.toNat then .body else .chk1

/-- The CHK2 byte ends the frame (R169, R170): handed over when the check matches and the tag is not 0. -/
def frameEnds (s : State) (a : Assembly) (low : Byte) : State :=
  if half a.chkHigh low = a.check then receiveFrame a.tag a.kind a.body (setRx s none) else discardFrame s

/-- A good byte in a frame in assembly (R169). -/
def assembleByte (s : State) (a : Assembly) (b : Byte) : State :=
  let now := s.time.uptime
  match a.awaited with
  | .len =>
    if 2 ≤ b.toNat ∧ b.toNat ≤ 200 then setRx s (some { a.taking now b .tag with len := b }) else discardFrame s
  | .tag => setRx s (some { a.taking now b .kind with tag := b })
  | .kind => setRx s (some { a.taking now b (afterBody a.len 0) with kind := b })
  | .body =>
    let body := a.body ++ [b]
    setRx s (some { a.taking now b (afterBody a.len body.length) with body := body })
  | .chk1 => setRx s (some { a with awaited := .chk2, chkHigh := b, gapSince := now })
  | .chk2 => frameEnds s a b

/-- A byte arrives on HRXD (R169, R170): good when its stop bit is 1 (R167). -/
def byteReceived (s : State) (b : Byte) (stopBit : Bool) : State :=
  match s.link.rx, stopBit with
  | none, true => if b = sofByte then setRx s (some (beginFrame s.time.uptime)) else s
  | none, false => s
  | some a, true => assembleByte s a b
  | some _, false => discardFrame s

/-- The gap of the frame in assembly has lasted 5 ms (R170). Where the start bit of a further byte was taken
before the limit, the gap is not exceeded, and the frame stays for that byte. No gap is measured after CHK2,
which leaves no frame in assembly. -/
def gapExpires (s : State) (startBit : Bool) : State :=
  match s.link.rx, startBit with
  | some a, false => if (startWait a.gapSince gapLimitMs).reached s.time.uptime then discardFrame s else s
  | _, _ => s

/-! ## Reply frames (R173 to R175) -/

/-- The frame of an entry of the outgoing reply list, with its content as it stands (R172, R174, R181). A slot
entry whose slot is not DONE does not occur and has no frame. -/
def entryFrame (s : State) (e : ReplyEntry) : Option HostFrame :=
  match e with
  | .refusal tag kind status => some (replyFrame tag kind (bare status))
  | .slot i =>
    match s.slot i with
    | .done q r => some (replyFrame q.tag q.kind r)
    | _ => none

/-- With the transmitter idle, the oldest entry leaves the list and its frame starts (R172, R173). -/
def replyStarts (s : State) : State :=
  match s.link.tx, s.link.replies with
  | .idle, e :: rest =>
    match entryFrame s e with
    | some f => { s with link := { s.link with tx := .reply f, replies := rest } }
    | none => s
  | _, _ => s

/-- A reply frame ends: the transmitter is idle, or, after an OK RESTART reply, the restart begins in the same
happening (R173, R175). -/
def replyEnds (s : State) (straps : BitVec 2) : State :=
  match s.link.tx with
  | .reply f => if isRestartReply f then restartPart s straps else { s with link := { s.link with tx := .idle } }
  | _ => s

/-! ## The host line (R167) -/

/-- What the part drives on HTXD: the idle (marking) level 1, or the bits of a frame, one after the other at
the baud rate in force. -/
inductive HostLine where
  | marking
  | sending (bits : List Bool)
  deriving DecidableEq, Repr

/-- HTXD (R167, R174, R176). -/
def htxdLine (s : State) : HostLine :=
  match s.link.tx with
  | .idle => .marking
  | .reply f => .sending f.lineBits
  | .report f => .sending f.lineBits

/-- HTXD is at the idle (marking) level: no frame is on it (R167, R176). -/
def htxdIdle (s : State) : Bool := decide (htxdLine s = .marking)

/-- The byte and the stop bit that ten bits on HRXD spell: a start bit 0, the data bits from the least
significant, no parity, the stop bit (R167); `none` where no start bit stands first. They are the operands of
HOST_BYTE_RECEIVED. -/
def receivedByte (bits : List Bool) : Option (Byte × Bool) :=
  match bits with
  | [false, d0, d1, d2, d3, d4, d5, d6, d7, stop] => some (BitVec.ofBoolListLE [d0, d1, d2, d3, d4, d5, d6, d7], stop)
  | _ => none

/-! ## The meanings -/

/-- HOST_BYTE_RECEIVED (R169). -/
def execHostByteReceived (byte : Byte) (stopBit : Bool) (s : State) : Host.Outcome State Fault Refusal :=
  .next (whenRunning s fun s => byteReceived s byte stopBit)

/-- GAP_LIMIT (R170). -/
def execGapLimit (s : State) (startBit : Bool := false) : Host.Outcome State Fault Refusal :=
  .next (whenRunning s fun s => gapExpires s startBit)

/-- REPLY_FRAME_START (R173). -/
def execReplyFrameStart (s : State) : Host.Outcome State Fault Refusal := .next (whenRunning s replyStarts)

/-- REPLY_FRAME_END (R173, R175). -/
def execReplyFrameEnd (straps : BitVec 2) (s : State) : Host.Outcome State Fault Refusal :=
  .next (whenRunning s fun s => replyEnds s straps)

end Sys2Proof.Machine
end

