-- ==== Sys2Proof/Machine/Dispatch.lean ====
section
/-! DEFINITION. The meaning of every command. -/

namespace Sys2Proof.Machine

/-- One arm per command; each calls its meaning. -/
def exec (i : Instr) (s : State) : Host.Outcome State Fault Refusal :=
  match i with
  | .hardReset ending straps => Sys2Proof.Machine.execHardReset ending straps s
  | .timeBaseTick => Sys2Proof.Machine.execTimeBaseTick s
  | .hostByteReceived byte stopBit => Sys2Proof.Machine.execHostByteReceived byte stopBit s
  | .gapLimit startBit => Sys2Proof.Machine.execGapLimit s startBit
  | .unknownKindRequest tag kind body => Sys2Proof.Machine.execUnknownKindRequest tag kind body s
  | .identifyPart tag body => Sys2Proof.Machine.execIdentifyPart tag body s
  | .getStatus tag body => Sys2Proof.Machine.execGetStatus tag body s
  | .restart tag body => Sys2Proof.Machine.execRestart tag body s
  | .startEvents tag body => Sys2Proof.Machine.execStartEvents tag body s
  | .ackEvents tag body => Sys2Proof.Machine.execAckEvents tag body s
  | .stopEvents tag body => Sys2Proof.Machine.execStopEvents tag body s
  | .readControls tag body => Sys2Proof.Machine.execReadControls tag body s
  | .readGroups tag body => Sys2Proof.Machine.execReadGroups tag body s
  | .readLane tag body => Sys2Proof.Machine.execReadLane tag body s
  | .laneCommandIdentify tag lane => Sys2Proof.Machine.execLaneCommandIdentify tag lane s
  | .laneCommandRescan tag lane => Sys2Proof.Machine.execLaneCommandRescan tag lane s
  | .laneCommandResetModule tag lane => Sys2Proof.Machine.execLaneCommandResetModule tag lane s
  | .setLamps tag body => Sys2Proof.Machine.execSetLamps tag body s
  | .releaseLamps tag body => Sys2Proof.Machine.execReleaseLamps tag body s
  | .clearLaneFault tag body => Sys2Proof.Machine.execClearLaneFault tag body s
  | .enterConfig tag body => Sys2Proof.Machine.execEnterConfig tag body s
  | .exitConfig tag body => Sys2Proof.Machine.execExitConfig tag body s
  | .defineControl tag body => Sys2Proof.Machine.execDefineControl tag body s
  | .deleteControl tag body => Sys2Proof.Machine.execDeleteControl tag body s
  | .readControlDef tag body => Sys2Proof.Machine.execReadControlDef tag body s
  | .setGroup tag body => Sys2Proof.Machine.execSetGroup tag body s
  | .setLane tag body => Sys2Proof.Machine.execSetLane tag body s
  | .setDelivery tag body => Sys2Proof.Machine.execSetDelivery tag body s
  | .learn tag body => Sys2Proof.Machine.execLearn tag body s
  | .commit tag body => Sys2Proof.Machine.execCommit tag body s
  | .revert tag body => Sys2Proof.Machine.execRevert tag body s
  | .loadDefaults tag body => Sys2Proof.Machine.execLoadDefaults tag body s
  | .readStore tag body => Sys2Proof.Machine.execReadStore tag body s
  | .replyFrameStart => Sys2Proof.Machine.execReplyFrameStart s
  | .reportFrameStart => Sys2Proof.Machine.execReportFrameStart s
  | .replyFrameEnd straps => Sys2Proof.Machine.execReplyFrameEnd straps s
  | .reportFrameEnd => Sys2Proof.Machine.execReportFrameEnd s
  | .retransmissionTimerExpires => Sys2Proof.Machine.execRetransmissionTimerExpires s
  | .translatorTurn => Sys2Proof.Machine.execTranslatorTurn s
  | .learnTimeout => Sys2Proof.Machine.execLearnTimeout s
  | .moduleFrameStart lane => Sys2Proof.Machine.execModuleFrameStart lane s
  | .goodFrame lane byte => Sys2Proof.Machine.execGoodFrame lane byte s
  | .badFrame lane => Sys2Proof.Machine.execBadFrame lane s
  | .frameLimitBreach lane => Sys2Proof.Machine.execFrameLimitBreach lane s
  | .exchangeStart lane => Sys2Proof.Machine.execExchangeStart lane s
  | .noClock lane => Sys2Proof.Machine.execNoClock lane s
  | .commandByteComplete lane => Sys2Proof.Machine.execCommandByteComplete lane s
  | .txTimeout lane => Sys2Proof.Machine.execTxTimeout lane s
  | .noReply lane => Sys2Proof.Machine.execNoReply lane s
  | .probeDue lane => Sys2Proof.Machine.execProbeDue lane s
  | .helloDeadline lane => Sys2Proof.Machine.execHelloDeadline lane s
  | .bankReadEnds => Sys2Proof.Machine.execBankReadEnds s
  | .bankWriteAttemptEnds readBack => Sys2Proof.Machine.execBankWriteAttemptEnds readBack s
  | .moduleFirstClock lane => Sys2Proof.Machine.execModuleFirstClock lane s
  | .hardResetBegins cause => Sys2Proof.Machine.execHardResetBegins cause s

end Sys2Proof.Machine
end

