-- ==== Sys2Proof/Safety.lean ====
section
/-! DEFINITION. What counts as a safe state: the laws of the spec that every step keeps, and the terms the
statements use for a request that is taken, for a turn of the Code Translator and for a lane's exchange. -/

namespace Sys2Proof.Machine

/-! ## Requests as the host sends them -/

/-- The frame (tag, kind, body) that a request row hands to the Request Table (R169, R179). -/
def requestOf : Instr → Option (Byte × Byte × List Byte)
  | .unknownKindRequest tag kind body => some (tag, kind, body)
  | .identifyPart tag body => some (tag, RequestKind.identifyPart.code, body)
  | .getStatus tag body => some (tag, RequestKind.getStatus.code, body)
  | .restart tag body => some (tag, RequestKind.restart.code, body)
  | .startEvents tag body => some (tag, RequestKind.startEvents.code, body)
  | .ackEvents tag body => some (tag, RequestKind.ackEvents.code, body)
  | .stopEvents tag body => some (tag, RequestKind.stopEvents.code, body)
  | .readControls tag body => some (tag, RequestKind.readControls.code, body)
  | .readGroups tag body => some (tag, RequestKind.readGroups.code, body)
  | .readLane tag body => some (tag, RequestKind.readLane.code, body)
  | .laneCommandIdentify tag lane => some (tag, RequestKind.laneCommand.code, [lane, 0])
  | .laneCommandRescan tag lane => some (tag, RequestKind.laneCommand.code, [lane, 1])
  | .laneCommandResetModule tag lane => some (tag, RequestKind.laneCommand.code, [lane, 2])
  | .setLamps tag body => some (tag, RequestKind.setLamps.code, body)
  | .releaseLamps tag body => some (tag, RequestKind.releaseLamps.code, body)
  | .clearLaneFault tag body => some (tag, RequestKind.clearLaneFault.code, body)
  | .enterConfig tag body => some (tag, RequestKind.enterConfig.code, body)
  | .exitConfig tag body => some (tag, RequestKind.exitConfig.code, body)
  | .defineControl tag body => some (tag, RequestKind.defineControl.code, body)
  | .deleteControl tag body => some (tag, RequestKind.deleteControl.code, body)
  | .readControlDef tag body => some (tag, RequestKind.readControlDef.code, body)
  | .setGroup tag body => some (tag, RequestKind.setGroup.code, body)
  | .setLane tag body => some (tag, RequestKind.setLane.code, body)
  | .setDelivery tag body => some (tag, RequestKind.setDelivery.code, body)
  | .learn tag body => some (tag, RequestKind.learn.code, body)
  | .commit tag body => some (tag, RequestKind.commit.code, body)
  | .revert tag body => some (tag, RequestKind.revert.code, body)
  | .loadDefaults tag body => some (tag, RequestKind.loadDefaults.code, body)
  | .readStore tag body => some (tag, RequestKind.readStore.code, body)
  | .hardReset _ _ | .timeBaseTick | .hostByteReceived _ _ | .gapLimit _ | .replyFrameStart | .reportFrameStart
  | .replyFrameEnd _ | .reportFrameEnd | .retransmissionTimerExpires | .translatorTurn | .learnTimeout
  | .moduleFrameStart _ | .goodFrame _ _ | .badFrame _ | .frameLimitBreach _ | .exchangeStart _ | .noClock _
  | .commandByteComplete _ | .txTimeout _ | .noReply _ | .probeDue _ | .helloDeadline _ | .bankReadEnds
  | .bankWriteAttemptEnds _ | .moduleFirstClock _ | .hardResetBegins _ => none

/-- The request (tag, kind, body) is taken and slot `i` is the one it is placed in: no slot holds its tag and
R180 chooses slot `i`, or slot `i` is DONE with its tag and another body check (R179). -/
structure TakenIn (s : State) (tag kind : Byte) (body : List Byte) (i : SlotId) : Prop where
  running : s.line = .running
  tagged : tag ≠ 0
  place : (s.slotHolding tag = none ∧ s.chosenSlot = some i) ∨
    (s.slotHolding tag = some i ∧ ∃ q r, s.slot i = .done q r ∧ q.check ≠ bodyCheck kind body)

/-- The state once the request is placed in slot `i`, before it is validated (R180). -/
def placed (s : State) (tag kind : Byte) (body : List Byte) (i : SlotId) : State :=
  placeRequest s i ⟨tag, bodyCheck kind body, kind⟩

/-- Several commands in a row, ended by the first outcome that is not a next state. -/
def runAll (cs : List Instr) (s : State) : Host.Outcome State Fault Refusal :=
  match cs with
  | [] => .next s
  | c :: rest =>
    match exec c s with
    | .next t => runAll rest t
    | o => o

/-! ## Laws of the Event Queue, the Delivery Unit and the Translator's wait -/

/-- R25, R30, R31, R33, R38 to R41, R55, R65, R136: the queue holds at most 128 records with consecutive
numbers, the in-flight count is within the queue and the window, the OFF and STALLED rows hold, delivery is
OFF outside RUN, the retransmit count stays below the limit until a stall, and the Translator waits only for
space in a full queue. -/
structure DeliveryLaws (s : State) : Prop where
  capacity : s.queue.records.length ≤ 128
  inFlightHeld : s.delivery.inFlight ≤ s.queue.records.length
  inFlightWindow : s.delivery.inFlight ≤ s.delivery.window
  windowRange : s.delivery.window ≤ 64
  consecutive : ∀ (k : Nat) (h : k < s.queue.records.length),
    s.queue.records[k].sequence = s.queue.next - BitVec.ofNat 16 (s.queue.records.length - k)
  whileOff : s.delivery.state = .off →
    s.queue.records = [] ∧ s.delivery.window = 0 ∧ s.delivery.timer = none ∧ s.delivery.retransmits = 0
  whileOn : s.delivery.state = .on → s.delivery.retransmits < s.config.working.retransmitLimit
  whileStalled : s.delivery.state = .stalled →
    s.delivery.inFlight = 0 ∧ s.delivery.timer = none ∧
      s.delivery.retransmits = s.config.working.retransmitLimit
  onlyInRun : s.config.mode ≠ .run → s.delivery.state = .off
  waits : s.translator.waiting ≠ none → s.delivery.state ≠ .off ∧ s.queue.records.length = 128

/-! ## Laws of the Request Table and the outgoing reply list -/

/-- The slots that have an entry in the outgoing reply list, in order. -/
def slotEntries (list : List ReplyEntry) : List SlotId :=
  list.filterMap fun e =>
    match e with
    | .slot i => some i
    | .refusal _ _ _ => none

/-- The kinds of the four long-running requests: LANE-COMMAND, SET-LAMPS, LEARN, COMMIT (R183). -/
def longRunning (kind : Byte) : Prop :=
  kind = RequestKind.laneCommand.code ∨ kind = RequestKind.setLamps.code ∨ kind = RequestKind.learn.code ∨
    kind = RequestKind.commit.code

/-- R172, R177, R180, R181, R183: tags are 1 to 255 and distinct, the completion order lists exactly the DONE
slots, the outgoing reply list names DONE slots, each at most once, and holds at most 4 refusals, each
TAG_CONFLICT or BUSY, and only the long-running kinds stay ACTIVE. -/
structure RequestLaws (s : State) : Prop where
  tagged : ∀ i q, (s.slot i).request = some q → q.tag ≠ 0
  distinctTags : ∀ i j p q, (s.slot i).request = some p → (s.slot j).request = some q → p.tag = q.tag → i = j
  orderOnce : s.requests.order.Nodup
  orderDone : ∀ i, i ∈ s.requests.order ↔ (s.slot i).isDone = true
  entriesOnce : (slotEntries s.link.replies).Nodup
  entriesDone : ∀ i, ReplyEntry.slot i ∈ s.link.replies → (s.slot i).isDone = true
  fewRefusals : s.link.replies.countP ReplyEntry.isRefusal ≤ 4
  refusalStatus : ∀ tag kind status, ReplyEntry.refusal tag kind status ∈ s.link.replies →
    status = .tagConflict ∨ status = .busy
  activeKinds : ∀ i q, s.slot i = .active q → longRunning q.kind

/-- R164, R175, R186: while the part runs, restart pending is set exactly while the OK reply of one RESTART
waits in the outgoing reply list or is on the line, and the store is then IDLE. -/
structure RestartLaws (s : State) : Prop where
  single : ∀ i j, (s.slot i).isRestartOk = true → (s.slot j).isRestartOk = true → i = j
  replyPending : ∀ i, (s.slot i).isRestartOk = true → s.store.restartPending = true
  linePending : s.line = .running → s.restartOnLine = true → s.store.restartPending = true
  pendingReply : s.line = .running → s.store.restartPending = true →
    s.restartOnLine = true ∨ ∃ i, (s.slot i).isRestartOk = true ∧ ReplyEntry.slot i ∈ s.link.replies
  pendingIdle : s.store.restartPending = true → s.store.activity = .idle

/-! ## Laws of the Lane Controllers -/

/-- An entry has the origin its kind admits: LAMP and the start-up entries are internal, IDENTIFY and
RESET-MODULE come from the host, RESCAN from either (R103). -/
def Entry.originOk (e : Entry) : Bool :=
  match e.kind with
  | .identify | .resetModule => e.request.isSome
  | .rescan => true
  | .lamp | .probeIdentify | .enable | .disable => e.request.isNone

/-- The entries that may wait in a lane's list, by phase and step (R103, R105 to R108, R118). -/
def Entry.mayWait (e : Entry) (phase : Phase) (step : Option StartStep) : Bool :=
  match phase, step with
  | .running, _ => !e.isStartUp
  | .absent, _ => decide (e.kind = .probeIdentify)
  | .mismatch, _ => decide (e.kind = .disable)
  | .starting, some .identify => decide (e.kind = .probeIdentify)
  | .starting, some .enable => decide (e.kind = .enable)
  | .starting, _ => false
  | .disabled, _ => false

/-- The entry in progress, by phase and step; a DISABLE may still run in step ENABLE (R115). -/
def Entry.mayRun (e : Entry) (phase : Phase) (step : Option StartStep) : Bool :=
  e.mayWait phase step || (decide (phase = .starting ∧ step = some .enable) && decide (e.kind = .disable))

/-- R68, R99, R102, R105, R109, R118, R122: what each phase holds; ACK, HELLO, RESEND-REQ and MODULE-ERROR never
stand in the slot. -/
structure PhaseLaws (x : Lane) : Prop where
  step : x.startStep.isSome ↔ x.phase = .starting
  slot : x.slot.isSome → x.phase = .running
  slotByte : ∀ b, x.slot = some b → b ∉ [0xB4#8, 0xB5, 0xBE, 0xBF]
  probe : x.probeDue.isSome → x.phase = .absent
  hello : x.helloDeadline.isSome ↔ x.startStep = some .waitHello
  failures : x.failures < 3
  failing : x.failures ≠ 0 → x.phase = .running
  waiting : x.waiters ≠ [] → x.phase = .running
  known : x.known.isSome ↔ x.phase = .running ∨ x.phase = .mismatch ∨ x.startStep = some .enable
  identity : ∀ m, x.known = some m → 0x01#8 ≤ m.moduleType ∧ m.moduleType ≤ 0x7F#8 ∧ m.lampCount ≤ 0x10#8

/-- R103: what the command list holds: at most 2 host entries, 1 LAMP, 1 internal RESCAN, 1 start-up entry,
hence at most 4, each fit for the phase. -/
structure ListLaws (x : Lane) : Prop where
  fits : ∀ e ∈ x.list, e.originOk = true ∧ e.mayWait x.phase x.startStep = true
  host : x.list.countP (fun e => e.request.isSome) ≤ 2
  lamp : x.list.countP (fun e => decide (e.kind = .lamp)) ≤ 1
  rescan : x.list.countP (fun e => decide (e = ⟨.rescan, none⟩)) ≤ 1
  startUp : x.list.countP (·.isStartUp) ≤ 1
  short : x.list.length ≤ 4

/-- R80, R86, R101: the activity agrees with the exchange, the frame in progress and the slot. -/
structure WireLaws (x : Lane) : Prop where
  exchange : x.exchange.isSome ↔ x.activity = .sending ∨ x.activity = .awaiting
  frame : x.frame.isSome → x.activity = .receiving ∨ x.activity = .awaiting
  receiving : x.activity = .receiving → x.frame.isSome
  idle : x.activity = .idle → x.slot = none
  held : x.activity = .held → x.slot.isSome
  off : x.activity = .off → x.phase = .disabled
  disabled : x.phase = .disabled → x.activity = .off ∨ x.activity = .receiving

/-- The command an entry is carried out with, given the sent image of a LAMP (R85, R124). -/
def Entry.carriedBy (e : Entry) (command : ModuleCommand) (sent : Option (Half × Word)) : Prop :=
  match sent with
  | some (image, _) => command = e.command image
  | none => e.kind ≠ .lamp ∧ command = e.command 0

/-- R85, R86, R89, R92, R96, R97, R104, R124: what an exchange in progress holds. -/
structure ExchangeLaws (x : Lane) (ex : Exchange) : Prop where
  attempt : 1 ≤ ex.attempt ∧ ex.attempt ≤ 3
  byte : ex.byteIndex < ex.command.bytes.length
  sending : x.activity = .sending → ex.due = []
  awaiting : x.activity = .awaiting → ex.due ≠ [] ∧ ex.due <:+ ex.command.positions
  typeTaken : ex.due = [.lampCount] → 0x01#8 ≤ ex.typeTaken ∧ ex.typeTaken ≤ 0x7F#8
  entry : x.inProgress.isSome ↔ ex.command ≠ .resend
  command : ∀ e, x.inProgress = some e → e.carriedBy ex.command x.sent
  parity : ex.command = .resend → x.parityCount = some 1 ∨ x.parityCount = some 2
  noParity : ex.command ≠ .resend → x.parityCount = none
  resendPhase : ex.command = .resend → x.phase = .running ∨ x.phase = .starting ∨ x.phase = .mismatch

/-- R123 to R126, R129 to R131: no change of a RUNNING lane's lamps is forgotten. While no LAMP entry waits and
none is in progress, the module has confirmed the desired image and nobody waits for it; while one is in
progress and none waits, it carries the desired image. -/
structure LampLaws (x : Lane) : Prop where
  confirmed : x.phase = .running → x.hasLampEntry = false → x.sent = none →
    x.acked = x.desired ∧ x.ackedVersion = x.desiredVersion ∧ x.waiters = []
  carried : x.phase = .running → x.hasLampEntry = false → ∀ image version, x.sent = some (image, version) →
    image = x.desired ∧ version = x.desiredVersion

/-- All the laws of one lane. -/
structure LaneLaws (x : Lane) : Prop where
  phase : PhaseLaws x
  list : ListLaws x
  wire : WireLaws x
  inExchange : ∀ ex, x.exchange = some ex → ExchangeLaws x ex
  noExchange : x.exchange = none → x.inProgress = none ∧ x.parityCount = none
  running : ∀ e, x.inProgress = some e → e.originOk = true ∧ e.mayRun x.phase x.startStep = true
  sent : x.sent.isSome ↔ ∃ e, x.inProgress = some e ∧ e.kind = .lamp
  lamps : LampLaws x

/-- The laws of the eight lanes, which hold while no reset is held. -/
def LanesLawful (s : State) : Prop := s.line = .running → ∀ l, LaneLaws (s.lane l)

/-! ## Laws of waiting requests -/

/-- The request slots that a lane, the LEARN waiter and the commit context wait to complete. -/
def owedSlots (s : State) : List SlotId :=
  (List.finRange 8).flatMap (fun l => (s.lane l).hostWork) ++ (s.translator.learn.map (·.slot)).toList ++
    (s.store.commit.map (·.slot)).toList

/-- R183: while the part runs, every ACTIVE request is owed its reply by exactly one owner, and every owner
owes it to an ACTIVE request. -/
def NoRequestForgotten (s : State) : Prop :=
  s.line = .running → (owedSlots s).Nodup ∧ ∀ i, i ∈ owedSlots s ↔ (s.slot i).isActive = true

/-! ## Laws of the configuration and the store -/

/-- The commands that wait are ones the outside world can give. -/
def pendingWf (s : State) : Prop := ∀ c ∈ s.pending, c.wf = true

/-- R134, R135, R140, R6: every image held keeps the laws of the definitions, and the dirty flag is set
exactly when the working configuration differs from the store copy. -/
structure ImageLaws (s : State) : Prop where
  working : s.config.working.wf
  storeCopy : s.config.storeCopy.wf
  inUse : s.store.image.wf
  snapshot : ∀ c, s.store.commit = some c → c.snapshot.wf
  banks : ∀ n, (s.store.banks.get n).wf
  dirty : s.config.dirty = true ↔ s.config.working ≠ s.config.storeCopy

/-- The number of banks a commit has dealt with before a bank (R160). -/
def BankName.before : BankName → Nat
  | .a => 0
  | .b => 1
  | .c => 2

/-- R136, R149 to R153, R158 to R160: activity, mode, bank in progress and commit context agree; a commit's
good count is at most the number of banks before the one in progress; standings are held after the vote; the
bank in progress is INVALID; a VALID bank holds a generation other than 0 and a check code that verifies, and
what a repair or a commit writes will read VALID. -/
structure StoreLaws (s : State) : Prop where
  voting : s.store.activity = .voting ↔ s.config.mode = .startup
  committing : s.store.commit.isSome ↔ s.store.activity = .committing
  writing : s.line = .running →
    (s.store.write.isSome ↔ s.store.activity = .repairing ∨ s.store.activity = .committing)
  writingOnly : s.store.write.isSome → s.store.activity = .repairing ∨ s.store.activity = .committing
  invalid : ∀ w, s.store.write = some w → (s.store.views.get w.bank).standing = some .invalid
  origin : ∀ w, s.store.write = some w → w.origin = .commit → s.store.commit.isSome
  good : ∀ w c, s.store.write = some w → s.store.commit = some c →
    c.good ≤ (match w.origin with | .repair => 0 | .commit => w.bank.before)
  standings : s.store.activity ≠ .voting → ∀ n, (s.store.views.get n).standing.isSome
  valid : ∀ n, (s.store.views.get n).standing = some .valid →
    (s.store.banks.get n).readsValid = true ∧ (s.store.views.get n).generation = (s.store.banks.get n).generation
  repairs : ∀ w, s.store.write = some w → w.origin = .repair → s.store.generation ≠ 0
  commits : ∀ c, s.store.commit = some c → c.generation ≠ 0

/-! ## Laws of the Control Table -/

/-- R1 to R3, R7, R22, R102: the dynamic parts are those of the defined identifiers; a defined control is
UNKNOWN exactly when the part is not in RUN mode, or it is unbound, or its bound lane is not RUNNING; only a
TOGGLE is latched; a selected member is a defined MEMBER of its group; in STARTUP no control is defined and
every lane is DISABLED. -/
structure ControlLaws (s : State) : Prop where
  keys : s.table.entries.map (·.1) = s.config.working.controls.map (·.1)
  rising : sortedKeys s.config.working.controls
  physical : ∀ c d, s.definition c = some d →
    ((s.control c).physical = .unknown ↔ ¬(s.config.mode = .run ∧ s.boundRunning c = true))
  latched : ∀ c d, s.definition c = some d → (s.control c).latched = true → d.kind = .toggle
  selected : ∀ g c, s.selection g = some c → ∃ d, s.definition c = some d ∧ d.kind = .member g
  slots : ∀ l, (s.lane l).slot.isSome → (s.lane l).phase = .running
  startup : s.config.mode = .startup → s.config.working.controls = [] ∧ ∀ l, (s.lane l).phase = .disabled
  voting : s.store.activity = .voting ↔ s.config.mode = .startup
  noWrite : s.store.activity = .voting → s.store.write = none ∧ s.store.commit = none

/-- R32, R100, R107, R112, R115: after STARTUP a lane is DISABLED exactly when its setting disables it; the
module of a RUNNING lane is of the expected type and that of a MISMATCH lane is not; no status-wanted flag is
raised while delivery is OFF. -/
structure SettingLaws (s : State) : Prop where
  enabled : s.config.mode ≠ .startup →
    ∀ l : LaneId, (s.lane l).phase = .disabled ↔ (s.config.working.lanes[l]).enabled = false
  expected : ∀ l, (s.lane l).phase = .running → matchesType (s.expectedType l) (s.lane l).known = true
  unexpected : ∀ l, (s.lane l).phase = .mismatch → matchesType (s.expectedType l) (s.lane l).known = false
  quiet : s.delivery.state = .off → ∀ l, (s.lane l).statusWanted = false

/-- A state that keeps all the laws. -/
structure SafeState (s : State) : Prop where
  delivery : DeliveryLaws s
  requests : RequestLaws s
  restart : RestartLaws s
  lanes : LanesLawful s
  owed : NoRequestForgotten s
  images : ImageLaws s
  store : StoreLaws s
  controls : ControlLaws s
  settings : SettingLaws s

/-! ## Turns of the Code Translator -/

/-- The next Translator turn takes byte `b` from the slot of lane `l`, and is served (R63 to R65). -/
structure TurnTakes (s : State) (l : LaneId) (b : Byte) : Prop where
  running : s.line = .running
  started : s.config.mode ≠ .startup
  free : s.translator.waiting = none
  chosen : nextLane s = some l
  noStatus : (s.lane l).statusWanted = false
  byte : (s.lane l).slot = some b
  served : turnHeld s l = false

/-- The next Translator turn takes byte `b` of lane `l` in RUN mode, the byte completes the code of the key
bound to control `c`, of definition `d`, and `release` is the release flag (R69, R71). -/
structure KeyTurn (s : State) (l : LaneId) (b : Byte) (c : ControlId) (d : ControlDef) (release : Bool) : Prop where
  takes : TurnTakes s l b
  mode : s.config.mode = .run
  image : s.config.working.wf
  controls : ControlLaws s
  defined : s.definition c = some d
  bound : d.binding = some ⟨l, decide (s.prefixOf l = .ext ∨ s.prefixOf l = .extRel), b⟩
  released : release = decide (s.prefixOf l = .rel ∨ s.prefixOf l = .extRel)

/-- The queue after a record that a turn creates is placed: appended with the next sequence number and the
current uptime, or dropped while delivery is OFF (R31, R32). -/
def queueWith (s : State) (e : Option Event) : EventQueue :=
  match e with
  | none => s.queue
  | some e =>
    if s.delivery.state = .off then s.queue
    else ⟨s.queue.records ++ [⟨s.queue.next, s.time.uptime, e⟩], s.queue.next + 1⟩

/-- The value a control's lamp is handed when the control is lit or not lit, reversed by an INVERTED sense
(R17, R18). -/
def lampValue (d : ControlDef) (lit : Bool) : List (LampPosition × Bool) :=
  match d.lamp with
  | some r => [(r.position, if r.sense = .inverted then !lit else lit)]
  | none => []

/-- The image that a lane's desired image becomes when values are handed (R18, R123): only lamps that FOLLOW
take them. -/
def handedImage (l : LaneId) (x : Lane) (handed : List (LampPosition × Bool)) : Half :=
  handed.foldl (followWrite l x.owners) x.desired

/-- What a turn that takes a byte of lane `l` does besides the Control Table: the record is placed, the prefix
state becomes NONE, the starting lane moves on, the slot is emptied, the lamps handed are written (R18, R63,
R67, R123). -/
structure ByteTaken (s t : State) (l : LaneId) (event : Option Event) (handed : List (LampPosition × Bool)) :
    Prop where
  time : t.time = s.time
  line : t.line = s.line
  delivery : t.delivery = s.delivery
  link : t.link = s.link
  requests : t.requests = s.requests
  config : t.config = s.config
  store : t.store = s.store
  pending : t.pending = s.pending
  queue : t.queue = queueWith s event
  translator : t.translator =
    { s.translator with prefixes := s.translator.prefixes.set l .none, start := l + 1 }
  lanes : ∀ k, t.lane k =
    (if k = l then
      { s.lane l with
        slot := none
        activity := if (s.lane l).activity = .held then .idle else (s.lane l).activity }
    else s.lane k).withDesired (handedImage k (s.lane k) handed)

/-! ## Exchanges -/

/-- A fault in a lane's latch (R111, R112). -/
def Lane.withFault (x : Lane) (k : LaneFault) (delivering : Bool) : Lane :=
  { x with
    firstFault := if x.firstFault = none then some k else x.firstFault
    lastFault := some k
    faultCount := if x.faultCount = 255 then 255 else x.faultCount + 1
    faultsSince := if x.faultsSince = 255 then 255 else x.faultsSince + 1
    statusWanted := x.statusWanted || delivering }

/-- An exchange of the lane awaits a reply, and the position due is `p`. -/
structure Awaits (x : Lane) (ex : Exchange) (p : ReplyPosition) (rest : List ReplyPosition) : Prop where
  awaiting : x.activity = .awaiting
  exchange : x.exchange = some ex
  due : ex.due = p :: rest

/-- The command `c` makes the exchange of lane `l` fail with `k`; the lane as it stands then, with the frame
that ended gone, is `x` (R94). -/
inductive FailsNow (s : State) (l : LaneId) : Instr → LaneFault → Lane → Prop where
  /-- No clock within 10 ms of the take (R86). -/
  | noClock (ex : Exchange) : (s.lane l).activity = .sending → (s.lane l).exchange = some ex →
      ex.clocked = false → ex.limit.reached s.time.uptime = true → FailsNow s l (.noClock l) .noClock (s.lane l)
  /-- The command byte is not complete within 3 ms of the first clock (R88). -/
  | txTimeout (ex : Exchange) : (s.lane l).activity = .sending → (s.lane l).exchange = some ex →
      ex.clocked = true → ex.limit.reached s.time.uptime = true →
      FailsNow s l (.txTimeout l) .txTimeout (s.lane l)
  /-- A reply position is unfilled at its deadline (R89). -/
  | noReply (ex : Exchange) : (s.lane l).activity = .awaiting → (s.lane l).exchange = some ex →
      ex.limit.reached s.time.uptime = true → FailsNow s l (.noReply l) .noReply (s.lane l)
  /-- A module frame in a reply position breaches the frame limit (R82, R89). -/
  | breach (t : Word) : (s.lane l).activity = .awaiting → (s.lane l).frame = some t →
      2#32 ≤ s.time.uptime - t → FailsNow s l (.frameLimitBreach l) .noReply { s.lane l with frame := none }
  /-- MODULE-ERROR in an ACK position or the position of a RESEND (R90, R97). -/
  | moduleError (ex : Exchange) (p : ReplyPosition) (rest : List ReplyPosition) : Awaits (s.lane l) ex p rest →
      p = .ack ∨ p = .resent → FailsNow s l (.goodFrame l 0xBF) .moduleError { s.lane l with frame := none }
  /-- An illegal byte in an ACK position (R90). -/
  | illegal (ex : Exchange) (rest : List ReplyPosition) (b : Byte) : Awaits (s.lane l) ex .ack rest →
      b ∈ [0x00#8, 0xB1, 0xB2, 0xB3, 0xB6, 0xB7, 0xB9, 0xBA, 0xBB, 0xBC, 0xBD] ∨ 0xC0#8 ≤ b →
      FailsNow s l (.goodFrame l b) .badReply { s.lane l with frame := none }
  /-- A module type outside 01h-7Fh (R90). -/
  | badType (ex : Exchange) (rest : List ReplyPosition) (b : Byte) : Awaits (s.lane l) ex .moduleType rest →
      b = 0 ∨ 0x7F#8 < b → b ≠ 0xB5 → FailsNow s l (.goodFrame l b) .badReply { s.lane l with frame := none }
  /-- A lamp count above 16 (R90). -/
  | badCount (ex : Exchange) (rest : List ReplyPosition) (b : Byte) : Awaits (s.lane l) ex .lampCount rest →
      0x10#8 < b → b ≠ 0xB5 → FailsNow s l (.goodFrame l b) .badReply { s.lane l with frame := none }
  /-- A stray event byte that finds the slot full (R91). -/
  | stray (ex : Exchange) (rest : List ReplyPosition) (b : Byte) : Awaits (s.lane l) ex .ack rest →
      (s.lane l).phase = .running → (s.lane l).slot.isSome = true → isKeyCode b ∨ b = 0xB0 ∨ b = 0xB8 →
      FailsNow s l (.goodFrame l b) .badReply { s.lane l with frame := none }
  /-- The third attempt is ended by a bad frame (R92). -/
  | badThird (ex : Exchange) (p : ReplyPosition) (rest : List ReplyPosition) : Awaits (s.lane l) ex p rest →
      p ≠ .resent → ex.attempt = 3 → FailsNow s l (.badFrame l) .resendLimit { s.lane l with frame := none }
  /-- The third attempt is ended by RESEND-REQ (R92, R97). -/
  | askedThird (ex : Exchange) (p : ReplyPosition) (rest : List ReplyPosition) : Awaits (s.lane l) ex p rest →
      p = .ack ∨ p = .resent → ex.attempt = 3 →
      FailsNow s l (.goodFrame l 0xBE) .resendLimit { s.lane l with frame := none }

/-- A lane whose exchange has ended: no exchange context, and the activity that a frame in progress and the slot
call for (R94). -/
def Lane.ended (x : Lane) : Lane :=
  { x with
    exchange := none
    parityCount := none
    inProgress := none
    activity :=
      match x.frame, x.slot with
      | some _, _ => .receiving
      | none, some _ => .held
      | none, none => .idle }

/-- The consecutive-failure count after a failure (R109). -/
def Lane.failuresAfter (x : Lane) (k : LaneFault) : Nat := if k = .moduleError then x.failures else x.failures + 1

/-- The reply of a request that a failed exchange ends (R117, R126). -/
def replyOfFailure (k : LaneFault) : Reply :=
  if k = .moduleError then ⟨.moduleError, []⟩ else ⟨.noReply, [k.code]⟩

/-- What leaving RUNNING does beside the lane's own life-cycle (R114, R14, R18, R66, R73): the bound controls become
UNKNOWN and their lamps are handed, the prefix state becomes NONE, the slot is emptied, no waiters remain, and
the requests that `ended` lists end with the status. Where the lane is that of the waiting turn, the turn is
considered anew in the same happening (log 17): the lane it would go to, the first one eligible (log 35), waits if its
turn needs space, otherwise the wait ends; a lane that is still the first one eligible waits on with its LANE_STATUS
item. The lamps of the bound controls are handed in every mode (log 18); owners, acknowledged image and version are
kept, and the desired version advances by one where the values handed change the desired image (R114, R123, R127). -/
structure LeftRunning (s t : State) (l : LaneId) (ended : State) : Prop where
  time : t.time = s.time
  line : t.line = s.line
  queue : t.queue = s.queue
  delivery : t.delivery = s.delivery
  config : t.config = s.config
  store : t.store = s.store
  pending : t.pending = s.pending
  requests : t.requests = ended.requests
  link : t.link = ended.link
  selections : t.table.selections = s.table.selections
  control : ∀ c, t.control c =
    if s.boundTo c l then (s.control c).withPhysical s.time.uptime .unknown else s.control c
  prefixes : t.translator.prefixes = s.translator.prefixes.set l .none
  start : t.translator.start = s.translator.start
  learn : t.translator.learn = s.translator.learn
  waiting : t.translator.waiting =
    if s.translator.waiting = some l then (nextLane t).filter (turnHeld t) else s.translator.waiting
  waitsOn : s.translator.waiting = some l → nextLane s = some l → s.delivery.state ≠ .off →
    128 ≤ s.queue.records.length → t.translator.waiting = some l
  others : ∀ k, k ≠ l →
    t.lane k = (s.lane k).withDesired (handedImage k (s.lane k) (t.handedLamps (s.controlsBoundTo l)))
  desired : (t.lane l).desired = handedImage l (s.lane l) (t.handedLamps (s.controlsBoundTo l))
  desiredVersion : (t.lane l).desiredVersion =
    if (t.lane l).desired = (s.lane l).desired then (s.lane l).desiredVersion else (s.lane l).desiredVersion + 1
  confirmed : (t.lane l).acked = (s.lane l).acked ∧ (t.lane l).ackedVersion = (s.lane l).ackedVersion
  owners : (t.lane l).owners = (s.lane l).owners
  slot : (t.lane l).slot = none
  waiters : (t.lane l).waiters = []
  idle : (t.lane l).exchange = none ∧ (t.lane l).inProgress = none ∧ (t.lane l).sent = none

/-- A lane with nothing under way (R114, R115): the exchange abandoned, no entry in progress, no parity count, no sent
image, no waiters, the slot emptied, the failure count 0, no start step, no probe due and no hello deadline. -/
def Lane.stopped (x : Lane) : Lane :=
  { x with
    startStep := none, failures := 0, probeDue := none, helloDeadline := none, exchange := none
    inProgress := none, parityCount := none, sent := none, waiters := [], slot := none }

/-- A lane that takes a setting while delivery is OFF (R115), by the setting's change and the phase: everything
under way ends where the lane is disabled or leaves RUNNING for MISMATCH; an enabled lane is ABSENT with a probe
queued; a MISMATCH lane whose module fits the new type is in step ENABLE, and a DISABLE in progress runs on; every
other change has no effect now. The activity with a frame in progress is log 16 for a lane enabled and log 14 for one
that leaves RUNNING for MISMATCH; that disabling prevails over a change of type made with it is log 38. -/
def Lane.settingTaken (x : Lane) (old new : LaneSetting) : Lane :=
  match new.enabled, x.phase with
  | false, .disabled => x
  | false, _ =>
    { x.stopped with
      phase := .disabled, known := none, list := [], activity := if x.frame.isSome then .receiving else .off }
  | true, .disabled =>
    { x with
      phase := .absent, list := [⟨.probeIdentify, none⟩]
      activity := if x.frame.isSome then .receiving else .idle }
  | true, phase =>
    match phase, decide (new.expectedType = old.expectedType), matchesType new.expectedType x.known with
    | .running, false, false =>
      { (x.stopped.withFault .typeMismatch false) with
        phase := .mismatch, list := [⟨.disable, none⟩]
        activity := if x.frame.isSome then .receiving else .idle }
    | .mismatch, false, true => { x with phase := .starting, startStep := some .enable, list := [⟨.enable, none⟩] }
    | _, _, _ => x

/-- The requests that end when a lane leaves RUNNING, in order: the entry in progress, the host entries in list
order, the SET-LAMPS waiters (R114). -/
def endedWork (x : Lane) : List SlotId :=
  (x.inProgress.bind (·.request)).toList ++ x.list.filterMap (·.request) ++ x.waiters.map (·.slot)

end Sys2Proof.Machine
end

