-- ==== Sys2Proof/Certificates/Slice0/Obligations.lean ====
section
/-! DEFINITION. The statements for the provers. Bytes are those of spec/12_message_layouts.md; a request's
result is said as the state in which it completes: the state with the request placed (`placed`, R180), changed
as the rule says, completed with its reply (`complete`, R183). -/

open Sys2Proof Sys2Proof.Machine

/-! ## The queue of commands, the Time Base, resets -/

/-- The command at the front of the queue is carried out with the queue's rest; on an empty queue the block idles (log
2). -/
def Obligations.StepRunsTheFrontCommand : Prop :=
  ∀ s : State,
    (s.pending = [] → step s = .next s) ∧
    ∀ c rest, s.pending = c :: rest → step s = exec c { s with pending := rest }

/-- Every command in every state answers a next state, and none touches the commands that wait. That a request is
always answered with a status is the spec's (11.5); that every command completes is the model's choice: a command
whose happening cannot occur in the state changes nothing (log 3), an ill-formed one has an answer (log 24), one given
while reset is held has no effect (log 5); the queue of commands is the model's own (log 2). -/
def Obligations.EveryCommandCompletes : Prop :=
  ∀ (c : Instr) (s : State), ∃ t, exec c s = .next t ∧ t.pending = s.pending

/-- The uptime advances by one millisecond at a tick, wrapping; no other command changes it or the recorded cause but
the two ends of a reset, which leave it at 0 (R23). A duration is the difference of two readings modulo 2^32, so a
wrap neither shortens nor lengthens a wait (R23). -/
def Obligations.UptimeIsTheOneMeasureOfTime : Prop :=
  ((∀ s : State, s.line = .running →
    exec .timeBaseTick s = .next { s with time := { s.time with uptime := s.time.uptime + 1 } }) ∧
  ∀ (c : Instr) (s t : State), c ≠ .timeBaseTick → exec c s = .next t →
    t.time = s.time ∨
    (t.time.uptime = 0 ∧ ((∃ ending straps, c = .hardReset ending straps) ∨
      ∃ straps f, c = .replyFrameEnd straps ∧ s.link.tx = .reply f ∧ f.kind = 0x83 ∧ f.body = [0]))) ∧
  (∀ (since : Word) (ms d : Nat), ms < 2 ^ 32 → d < 2 ^ 32 →
    ((startWait since ms).reached (since + BitVec.ofNat 32 d) = true ↔ ms ≤ d))

/-- Every timer row waits for its length: while the limit that it names is not reached, or is not running, it changes
nothing (log 3, log 4). A limit runs only where its rule starts it: the 10 ms for a clock before the first clock, the
3 ms after it, the 25 ms in AWAITING, the probe's in ABSENT, the hello deadline in WAIT_HELLO, the 2 ms while a frame
is in progress, the gap until the start bit of a further byte (log 25). -/
def Obligations.TimersWaitForTheirLength : Prop :=
  ∀ (s : State) (l : LaneId),
    (∀ w, s.delivery.timer = some w → w.reached s.time.uptime = false →
      exec .retransmissionTimerExpires s = .next s) ∧
    (s.delivery.timer = none → exec .retransmissionTimerExpires s = .next s) ∧
    (∀ w, s.translator.learn = some w → w.expiry.reached s.time.uptime = false → exec .learnTimeout s = .next s) ∧
    (s.translator.learn = none → exec .learnTimeout s = .next s) ∧
    (∀ a, s.link.rx = some a → (startWait a.gapSince 5).reached s.time.uptime = false →
      ∀ startBit, exec (.gapLimit startBit) s = .next s) ∧
    (s.link.rx = none → ∀ startBit, exec (.gapLimit startBit) s = .next s) ∧
    exec (.gapLimit true) s = .next s ∧
    (∀ ex, (s.lane l).exchange = some ex → ex.limit.reached s.time.uptime = false →
      exec (.noClock l) s = .next s ∧ exec (.txTimeout l) s = .next s ∧ exec (.noReply l) s = .next s) ∧
    ((s.lane l).exchange = none →
      exec (.noClock l) s = .next s ∧ exec (.txTimeout l) s = .next s ∧ exec (.noReply l) s = .next s) ∧
    (∀ ex, (s.lane l).exchange = some ex →
      (ex.clocked = true → exec (.noClock l) s = .next s) ∧ (ex.clocked = false → exec (.txTimeout l) s = .next s)) ∧
    ((s.lane l).activity ≠ .sending → exec (.noClock l) s = .next s ∧ exec (.txTimeout l) s = .next s) ∧
    ((s.lane l).activity ≠ .awaiting → exec (.noReply l) s = .next s) ∧
    (∀ w, (s.lane l).probeDue = some w → w.reached s.time.uptime = false → exec (.probeDue l) s = .next s) ∧
    ((s.lane l).probeDue = none ∨ (s.lane l).phase ≠ .absent → exec (.probeDue l) s = .next s) ∧
    (∀ w, (s.lane l).helloDeadline = some w → w.reached s.time.uptime = false →
      exec (.helloDeadline l) s = .next s) ∧
    ((s.lane l).helloDeadline = none ∨ (s.lane l).startStep ≠ some .waitHello →
      exec (.helloDeadline l) s = .next s) ∧
    (∀ w, (s.lane l).frame = some w → (startWait w 2).reached s.time.uptime = false →
      exec (.frameLimitBreach l) s = .next s) ∧
    ((s.lane l).frame = none → exec (.frameLimitBreach l) s = .next s)

/-- What a hard reset and a restart leave, beside the banks and the commands that wait (R22, R37, R61, R78, R98, R121,
R133, R148, R166, R176, R187), with the straps read again (R167); and the cause they record: POWER when power was
applied or nRESET is released after a loss of power, otherwise PIN; RESTART when the frame of an OK RESTART reply ends
(R24, R175). -/
def Obligations.ResetsLeaveTheResetValues : Prop :=
  (∀ (s t : State) (straps : BitVec 2),
    ((∃ ending, exec (.hardReset ending straps) s = .next t) ∨
      (s.line = .running ∧ (∃ f, s.link.tx = .reply f ∧ f.kind = 0x83 ∧ f.body = [0]) ∧
        exec (.replyFrameEnd straps) s = .next t)) →
    t.time.uptime = 0 ∧ t.line = .running ∧ t.pending = s.pending ∧
    (∀ l, t.lane l =
      { phase := .disabled, startStep := none, activity := .off, frame := none, slot := none, list := [],
        inProgress := none, exchange := none, parityCount := none, known := none, failures := 0,
        firstFault := none, lastFault := none, faultCount := 0, faultsSince := 0, statusWanted := false,
        probeDue := none, helloDeadline := none, desired := 0, acked := 0, desiredVersion := 0,
        ackedVersion := 0, owners := 0, sent := none, waiters := [] }) ∧
    (∀ l, t.prefixOf l = .none) ∧ t.translator.start = 0 ∧ t.translator.learn = none ∧
    t.translator.waiting = none ∧
    t.table.entries = [] ∧ (∀ g, t.selection g = none) ∧
    t.queue = ⟨[], 0⟩ ∧ t.delivery = ⟨.off, 0, 0, none, 0⟩ ∧
    t.link.rx = none ∧ t.link.discarded = 0 ∧ t.link.replies = [] ∧ t.link.tx = .idle ∧
    t.link.baud = (if straps = 0 then .b19200 else if straps = 1 then .b57600
      else if straps = 2 then .b115200 else .b230400) ∧
    (∀ i, t.slot i = .free) ∧ t.requests.order = [] ∧
    t.config = ⟨.startup, .defaults, .defaults, false⟩ ∧
    (∀ n, (t.store.views.get n).standing = none) ∧ t.store.standing = .blank ∧ t.store.activity = .voting ∧
    t.store.generation = 0 ∧ t.store.image = .defaults ∧ t.store.write = none ∧ t.store.commit = none ∧
    t.store.restartPending = false ∧
    (∀ n, (∀ w, s.store.write = some w → n ≠ w.bank) → t.store.banks.get n = s.store.banks.get n) ∧
    (∀ w, s.store.write = some w → (t.store.banks.get w.bank).readsValid = false)) ∧
  (∀ (s : State) (straps : BitVec 2),
    (∃ t, exec (.hardReset .powerApplied straps) s = .next t ∧ t.time = ⟨0, .power⟩) ∧
    (s.line = .unpowered → ∃ t, exec (.hardReset .nresetReleased straps) s = .next t ∧ t.time = ⟨0, .power⟩) ∧
    (s.line ≠ .unpowered → ∃ t, exec (.hardReset .nresetReleased straps) s = .next t ∧ t.time = ⟨0, .pin⟩) ∧
    (s.line = .running → (∃ f, s.link.tx = .reply f ∧ f.kind = 0x83 ∧ f.body = [0]) →
      ∃ t, exec (.replyFrameEnd straps) s = .next t ∧ t.time = ⟨0, .restart⟩))

/-- A hard reset begins: the bank whose write attempt is in progress reads INVALID at the next vote, whatever had been
written, and the other banks are untouched (R163); the frame on HTXD is cut (R176); every lane's frame and exchange is
cut with no outcome (R98, R101). While it is held, no other command has an effect (log 5). -/
def Obligations.HardResetBeginsAndHolds : Prop :=
  (∀ (s : State) (cause : ResetBeginning), ∃ t,
    exec (.hardResetBegins cause) s = .next t ∧
    t.line = (if cause = .powerLost ∨ s.line = .unpowered then .unpowered else .pinLow) ∧
    t.time = s.time ∧ t.translator = s.translator ∧ t.table = s.table ∧ t.queue = s.queue ∧
    t.delivery = s.delivery ∧ t.requests = s.requests ∧ t.config = s.config ∧ t.pending = s.pending ∧
    t.link = { s.link with tx := .idle } ∧
    (∀ l, t.lane l =
      { s.lane l with
        activity := .off, frame := none, exchange := none, inProgress := none, parityCount := none, sent := none }) ∧
    t.store = { s.store with banks := t.store.banks, write := none } ∧
    (∀ n, (∀ w, s.store.write = some w → n ≠ w.bank) → t.store.banks.get n = s.store.banks.get n) ∧
    (∀ w, s.store.write = some w → (t.store.banks.get w.bank).readsValid = false)) ∧
  (∀ (c : Instr) (s : State), s.line ≠ .running →
    (∀ ending straps, c ≠ .hardReset ending straps) → (∀ cause, c ≠ .hardResetBegins cause) →
    exec c s = .next s)

/-! ## The host link -/

/-- The bytes of a good frame, fed one by one to a receiver in HUNT, have the effect of the request row of that frame:
the receiver assembles LEN, TAG, KIND, BODY and CHK and hands the frame over (R168, R169). That the row stands for
this hand-over is log 1. -/
def Obligations.WireFrameIsHandedOver : Prop :=
  ∀ (c : Instr) (tag kind : Byte) (body : List Byte) (s : State),
    requestOf c = some (tag, kind, body) → body.length ≤ 198 → s.line = .running → s.link.rx = none →
    runAll ((HostFrame.wire ⟨tag, kind, body⟩).map fun b => .hostByteReceived b true) s = exec c s

/-- What the receiver discards and counts: a frame whose check differs in any way, a byte with a bad stop bit inside a
frame, a LEN outside 2 to 200, a gap of 5 ms with no start bit of a further byte, a whole frame whose tag is 0; a
frame whose further byte has begun in time is kept; what it ignores in HUNT: all but a good SOF (R169, R170, R171).
That a request row with tag 0 counts as its frame would is log 24; that GAP_LIMIT says whether a start bit was taken
is log 25. -/
def Obligations.ReceiverDiscardsAndIgnores : Prop :=
  (∀ (tag kind high low : Byte) (body : List Byte) (s : State),
    body.length ≤ 198 → s.line = .running → s.link.rx = none →
    [high, low] ≠ be16 (HostFrame.check ⟨tag, kind, body⟩) →
    runAll (((0xA5 :: byteOf (body.length + 2) :: tag :: kind :: body) ++ [high, low]).map
        fun b => .hostByteReceived b true) s =
      .next { s with
        link := { s.link with
          discarded := if s.link.discarded = 0xFFFF then 0xFFFF else s.link.discarded + 1 } }) ∧
  (∀ (s discard : State), s.line = .running →
    discard = { s with
      link := { s.link with
        rx := none
        discarded := if s.link.discarded = 0xFFFF then 0xFFFF else s.link.discarded + 1 } } →
    (s.link.rx = none →
      (∀ b stop, b ≠ 0xA5 ∨ stop = false → exec (.hostByteReceived b stop) s = .next s) ∧
      exec (.hostByteReceived 0xA5 true) s =
        .next { s with link := { s.link with rx := some ⟨.len, 0, 0, 0, [], 0xFFFF, 0, s.time.uptime⟩ } }) ∧
    (∀ a, s.link.rx = some a →
      (∀ b, exec (.hostByteReceived b false) s = .next discard) ∧
      (a.awaited = .len → ∀ b : Byte, b.toNat < 2 ∨ 200 < b.toNat →
        exec (.hostByteReceived b true) s = .next discard) ∧
      (5#32 ≤ s.time.uptime - a.gapSince → exec (.gapLimit false) s = .next discard) ∧
      exec (.gapLimit true) s = .next s) ∧
    (s.link.rx = none → ∀ c kind body, requestOf c = some (0, kind, body) → exec c s = .next discard))

/-- The transmitter, idle, starts the frame of the oldest entry of the outgoing reply list: a slot's stored reply, or
a refusal (R172, R173, R181), with status and data as the body (12.3). The end of a reply frame that is not an OK
RESTART reply leaves it idle and nothing else changed (R173, R175). On the line (R167): an idle transmitter leaves
HTXD marking; a frame goes out byte after byte with no gap, each byte a start bit 0, eight data bits from the least
significant, no parity and a stop bit 1; ten such bits on HRXD spell the byte and its stop bit; the four baud rates.
The status codes are those of 12.1. -/
def Obligations.ReplyFramesGoOutInOrder : Prop :=
  (∀ (s : State) (rest : List ReplyEntry), s.line = .running →
    (s.link.tx = .idle →
      (∀ i q r, s.link.replies = .slot i :: rest → s.slot i = .done q r →
        exec .replyFrameStart s =
          .next { s with
            link := { s.link with
              tx := .reply ⟨q.tag, q.kind + 0x80, r.status.code :: r.data⟩
              replies := rest } }) ∧
      (∀ tag kind status, s.link.replies = .refusal tag kind status :: rest →
        exec .replyFrameStart s =
          .next { s with
            link := { s.link with tx := .reply ⟨tag, kind + 0x80, [status.code]⟩, replies := rest } })) ∧
    (s.link.tx ≠ .idle ∨ s.link.replies = [] → exec .replyFrameStart s = .next s)) ∧
  (∀ (s : State) (straps : BitVec 2) (f : HostFrame), s.line = .running → s.link.tx = .reply f →
    f.kind ≠ 0x83 ∨ f.body ≠ [0] →
    exec (.replyFrameEnd straps) s = .next { s with link := { s.link with tx := .idle } }) ∧
  (∀ (s : State) (f : HostFrame) (bits : Byte → Bool → List Bool),
    (∀ b stop, bits b stop =
      [false, b.getLsbD 0, b.getLsbD 1, b.getLsbD 2, b.getLsbD 3, b.getLsbD 4, b.getLsbD 5, b.getLsbD 6, b.getLsbD 7,
       stop]) →
    (s.link.tx = .idle → htxdLine s = .marking) ∧
    (s.link.tx = .reply f ∨ s.link.tx = .report f →
      htxdLine s = .sending ((0xA5 :: byteOf (f.body.length + 2) :: f.tag :: f.kind :: (f.body ++
        be16 (crc16 (byteOf (f.body.length + 2) :: f.tag :: f.kind :: f.body)))).flatMap fun b => bits b true)) ∧
    (∀ b stop, receivedByte (bits b stop) = some (b, stop)) ∧
    (∀ b stop, receivedByte (true :: (bits b stop).drop 1) = none) ∧
    [Baud.b19200, .b57600, .b115200, .b230400].map Baud.rate = [19200, 57600, 115200, 230400]) ∧
  [Status.ok, .unknownKind, .badLength, .badField, .wrongMode, .wrongState, .notReady, .busy, .tagConflict, .laneBusy,
    .laneDown, .noReply, .moduleError, .aborted, .timeout, .ackRange, .duplicateBinding, .lampInUse, .groupFull,
    .notDefined, .storeBusy, .storeFailed].map Status.code =
  [0x00, 0x01, 0x02, 0x03, 0x04, 0x05, 0x06, 0x07, 0x08, 0x10, 0x11, 0x12, 0x13, 0x14, 0x15, 0x20, 0x30, 0x31, 0x32,
    0x33, 0x40, 0x41]

/-! ## The Request Table -/

/-- A request frame whose tag a slot holds (R178, R179, R181): ACTIVE with the same body check, it is ignored; ACTIVE
with another, TAG_CONFLICT is queued unstored, or only counted while 4 refusals wait; DONE with the same, the stored
reply is queued again; DONE with another, the request is taken in that slot. A frame whose tag no slot holds (R180,
R181): it is taken in a FREE slot, otherwise in the DONE slot that completed longest ago; with all 16 slots ACTIVE,
BUSY is queued unstored, or only counted. -/
def Obligations.RequestFramesAreTakenOrAnswered : Prop :=
  (∀ (s : State) (c : Instr) (tag kind : Byte) (body : List Byte) (i : SlotId) (q : RequestId),
    requestOf c = some (tag, kind, body) → s.line = .running → RequestLaws s → q.tag = tag → tag ≠ 0 →
    (s.slot i = .active q → q.check = crc16 (kind :: body) → exec c s = .next s) ∧
    (s.slot i = .active q → q.check ≠ crc16 (kind :: body) →
      (s.link.replies.countP ReplyEntry.isRefusal < 4 →
        exec c s = .next { s with
          link := { s.link with replies := s.link.replies ++ [.refusal tag kind .tagConflict] } }) ∧
      (s.link.replies.countP ReplyEntry.isRefusal = 4 →
        exec c s = .next { s with
          link := { s.link with
            discarded := if s.link.discarded = 0xFFFF then 0xFFFF else s.link.discarded + 1 } })) ∧
    (∀ r, s.slot i = .done q r → q.check = crc16 (kind :: body) →
      (ReplyEntry.slot i ∈ s.link.replies → exec c s = .next s) ∧
      (ReplyEntry.slot i ∉ s.link.replies →
        exec c s = .next { s with link := { s.link with replies := s.link.replies ++ [.slot i] } })) ∧
    (∀ r, s.slot i = .done q r → q.check ≠ crc16 (kind :: body) → TakenIn s tag kind body i)) ∧
  (∀ (s : State) (c : Instr) (tag kind : Byte) (body : List Byte),
    requestOf c = some (tag, kind, body) → s.line = .running → RequestLaws s → tag ≠ 0 →
    (∀ i q, (s.slot i).request = some q → q.tag ≠ tag) →
    ((∃ i, s.slot i = .free) → ∃ i, s.slot i = .free ∧ TakenIn s tag kind body i) ∧
    ((∀ i, s.slot i ≠ .free) → ∀ i rest, s.requests.order = i :: rest → TakenIn s tag kind body i) ∧
    ((∀ i, ∃ q, s.slot i = .active q) →
      (s.link.replies.countP ReplyEntry.isRefusal < 4 →
        exec c s = .next { s with
          link := { s.link with replies := s.link.replies ++ [.refusal tag kind .busy] } }) ∧
      (s.link.replies.countP ReplyEntry.isRefusal = 4 →
        exec c s = .next { s with
          link := { s.link with
            discarded := if s.link.discarded = 0xFFFF then 0xFFFF else s.link.discarded + 1 } })))

/-- What placing a taken request does (R172, R179, R180): the slot is ACTIVE and holds tag, body check and kind with
no stored reply, out of the completion order; its entry leaves the outgoing reply list; nothing else changes but that
restart pending is cleared where that entry was the OK reply of the RESTART and its frame has not started (R164); it
is kept where the entry has already left the list or the frame of an OK RESTART reply is on HTXD (log 13). What a
completion does (R183): the slot is DONE with the reply, the newest of the completion order, its entry queued unless
one is there; for a slot that is not ACTIVE nothing changes. -/
def Obligations.RequestsArePlacedAndCompleted : Prop :=
  (∀ (s : State) (tag kind : Byte) (body : List Byte) (i : SlotId), TakenIn s tag kind body i →
    let p := placed s tag kind body i
    p.slot i = .active ⟨tag, crc16 (kind :: body), kind⟩ ∧ (∀ j, j ≠ i → p.slot j = s.slot j) ∧
    p.requests.order = s.requests.order.filter (fun j => decide (j ≠ i)) ∧
    p.link = { s.link with replies := s.link.replies.filter fun e => decide (e ≠ .slot i) } ∧
    p = { s with requests := p.requests, link := p.link, store := p.store } ∧
    p.store = { s.store with restartPending := p.store.restartPending } ∧
    ((s.slot i = .free ∨ (∃ q r, s.slot i = .done q r ∧ (q.kind ≠ 0x03 ∨ r ≠ ⟨.ok, []⟩)) ∨
        ReplyEntry.slot i ∉ s.link.replies ∨ ∃ f, s.link.tx = .reply f ∧ f.kind = 0x83 ∧ f.body = [0]) →
      p.store.restartPending = s.store.restartPending) ∧
    ((∃ q, s.slot i = .done q ⟨.ok, []⟩ ∧ q.kind = 0x03) → ReplyEntry.slot i ∈ s.link.replies →
      (∀ f, s.link.tx = .reply f → f.kind ≠ 0x83 ∨ f.body ≠ [0]) → p.store.restartPending = false)) ∧
  (∀ (s : State) (i : SlotId) (r : Reply),
    (∀ q, s.slot i = .active q →
      ∃ req rep, complete s i r = { s with requests := req, link := { s.link with replies := rep } } ∧
        req.order = s.requests.order ++ [i] ∧
        (complete s i r).slot i = .done q r ∧ (∀ j, j ≠ i → (complete s i r).slot j = s.slot j) ∧
        (ReplyEntry.slot i ∈ s.link.replies → rep = s.link.replies) ∧
        (ReplyEntry.slot i ∉ s.link.replies → rep = s.link.replies ++ [.slot i])) ∧
    ((∀ q, s.slot i ≠ .active q) → complete s i r = s))

/-- The first checks of a taken request, in order (R182, R188): UNKNOWN_KIND for a kind outside the catalogue;
BAD_LENGTH for any length but the one the kind admits; NOT_READY in STARTUP and WRONG_MODE where the mode does not
admit the kind. The list is the catalogue of 11.6 and 12.2: kind, body length, and whether STARTUP, RUN and CONFIG
admit it. -/
def Obligations.RequestsAreValidatedInOrder : Prop :=
  ∀ (s : State) (c : Instr) (tag kind : Byte) (body : List Byte) (i : SlotId)
    (catalogue : List (Byte × Nat × Bool × Bool × Bool)),
    catalogue =
      [(0x01, 0, true, true, true), (0x02, 0, true, true, true), (0x03, 0, false, true, true),
       (0x10, 1, false, true, false), (0x11, 3, false, true, true), (0x12, 0, false, true, true),
       (0x13, 3, false, true, true), (0x14, 2, false, true, true), (0x20, 1, false, true, true),
       (0x21, 2, false, true, true), (0x22, 5, false, true, true), (0x23, 3, false, true, true),
       (0x24, 1, false, true, true), (0x30, 0, false, true, true), (0x31, 0, false, true, true),
       (0x32, 12, false, false, true), (0x33, 2, false, false, true), (0x34, 2, false, true, true),
       (0x35, 2, false, false, true), (0x36, 3, false, false, true), (0x37, 3, false, false, true),
       (0x38, 2, false, false, true), (0x39, 0, false, true, true), (0x3A, 0, false, false, true),
       (0x3B, 0, false, false, true), (0x3C, 0, false, true, true)] →
    requestOf c = some (tag, kind, body) → TakenIn s tag kind body i →
    let p := placed s tag kind body i
    (kind ∉ catalogue.map (·.1) → exec c s = .next (complete p i (bare .unknownKind))) ∧
    ∀ len startup run config, (kind, len, startup, run, config) ∈ catalogue →
      (body.length ≠ len → exec c s = .next (complete p i (bare .badLength))) ∧
      (body.length = len → s.config.mode = .startup → startup = false →
        exec c s = .next (complete p i (bare .notReady))) ∧
      (body.length = len → s.config.mode = .run → run = false →
        exec c s = .next (complete p i (bare .wrongMode))) ∧
      (body.length = len → s.config.mode = .config → config = false →
        exec c s = .next (complete p i (bare .wrongMode)))

/-- IDENTIFY-PART answers the same in every state (R184, layout 12.3). GET-STATUS answers in every mode with the items
of R185 in the layout of 12.3, its own slot counted among the ACTIVE ones. RESTART is STORE_BUSY unless the store is
IDLE and no restart is pending; otherwise restart pending is set and it completes with OK (R164, R186). The codes of
the items are those of the coding table of 12. -/
def Obligations.GeneralRequestsAnswer : Prop :=
  (∀ (s : State) (tag : Byte) (i : SlotId), TakenIn s tag 0x01 [] i →
    exec (.identifyPart tag []) s =
      .next (complete (placed s tag 0x01 [] i) i
        ⟨.ok, [0x45, 0x47, 0x38, 0x31, 0x36, 1, 8, 16, 0x02, 0x00, 32, 128, 16]⟩)) ∧
  (∀ (s : State) (tag : Byte) (i : SlotId) (active done : Nat), TakenIn s tag 0x02 [] i →
    active = (List.finRange 16).countP (fun j => ((placed s tag 0x02 [] i).slot j).isActive) →
    done = (List.finRange 16).countP (fun j => ((placed s tag 0x02 [] i).slot j).isDone) →
    1 ≤ active ∧
    exec (.getStatus tag []) s =
      .next (complete (placed s tag 0x02 [] i) i
        ⟨.ok,
          [s.config.mode.code, s.delivery.state.code, byteOf s.delivery.window, byteOf s.delivery.inFlight,
           byteOf (s.queue.records.length - s.delivery.inFlight)] ++ be16 s.queue.next ++
          [byteOf s.delivery.retransmits, s.store.standing.code, s.store.activity.code,
           flagCode s.config.dirty, byteOf active, byteOf done] ++
          [(s.lane 0).phase.code, (s.lane 1).phase.code, (s.lane 2).phase.code, (s.lane 3).phase.code,
           (s.lane 4).phase.code, (s.lane 5).phase.code, (s.lane 6).phase.code, (s.lane 7).phase.code] ++
          be16 s.link.discarded ++ be32 s.time.uptime ++ [s.time.cause.code]⟩)) ∧
  (∀ (s : State) (tag : Byte) (i : SlotId), TakenIn s tag 0x03 [] i → s.config.mode ≠ .startup →
    let p := placed s tag 0x03 [] i
    (s.store.activity ≠ .idle ∨ p.store.restartPending = true →
      exec (.restart tag []) s = .next (complete p i (bare .storeBusy))) ∧
    (s.store.activity = .idle → p.store.restartPending = false →
      exec (.restart tag []) s =
        .next (complete { p with store := { p.store with restartPending := true } } i (bare .ok)))) ∧
  [Mode.startup, .run, .config].map Mode.code = [0, 1, 2] ∧
  [DeliveryState.off, .on, .stalled].map DeliveryState.code = [0, 1, 2] ∧
  [StoreStanding.full, .majority, .single, .blank].map StoreStanding.code = [0, 1, 2, 3] ∧
  [StoreActivity.voting, .idle, .repairing, .committing].map StoreActivity.code = [0, 1, 2, 3] ∧
  [false, true].map flagCode = [0, 1] ∧
  [Phase.disabled, .absent, .starting, .running, .mismatch].map Phase.code = [0, 1, 2, 3, 4] ∧
  [ResetCause.power, .pin, .restart].map ResetCause.code = [0, 1, 2]

/-! ## Event delivery -/

/-- START-EVENTS (R42): its refusals in order, and the session it opens; the reply carries first sequence 0 and the
window. -/
def Obligations.StartEventsOpensASession : Prop :=
  ∀ (s : State) (tag w : Byte) (i : SlotId), TakenIn s tag 0x10 [w] i →
    let p := placed s tag 0x10 [w] i
    (s.config.mode = .startup → exec (.startEvents tag [w]) s = .next (complete p i (bare .notReady))) ∧
    (s.config.mode = .config → exec (.startEvents tag [w]) s = .next (complete p i (bare .wrongMode))) ∧
    (s.config.mode = .run →
      (64 < w.toNat → exec (.startEvents tag [w]) s = .next (complete p i (bare .badField))) ∧
      (w.toNat ≤ 64 → s.delivery.state ≠ .off →
        exec (.startEvents tag [w]) s = .next (complete p i (bare .wrongState))) ∧
      (w.toNat ≤ 64 → s.delivery.state = .off →
        exec (.startEvents tag [w]) s =
          .next (complete
            { p with
              queue := { s.queue with next := 0 }
              delivery :=
                { state := .on, window := w.toNat, inFlight := 0, timer := none, retransmits := 0 }
              lanes := s.lanes.map fun x => { x with statusWanted := true } }
            i ⟨.ok, [0, 0, w]⟩)))

/-- ACK-EVENTS through `sh sl` with window `w` (R43, R44, R45): refused outside STARTUP for a window above 64, while
delivery is OFF, or with ACK_RANGE and the lowest and highest acceptable numbers when the distance from the base is
beyond the in-flight count; otherwise the records up to it are removed, the window is set, in-flight records beyond it
become unsent, a stall ends, the retransmit count and the timer follow, and a waiting turn is judged anew, which finds
space when a record was removed. The timer restarts with records in flight as R44 says, also during a report frame,
where R50 says otherwise of a stopped timer: there it is the model's choice (log 32). -/
def Obligations.AckEventsRemovesAndSetsTheWindow : Prop :=
  ∀ (s : State) (tag sh sl w : Byte) (i : SlotId) (base : Half) (d left : Nat),
    TakenIn s tag 0x11 [sh, sl, w] i → DeliveryLaws s →
    base = s.queue.next - 1 - BitVec.ofNat 16 s.queue.records.length →
    d = (half sh sl - base).toNat → left = min (s.delivery.inFlight - d) w.toNat →
    let p := placed s tag 0x11 [sh, sl, w] i
    (s.config.mode = .startup → exec (.ackEvents tag [sh, sl, w]) s = .next (complete p i (bare .notReady))) ∧
    (s.config.mode ≠ .startup →
      (64 < w.toNat → exec (.ackEvents tag [sh, sl, w]) s = .next (complete p i (bare .badField))) ∧
      (w.toNat ≤ 64 → s.delivery.state = .off →
        exec (.ackEvents tag [sh, sl, w]) s = .next (complete p i (bare .wrongState))) ∧
      (w.toNat ≤ 64 → s.delivery.state ≠ .off → s.delivery.inFlight < d →
        exec (.ackEvents tag [sh, sl, w]) s =
          .next (complete p i
            ⟨.ackRange, be16 base ++ be16 (base + BitVec.ofNat 16 s.delivery.inFlight)⟩)) ∧
      (w.toNat ≤ 64 → s.delivery.state ≠ .off → d ≤ s.delivery.inFlight →
        exec (.ackEvents tag [sh, sl, w]) s =
          .next (complete
            { p with
              queue := { s.queue with records := s.queue.records.drop d }
              delivery :=
                { state := .on
                  window := w.toNat
                  inFlight := left
                  timer :=
                    if 0 < left then some ⟨s.time.uptime, BitVec.ofNat 32 s.config.working.retransmitTimeout⟩
                    else none
                  retransmits :=
                    if 0 < d ∨ s.delivery.state = .stalled then 0 else s.delivery.retransmits }
              translator := { s.translator with waiting := if 0 < d then none else s.translator.waiting } }
            i ⟨.ok, [byteOf d, byteOf left, byteOf (s.queue.records.length - d - left)]⟩)))

/-- STOP-EVENTS (R47): NOT_READY in STARTUP; with delivery OFF nothing changes; otherwise the queue is emptied, the
session closed and every flag lowered, the next sequence number kept; the reply carries the number removed. -/
def Obligations.StopEventsClosesTheSession : Prop :=
  ∀ (s : State) (tag : Byte) (i : SlotId), TakenIn s tag 0x12 [] i → DeliveryLaws s →
    let p := placed s tag 0x12 [] i
    (s.config.mode = .startup → exec (.stopEvents tag []) s = .next (complete p i (bare .notReady))) ∧
    (s.config.mode ≠ .startup →
      (s.delivery.state = .off →
        exec (.stopEvents tag []) s = .next (complete p i ⟨.ok, 0 :: be16 s.queue.next⟩)) ∧
      (s.delivery.state ≠ .off →
        exec (.stopEvents tag []) s =
          .next (complete
            { p with
              queue := ⟨[], s.queue.next⟩
              delivery := { state := .off, window := 0, inFlight := 0, timer := none, retransmits := 0 }
              lanes := s.lanes.map fun x => { x with statusWanted := false }
              translator := { s.translator with waiting := none } }
            i ⟨.ok, byteOf s.queue.records.length :: be16 s.queue.next⟩)))

/-- A report frame starts where the transmitter is idle, no reply waits and the Delivery Unit offers one (R48, R173):
it carries the oldest unsent records, the smallest of 8, the unsent count and the room in the window (R49), which
become in flight (R50); each is carried whole, oldest first, with the bytes of its kind (12.4, R189; phase and fault
codes stand in GeneralRequestsAnswer and LanesAreReadAndTheirFaultsCleared; bits 2-7 of an UNMAPPED record's flags
byte, which 12.4 leaves open, are the model's choice, log 34). Otherwise none starts. At its end the transmitter is
idle, and the retransmission timer starts with the timeout in force if it is stopped, delivery is ON and a record is
in flight (R52). -/
def Obligations.ReportsCarryTheOldestUnsentRecords : Prop :=
  (∀ (s : State) (n : Nat), s.line = .running →
    n = min 8 (min (s.queue.records.length - s.delivery.inFlight) (s.delivery.window - s.delivery.inFlight)) →
    (s.link.tx = .idle → s.link.replies = [] → s.delivery.state = .on →
      s.delivery.inFlight < s.queue.records.length → s.delivery.inFlight < s.delivery.window →
      exec .reportFrameStart s =
        .next { s with
          link := { s.link with
            tx := .report ⟨0x00, 0xC0,
              byteOf n :: ((s.queue.records.drop s.delivery.inFlight).take n).flatMap fun r =>
                be16 r.sequence ++ be32 r.timestamp ++ r.event.bytes⟩ }
          delivery := { s.delivery with inFlight := s.delivery.inFlight + n } }) ∧
    (s.link.tx ≠ .idle ∨ s.link.replies ≠ [] ∨ s.delivery.state ≠ .on ∨
        s.queue.records.length ≤ s.delivery.inFlight ∨ s.delivery.window ≤ s.delivery.inFlight →
      exec .reportFrameStart s = .next s)) ∧
  (∀ (s : State) (f : HostFrame), s.line = .running → s.link.tx = .report f →
    exec .reportFrameEnd s =
      .next { s with
        link := { s.link with tx := .idle }
        delivery := { s.delivery with
          timer :=
            if s.delivery.timer = none ∧ s.delivery.state = .on ∧ 0 < s.delivery.inFlight then
              some ⟨s.time.uptime, BitVec.ofNat 32 s.config.working.retransmitTimeout⟩
            else s.delivery.timer } }) ∧
  (∀ (c d : ControlId) (g : GroupId) (l : LaneId) (b n : Byte) (extended release latched : Bool) (prior : PrefixState)
      (phase : Phase) (known : Option Byte) (fault : Option LaneFault),
    let number := fun k : ControlId => [BitVec.ofNat 8 (k.val / 256), BitVec.ofNat 8 (k.val % 256)]
    let group := BitVec.ofNat 8 g.val
    let lane := BitVec.ofNat 8 l.val
    (Event.press c).bytes = 0x01 :: number c ∧
    (Event.release c).bytes = 0x02 :: number c ∧
    (Event.toggled c latched).bytes = 0x03 :: number c ++ [if latched then 1 else 0] ∧
    (Event.selected g c (some d)).bytes = 0x04 :: group :: number c ++ number d ∧
    (Event.selected g c none).bytes = 0x04 :: group :: number c ++ [0xFF, 0xFF] ∧
    (Event.deselected g c).bytes = 0x05 :: group :: number c ∧
    (Event.unmapped l extended release b).bytes =
      [0x06, lane, BitVec.ofNat 8 ((if extended then 1 else 0) + if release then 2 else 0), b] ∧
    (Event.codeError l b prior).bytes =
      [0x07, lane, b, match prior with | .none => 0 | .ext => 1 | .rel => 2 | .extRel => 3] ∧
    (Event.laneStatus l phase known fault n).bytes = [0x08, lane, phase.code, known.getD 0, faultCode fault, n])

/-- The retransmission timer expires (R53, R54): with records in flight they all become unsent and the count rises, to
a stall with the timer stopped at the limit, otherwise with the timer restarted and a report offered at once; with
none in flight the timer only stops. -/
def Obligations.ExpiryGoesBackAndStallsAtTheLimit : Prop :=
  ∀ (s : State) (w : Wait), s.line = .running → s.delivery.timer = some w → w.reached s.time.uptime = true →
    DeliveryLaws s →
    (s.delivery.inFlight = 0 →
      exec .retransmissionTimerExpires s = .next { s with delivery := { s.delivery with timer := none } }) ∧
    (0 < s.delivery.inFlight → s.config.working.retransmitLimit ≤ s.delivery.retransmits + 1 →
      exec .retransmissionTimerExpires s =
        .next { s with
          delivery := { s.delivery with
            state := .stalled, inFlight := 0, retransmits := s.delivery.retransmits + 1, timer := none } }) ∧
    (0 < s.delivery.inFlight → s.delivery.retransmits + 1 < s.config.working.retransmitLimit →
      ∃ t, exec .retransmissionTimerExpires s = .next t ∧
        t = { s with
          delivery := { s.delivery with
            inFlight := 0
            retransmits := s.delivery.retransmits + 1
            timer := some ⟨s.time.uptime, BitVec.ofNat 32 s.config.working.retransmitTimeout⟩ } } ∧
        t.delivery.state = .on ∧ 0 < t.queue.records.length - t.delivery.inFlight ∧
        t.delivery.inFlight < t.delivery.window)

/-! ## Reading controls, groups and lanes -/

/-- READ-CONTROLS and READ-GROUPS (R19, R21, with the as-of sequence of R20, in the layout of 12.3 and R189). -/
def Obligations.ControlsAndGroupsAreRead : Prop :=
  (∀ (s : State) (tag fh fl n : Byte) (i : SlotId) (first : Nat) (ids : List ControlId),
    TakenIn s tag 0x13 [fh, fl, n] i → s.config.mode ≠ .startup → first = fh.toNat * 256 + fl.toNat →
    let p := placed s tag 0x13 [fh, fl, n] i
    (511 < first ∨ n = 0 ∨ 32 < n.toNat ∨ 512 < first + n.toNat →
      exec (.readControls tag [fh, fl, n]) s = .next (complete p i (bare .badField))) ∧
    (n ≠ 0 → n.toNat ≤ 32 → first + n.toNat ≤ 512 → ids.map (·.val) = List.range' first n.toNat →
      exec (.readControls tag [fh, fl, n]) s =
        .next (complete p i
          ⟨.ok,
            (if s.delivery.state = .off then [0, 0, 0] else 1 :: be16 s.queue.next) ++ [n] ++
            ids.flatMap fun c =>
              match s.definition c with
              | none => [0, 0, 0, 0, 0]
              | some d =>
                BitVec.ofNat 8
                    (1 + (if s.isSelected c d then 2 else 0) + (if (s.control c).lastChange = none then 0 else 4) +
                     8 * (match d.kind with | .momentary => 0 | .toggle => 1 | .member _ => 2) +
                     32 * (match (s.control c).physical with | .up => 0 | .down => 1 | .unknown => 2) +
                     (if (s.control c).latched then 128 else 0)) ::
                  be32 ((s.control c).lastChange.getD 0)⟩))) ∧
  (∀ (s : State) (tag f n : Byte) (i : SlotId) (ids : List GroupId),
    TakenIn s tag 0x14 [f, n] i → s.config.mode ≠ .startup →
    let p := placed s tag 0x14 [f, n] i
    (31 < f.toNat ∨ n = 0 ∨ 32 < n.toNat ∨ 32 < f.toNat + n.toNat →
      exec (.readGroups tag [f, n]) s = .next (complete p i (bare .badField))) ∧
    (n ≠ 0 → f.toNat + n.toNat ≤ 32 → f.toNat ≤ 31 → ids.map (·.val) = List.range' f.toNat n.toNat →
      exec (.readGroups tag [f, n]) s =
        .next (complete p i
          ⟨.ok,
            (if s.delivery.state = .off then [0, 0, 0] else 1 :: be16 s.queue.next) ++ [n] ++
            ids.flatMap fun g =>
              [(match s.groupMode g with | .forced => 0 | .optional => 1),
               byteOf (s.config.working.controls.countP fun e => decide (e.2.kind = .member g))] ++
              (match s.selection g with | some c => be16 (BitVec.ofNat 16 c.val) | none => [0xFF, 0xFF])⟩)))

/-- READ-LANE (R119) replies with the lane's state in the 36 bytes of 12.3, with R189's absent forms and the codes of
12's table, and changes nothing; bits 4-6 of an entry byte, which 12.3 leaves open, are the model's choice (log 33).
CLEAR-LANE-FAULT (R120): first and last fault kind become NONE and the fault count 0, the reply carries the three
values as they stood, nothing else of the lane changes; it is taken in RUN and CONFIG modes. A lane above 7 is
BAD_FIELD. -/
def Obligations.LanesAreReadAndTheirFaultsCleared : Prop :=
  (∀ (s : State) (tag b : Byte) (i : SlotId), TakenIn s tag 0x20 [b] i → s.config.mode ≠ .startup →
    let p := placed s tag 0x20 [b] i
    (7 < b.toNat → exec (.readLane tag [b]) s = .next (complete p i (bare .badField))) ∧
    ∀ l : LaneId, b.toNat = l.val →
      let x := s.lane l
      let position := fun k => match x.list[k]? with | some e => entryByte e | none => (0xFF : Byte)
      exec (.readLane tag [b]) s =
        .next (complete p i
          ⟨.ok,
            [x.phase.code, startStepCode x.startStep, x.activity.code,
             (if x.slot.isSome then 1 else 0), x.slot.getD 0,
             (match x.known with | some m => m.moduleType | none => 0),
             (match x.known with | some m => m.lampCount | none => 0xFF),
             s.config.working.lanes[l].expectedType, (if s.config.working.lanes[l].enabled then 1 else 0),
             byteOf x.list.length, position 0, position 1, position 2, position 3,
             (match x.inProgress with | some e => entryByte e | none => 0xFF),
             (if x.exchange.any (fun ex => decide (ex.command = .resend)) then 1 else 0),
             byteOf x.failures, faultCode x.firstFault, faultCode x.lastFault, x.faultCount, x.faultsSince,
             (if x.statusWanted then 1 else 0)] ++
            be16 x.desired ++ be16 x.acked ++ be32 x.desiredVersion ++ be32 x.ackedVersion ++ be16 x.owners⟩)) ∧
  (∀ (s : State) (tag b : Byte) (i : SlotId), TakenIn s tag 0x24 [b] i →
    let p := placed s tag 0x24 [b] i
    (s.config.mode = .startup → exec (.clearLaneFault tag [b]) s = .next (complete p i (bare .notReady))) ∧
    (s.config.mode ≠ .startup →
      (7 < b.toNat → exec (.clearLaneFault tag [b]) s = .next (complete p i (bare .badField))) ∧
      ∀ l : LaneId, b.toNat = l.val →
        exec (.clearLaneFault tag [b]) s =
          .next (complete
            (p.setLane l { s.lane l with firstFault := none, lastFault := none, faultCount := 0 }) i
            ⟨.ok, [faultCode (s.lane l).firstFault, faultCode (s.lane l).lastFault, (s.lane l).faultCount]⟩))) ∧
  [Phase.disabled, .absent, .starting, .running, .mismatch].map Phase.code = [0, 1, 2, 3, 4] ∧
  [none, some StartStep.waitHello, some .identify, some .enable].map startStepCode = [0, 1, 2, 3] ∧
  [Activity.off, .idle, .receiving, .held, .sending, .awaiting].map Activity.code = [0, 1, 2, 3, 4, 5] ∧
  [none, some LaneFault.noClock, some .txTimeout, some .noReply, some .badReply, some .resendLimit, some .moduleError,
    some .rxTimeout, some .parity, some .overrun, some .moduleLost, some .moduleRestart, some .typeMismatch].map
      faultCode = [0x00, 0x01, 0x02, 0x03, 0x04, 0x05, 0x06, 0x07, 0x08, 0x09, 0x0A, 0x0B, 0x0C] ∧
  ∀ i : SlotId,
    let kinds := [EntryKind.identify, .rescan, .resetModule, .lamp, .probeIdentify, .enable, .disable]
    kinds.map (fun k => entryByte ⟨k, none⟩) = [0x00, 0x01, 0x02, 0x03, 0x04, 0x05, 0x06] ∧
    kinds.map (fun k => entryByte ⟨k, some i⟩) = [0x80, 0x81, 0x82, 0x83, 0x84, 0x85, 0x86]

/-! ## Lane commands and lamps -/

/-- LANE-COMMAND (R117): IDENTIFY, RESCAN and RESET-MODULE are refused with BAD_FIELD for a lane above 7, with
LANE_DOWN outside RUNNING, with LANE_BUSY while two host entries wait; otherwise the entry is queued at the tail with
the request's slot, which stays ACTIVE. A command byte outside 00h-02h is BAD_FIELD too (R188): no row of the table
carries one, so it comes in the bytes of a frame (WireFrameIsHandedOver) or by UNKNOWN_KIND_REQUEST with kind 21h (log
24). -/
def Obligations.LaneCommandsQueueAHostEntry : Prop :=
  (∀ (s : State) (tag b code : Byte) (i : SlotId) (c : Instr) (k : EntryKind),
    (c, code, k) ∈ [(Instr.laneCommandIdentify tag b, (0 : Byte), EntryKind.identify),
      (.laneCommandRescan tag b, 1, .rescan), (.laneCommandResetModule tag b, 2, .resetModule)] →
    TakenIn s tag 0x21 [b, code] i → s.config.mode ≠ .startup →
    let p := placed s tag 0x21 [b, code] i
    (7 < b.toNat → exec c s = .next (complete p i (bare .badField))) ∧
    ∀ l : LaneId, b.toNat = l.val →
      ((s.lane l).phase ≠ .running → exec c s = .next (complete p i (bare .laneDown))) ∧
      ((s.lane l).phase = .running → 2 ≤ (s.lane l).list.countP (fun e => e.request.isSome) →
        exec c s = .next (complete p i (bare .laneBusy))) ∧
      ((s.lane l).phase = .running → (s.lane l).list.countP (fun e => e.request.isSome) < 2 →
        exec c s = .next (p.setLane l { s.lane l with list := (s.lane l).list ++ [⟨k, some i⟩] }))) ∧
  (∀ (s : State) (tag b code : Byte) (i : SlotId) (c : Instr), requestOf c = some (tag, 0x21, [b, code]) →
    2 < code.toNat → TakenIn s tag 0x21 [b, code] i → s.config.mode ≠ .startup →
    exec c s = .next (complete (placed s tag 0x21 [b, code] i) i (bare .badField)))

/-- SET-LAMPS (R130, R123): outside RUNNING it is LANE_DOWN; otherwise the mask's lamps get owner HOST and their
values; a changed image advances the version and queues a LAMP entry unless one waits; the target is the version after
the write, and the request completes at once if it is acknowledged already, otherwise it waits. -/
def Obligations.SetLampsWritesAndWaits : Prop :=
  ∀ (s : State) (tag b mh ml vh vl : Byte) (i : SlotId) (image : Half),
    TakenIn s tag 0x22 [b, mh, ml, vh, vl] i → s.config.mode ≠ .startup →
    let p := placed s tag 0x22 [b, mh, ml, vh, vl] i
    (7 < b.toNat → exec (.setLamps tag [b, mh, ml, vh, vl]) s = .next (complete p i (bare .badField))) ∧
    ∀ l : LaneId, b.toNat = l.val →
      ((s.lane l).phase ≠ .running →
        exec (.setLamps tag [b, mh, ml, vh, vl]) s = .next (complete p i (bare .laneDown))) ∧
      ((s.lane l).phase = .running →
        (∀ n : LampId, image.getLsbD n.val =
          if (half mh ml).getLsbD n.val then (half vh vl).getLsbD n.val else (s.lane l).desired.getLsbD n.val) →
        let x := s.lane l
        let target := if image = x.desired then x.desiredVersion else x.desiredVersion + 1
        let y : Lane :=
          { x with
            owners := x.owners ||| half mh ml
            desired := image
            desiredVersion := target
            list := if image = x.desired ∨ (∃ e ∈ x.list, e.kind = .lamp) then x.list
              else x.list ++ [⟨.lamp, none⟩] }
        (x.ackedVersion = target →
          exec (.setLamps tag [b, mh, ml, vh, vl]) s = .next (complete (p.setLane l y) i ⟨.ok, be32 target⟩)) ∧
        (x.ackedVersion ≠ target →
          exec (.setLamps tag [b, mh, ml, vh, vl]) s =
            .next (p.setLane l { y with waiters := x.waiters ++ [⟨i, target⟩] })))

/-- RELEASE-LAMPS (R132): in every phase the mask's lamps get owner FOLLOW and their lit values; a changed image
advances the version and, on a RUNNING lane, queues a LAMP entry unless one waits; the reply carries the version after
the request, and no waiter ends. The lit value of a lamp position (R17): by kind and state of the control that
references it, reversed by an INVERTED sense; OFF where none does. -/
def Obligations.ReleaseLampsReturnsLampsToFollow : Prop :=
  (∀ (s : State) (tag b mh ml : Byte) (i : SlotId) (image : Half),
    TakenIn s tag 0x23 [b, mh, ml] i →
    let p := placed s tag 0x23 [b, mh, ml] i
    (s.config.mode = .startup →
      exec (.releaseLamps tag [b, mh, ml]) s = .next (complete p i (bare .notReady))) ∧
    (s.config.mode ≠ .startup →
      (7 < b.toNat → exec (.releaseLamps tag [b, mh, ml]) s = .next (complete p i (bare .badField))) ∧
      ∀ l : LaneId, b.toNat = l.val →
        (∀ n : LampId, image.getLsbD n.val =
          if (half mh ml).getLsbD n.val then s.litAt ⟨l, n⟩ else (s.lane l).desired.getLsbD n.val) →
        let x := s.lane l
        let version := if image = x.desired then x.desiredVersion else x.desiredVersion + 1
        exec (.releaseLamps tag [b, mh, ml]) s =
          .next (complete
            (p.setLane l
              { x with
                owners := x.owners &&& ~~~half mh ml
                desired := image
                desiredVersion := version
                list := if image = x.desired ∨ x.phase ≠ .running ∨ (∃ e ∈ x.list, e.kind = .lamp) then x.list
                  else x.list ++ [⟨.lamp, none⟩] })
            i ⟨.ok, be32 version⟩))) ∧
  (∀ (s : State) (q : LampPosition), s.config.working.wf →
    ((∀ e ∈ s.config.working.controls, ∀ r ∈ e.2.lamp, r.position ≠ q) → s.litAt q = false) ∧
    ∀ c d r, s.definition c = some d → d.lamp = some r → r.position = q →
      ∀ lit : Bool,
        (lit = true ↔ (d.kind = .momentary ∧ (s.control c).physical = .down) ∨
          (d.kind = .toggle ∧ (s.control c).latched = true) ∨
          (∃ g, d.kind = .member g ∧ s.selection g = some c)) →
        s.litAt q = (if r.sense = .inverted then !lit else lit))

/-! ## Configuration requests -/

/-- ENTER-CONFIG (R138, R15): refused with WRONG_STATE in CONFIG or while delivery is not OFF; otherwise the mode
becomes CONFIG, every defined control UNKNOWN with last change set where that is a change, the lamps of all defined
controls are handed, and all else is left as it is. -/
def Obligations.EnterConfigMakesEveryControlUnknown : Prop :=
  ∀ (s : State) (tag : Byte) (i : SlotId), TakenIn s tag 0x30 [] i → s.config.mode ≠ .startup → ControlLaws s →
    let p := placed s tag 0x30 [] i
    (s.config.mode = .config ∨ s.delivery.state ≠ .off →
      exec (.enterConfig tag []) s = .next (complete p i (bare .wrongState))) ∧
    (s.config.mode = .run → s.delivery.state = .off →
      ∃ t, exec (.enterConfig tag []) s = .next (complete t i (bare .ok)) ∧
        t = { p with config := { p.config with mode := .config }, table := t.table, lanes := t.lanes } ∧
        t.table.selections = s.table.selections ∧
        (∀ c, t.control c =
          if (s.control c).physical = .unknown then s.control c
          else { s.control c with physical := .unknown, lastChange := some s.time.uptime }) ∧
        ∀ k, t.lane k = (s.lane k).withDesired (handedImage k (s.lane k)
          (s.config.working.controls.flatMap fun e =>
            lampValue e.2 (match e.2.kind with
              | .momentary => false
              | .toggle => (s.control e.1).latched
              | .member g => decide (s.selection g = some e.1)))))

/-- EXIT-CONFIG (R139, R16, R76, R116): WRONG_STATE in RUN; otherwise a LEARN waiter ends with ABORTED first, the mode
becomes RUN, the controls bound to RUNNING lanes UP, every FOLLOW lamp of every lane its lit value, each RUNNING lane
queues an internal RESCAN unless one waits, and the reply carries the dirty flag. -/
def Obligations.ExitConfigBringsControlsUp : Prop :=
  ∀ (s u : State) (tag : Byte) (i : SlotId), TakenIn s tag 0x31 [] i → s.config.mode ≠ .startup →
    ControlLaws s →
    let p := placed s tag 0x31 [] i
    (s.config.mode = .run → exec (.exitConfig tag []) s = .next (complete p i (bare .wrongState))) ∧
    (s.config.mode = .config →
      (u = match s.translator.learn with | some w => complete p w.slot (bare .aborted) | none => p) →
      ∃ t, exec (.exitConfig tag []) s = .next (complete t i ⟨.ok, [if s.config.dirty then 1 else 0]⟩) ∧
        t = { u with
          config := { s.config with mode := .run }
          translator := { s.translator with learn := none }
          table := t.table
          lanes := t.lanes } ∧
        t.table.selections = s.table.selections ∧
        (∀ c, t.control c =
          if s.boundRunning c = true ∧ (s.control c).physical ≠ .up then
            { s.control c with physical := .up, lastChange := some s.time.uptime }
          else s.control c) ∧
        ∀ (k : LaneId) (image : Half),
          (∀ n : LampId, image.getLsbD n.val =
            if (s.lane k).owners.getLsbD n.val then (s.lane k).desired.getLsbD n.val else t.litAt ⟨k, n⟩) →
          ∃ list, t.lane k = { (s.lane k).withDesired image with list := list } ∧
            list = ((s.lane k).withDesired image).list ++
              (if (s.lane k).phase = .running ∧ ⟨.rescan, none⟩ ∉ (s.lane k).list then [⟨.rescan, none⟩] else []))

/-- DEFINE-CONTROL's refusals: BAD_FIELD for a field outside its range, where the group counts only for a MEMBER and
the binding and lamp bytes only where their present byte is 01h (R140, R188); then DUPLICATE_BINDING and LAMP_IN_USE
with the holder, and GROUP_FULL when 16 other defined controls are members of the group (R140). -/
def Obligations.DefineControlIsRefused : Prop :=
  (∀ (s : State) (tag ih il kind group bp bl be bc lp ll ln ls : Byte) (i : SlotId),
    TakenIn s tag 0x32 [ih, il, kind, group, bp, bl, be, bc, lp, ll, ln, ls] i → s.config.mode = .config →
    (511 < ih.toNat * 256 + il.toNat ∨ 2 < kind.toNat ∨ (kind = 2 ∧ 31 < group.toNat) ∨
      1 < bp.toNat ∨ (bp = 1 ∧ (7 < bl.toNat ∨ 1 < be.toNat ∨ bc = 0 ∨ 0xAF < bc.toNat)) ∨
      1 < lp.toNat ∨ (lp = 1 ∧ (7 < ll.toNat ∨ 15 < ln.toNat ∨ 1 < ls.toNat)) ↔
    definitionOf [ih, il, kind, group, bp, bl, be, bc, lp, ll, ln, ls] = none) ∧
    (definitionOf [ih, il, kind, group, bp, bl, be, bc, lp, ll, ln, ls] = none →
      exec (.defineControl tag [ih, il, kind, group, bp, bl, be, bc, lp, ll, ln, ls]) s =
        .next (complete
          (placed s tag 0x32 [ih, il, kind, group, bp, bl, be, bc, lp, ll, ln, ls] i) i (bare .badField)))) ∧
  (∀ (s : State) (tag : Byte) (body : List Byte) (i : SlotId) (c h : ControlId) (d o : ControlDef),
    TakenIn s tag 0x32 body i → s.config.mode = .config → s.config.working.wf → body.length = 12 →
    definitionOf body = some (c, d) →
    let p := placed s tag 0x32 body i
    let others := fun f : ControlDef → Prop => ∀ k x, k ≠ c → s.definition k = some x → ¬f x
    (h ≠ c → s.definition h = some o → d.binding ≠ none → o.binding = d.binding →
      exec (.defineControl tag body) s =
        .next (complete p i ⟨.duplicateBinding, be16 (BitVec.ofNat 16 h.val)⟩)) ∧
    (d.binding = none ∨ others (fun x => x.binding = d.binding) →
      h ≠ c → s.definition h = some o → d.lampPosition ≠ none → o.lampPosition = d.lampPosition →
      exec (.defineControl tag body) s =
        .next (complete p i ⟨.lampInUse, be16 (BitVec.ofNat 16 h.val)⟩)) ∧
    (d.binding = none ∨ others (fun x => x.binding = d.binding) →
      d.lampPosition = none ∨ others (fun x => x.lampPosition = d.lampPosition) →
      ∀ g, d.kind = .member g →
      16 ≤ (s.config.working.controls.countP fun e => decide (e.1 ≠ c ∧ e.2.kind = .member g)) →
      exec (.defineControl tag body) s = .next (complete p i (bare .groupFull))))

/-- DEFINE-CONTROL with no conflict (R141, R5, R7, R18): the definition is the one that the body spells, whatever
stands in the bytes R188 leaves unused, the dynamic part and the selections follow it, an old lamp no longer
referenced goes OFF and the new one takes its lit value, and the reply carries the dirty flag, which says whether the
image differs from the store copy. -/
def Obligations.DefineControlSetsTheDefinition : Prop :=
  (∀ (ih il kind group bp bl be bc lp ll ln ls : Byte) (c : ControlId) (d : ControlDef),
    definitionOf [ih, il, kind, group, bp, bl, be, bc, lp, ll, ln, ls] = some (c, d) →
    c.val = ih.toNat * 256 + il.toNat ∧
    (kind = 0 → d.kind = .momentary) ∧ (kind = 1 → d.kind = .toggle) ∧
    (kind = 2 → ∃ g, d.kind = .member g ∧ g.val = group.toNat) ∧
    (bp = 0 → d.binding = none) ∧
    (bp = 1 → ∃ l, d.binding = some ⟨l, decide (be = 1), bc⟩ ∧ l.val = bl.toNat) ∧
    (lp = 0 → d.lamp = none) ∧
    (lp = 1 → ∃ l n, d.lamp = some ⟨⟨l, n⟩, if ls = 1 then .inverted else .normal⟩ ∧ l.val = ll.toNat ∧
      n.val = ln.toNat)) ∧
  (∀ (c : ControlId) (d : ControlDef), d.wf →
    definitionOf (be16 (BitVec.ofNat 16 c.val) ++ definitionBytes d) = some (c, d)) ∧
  ∀ (s : State) (tag : Byte) (body : List Byte) (i : SlotId) (c : ControlId) (d : ControlDef),
    definitionOf body = some (c, d) →
    TakenIn s tag 0x32 body i → s.config.mode = .config → ControlLaws s → s.config.working.wf →
    (∀ k x, k ≠ c → s.definition k = some x →
      (d.binding = none ∨ x.binding ≠ d.binding) ∧ (d.lampPosition = none ∨ x.lampPosition ≠ d.lampPosition)) →
    (∀ g, d.kind = .member g →
      (s.config.working.controls.countP fun e => decide (e.1 ≠ c ∧ e.2.kind = .member g)) < 16) →
    let p := placed s tag 0x32 body i
    ∃ t, exec (.defineControl tag body) s =
        .next (complete t i ⟨.ok, [if t.config.working = s.config.storeCopy then 0 else 1]⟩) ∧
      t = { p with config := t.config, table := t.table, lanes := t.lanes } ∧
      t.config = { s.config with
        working := { s.config.working with controls := t.config.working.controls }
        dirty := decide (t.config.working ≠ s.config.storeCopy) } ∧
      t.definition c = some d ∧ (∀ k, k ≠ c → t.definition k = s.definition k) ∧
      (∀ k, k ≠ c → t.control k = s.control k) ∧
      (s.definition c = none → t.control c = ⟨.unknown, false, none⟩) ∧
      (∀ o, s.definition c = some o → (∃ g, o.kind = .member g ∧ s.selection g = some c ∧ d.kind ≠ .member g) →
        t.control c = { s.control c with latched := false, lastChange := some s.time.uptime }) ∧
      (∀ o, s.definition c = some o → (∀ g, s.selection g = some c → d.kind = .member g) →
        t.control c =
          if sameKind o.kind d.kind then s.control c
          else
            { s.control c with
              latched := false
              lastChange := if (s.control c).latched then some s.time.uptime else (s.control c).lastChange }) ∧
      (∀ g, t.selection g =
        if s.selection g = some c ∧ d.kind ≠ .member g then none else s.selection g) ∧
      ∀ k, t.lane k = (s.lane k).withDesired (handedImage k (s.lane k)
        (if s.definition c = some d then []
        else
          (match (s.definition c).bind (·.lamp) with
            | some r => if d.lampPosition = some r.position then [] else [(r.position, false)]
            | none => []) ++
          lampValue d (match d.kind with
            | .momentary => false
            | .toggle => (t.control c).latched
            | .member g => decide (t.selection g = some c))))

/-- DELETE-CONTROL (R142, R5, R7, R18): BAD_FIELD above 511, NOT_DEFINED for an undefined identifier; otherwise the
identifier is undefined, a selection it held is cleared, its lamp is handed OFF, and the reply carries the dirty flag
as recomputed. -/
def Obligations.DeleteControlUndefines : Prop :=
  ∀ (s : State) (tag ih il : Byte) (i : SlotId), TakenIn s tag 0x33 [ih, il] i → s.config.mode = .config →
    ControlLaws s → s.config.working.wf →
    let p := placed s tag 0x33 [ih, il] i
    (511 < ih.toNat * 256 + il.toNat →
      exec (.deleteControl tag [ih, il]) s = .next (complete p i (bare .badField))) ∧
    ∀ c : ControlId, c.val = ih.toNat * 256 + il.toNat →
      (s.definition c = none →
        exec (.deleteControl tag [ih, il]) s = .next (complete p i (bare .notDefined))) ∧
      ∀ d, s.definition c = some d →
        ∃ t, exec (.deleteControl tag [ih, il]) s =
            .next (complete t i ⟨.ok, [if t.config.working = s.config.storeCopy then 0 else 1]⟩) ∧
          t = { p with config := t.config, table := t.table, lanes := t.lanes } ∧
          t.config = { s.config with
            working := { s.config.working with controls := t.config.working.controls }
            dirty := decide (t.config.working ≠ s.config.storeCopy) } ∧
          t.definition c = none ∧ t.control c = ⟨.unknown, false, none⟩ ∧
          (∀ k, k ≠ c → t.definition k = s.definition k ∧ t.control k = s.control k) ∧
          (∀ g, t.config.working.memberCount g =
            s.config.working.memberCount g - (if d.kind = .member g then 1 else 0)) ∧
          (∀ g, t.selection g = if s.selection g = some c then none else s.selection g) ∧
          ∀ k, t.lane k = (s.lane k).withDesired (handedImage k (s.lane k)
            (match d.lamp with | some r => [(r.position, false)] | none => []))

/-- READ-CONTROL-DEF (R143, layout 12.3 with R189's absent forms): BAD_FIELD above 511; otherwise the definition in
the working configuration, or defined 00h with ten zero bytes. It changes nothing, and is taken in RUN and CONFIG. -/
def Obligations.ReadControlDefReturnsTheDefinition : Prop :=
  ∀ (s : State) (tag ih il : Byte) (i : SlotId), TakenIn s tag 0x34 [ih, il] i →
    let p := placed s tag 0x34 [ih, il] i
    (s.config.mode = .startup → exec (.readControlDef tag [ih, il]) s = .next (complete p i (bare .notReady))) ∧
    (s.config.mode ≠ .startup →
      (511 < ih.toNat * 256 + il.toNat →
        exec (.readControlDef tag [ih, il]) s = .next (complete p i (bare .badField))) ∧
      ∀ c : ControlId, c.val = ih.toNat * 256 + il.toNat →
        (s.definition c = none →
          exec (.readControlDef tag [ih, il]) s =
            .next (complete p i ⟨.ok, [0, 0, 0, 0, 0, 0, 0, 0, 0, 0, 0]⟩)) ∧
        ∀ d, s.definition c = some d →
          exec (.readControlDef tag [ih, il]) s =
            .next (complete p i
              ⟨.ok,
                [1] ++
                (match d.kind with | .momentary => [0, 0] | .toggle => [1, 0] | .member g => [2, byteOf g.val]) ++
                (match d.binding with
                  | some b => [1, byteOf b.lane.val, (if b.extended then 1 else 0), b.code]
                  | none => [0, 0, 0, 0]) ++
                (match d.lamp with
                  | some r => [1, byteOf r.position.lane.val, byteOf r.position.lamp.val,
                      (if r.sense = .inverted then 1 else 0)]
                  | none => [0, 0, 0, 0])⟩))

/-- SET-GROUP (R144): BAD_FIELD for a group above 31 or another mode value; otherwise the group's mode becomes the one
given, selections and member counts are kept and no lamp changes. SET-DELIVERY (R146): BAD_FIELD for a timeout outside
50-2000 ms or a limit outside 1-15; otherwise both values are set. Both are taken in CONFIG mode and reply with the
dirty flag as recomputed. -/
def Obligations.GroupModeAndDeliveryParametersAreSet : Prop :=
  (∀ (s : State) (tag b m : Byte) (i : SlotId), TakenIn s tag 0x35 [b, m] i →
    let p := placed s tag 0x35 [b, m] i
    (s.config.mode = .startup → exec (.setGroup tag [b, m]) s = .next (complete p i (bare .notReady))) ∧
    (s.config.mode = .run → exec (.setGroup tag [b, m]) s = .next (complete p i (bare .wrongMode))) ∧
    (s.config.mode = .config →
      (31 < b.toNat ∨ 1 < m.toNat → exec (.setGroup tag [b, m]) s = .next (complete p i (bare .badField))) ∧
      ∀ (g : GroupId) (mode : GroupMode) (image : ConfigImage), b.toNat = g.val →
        (m = 0 ∧ mode = .forced ∨ m = 1 ∧ mode = .optional) →
        image = { s.config.working with groupModes := s.config.working.groupModes.set g mode } →
        exec (.setGroup tag [b, m]) s =
          .next (complete
            { p with config := { s.config with working := image, dirty := decide (image ≠ s.config.storeCopy) } }
            i ⟨.ok, [if image = s.config.storeCopy then 0 else 1]⟩))) ∧
  (∀ (s : State) (tag th tl n : Byte) (i : SlotId) (ms : Nat), TakenIn s tag 0x37 [th, tl, n] i →
    ms = th.toNat * 256 + tl.toNat →
    let p := placed s tag 0x37 [th, tl, n] i
    (s.config.mode = .startup → exec (.setDelivery tag [th, tl, n]) s = .next (complete p i (bare .notReady))) ∧
    (s.config.mode = .run → exec (.setDelivery tag [th, tl, n]) s = .next (complete p i (bare .wrongMode))) ∧
    (s.config.mode = .config →
      (ms < 50 ∨ 2000 < ms ∨ n.toNat < 1 ∨ 15 < n.toNat →
        exec (.setDelivery tag [th, tl, n]) s = .next (complete p i (bare .badField))) ∧
      ∀ image : ConfigImage, 50 ≤ ms → ms ≤ 2000 → 1 ≤ n.toNat → n.toNat ≤ 15 →
        image = { s.config.working with retransmitTimeout := ms, retransmitLimit := n.toNat } →
        exec (.setDelivery tag [th, tl, n]) s =
          .next (complete
            { p with config := { s.config with working := image, dirty := decide (image ≠ s.config.storeCopy) } }
            i ⟨.ok, [if image = s.config.storeCopy then 0 else 1]⟩)))

/-- SET-LANE (R145, R115): its refusals; a DISABLED lane enabled goes to ABSENT with a probe queued; a lane short of
RUNNING disabled drops everything, its activity RECEIVING until a module frame in progress ends; an enabled lane of
unchanged type is left alone, and so is a DISABLED lane kept disabled. A changed expected type has no effect now on an
ABSENT or STARTING lane, on a RUNNING lane whose module still matches, on a MISMATCH lane whose module still does not;
a MISMATCH lane whose module now matches is STARTING at step ENABLE, with ENABLE in place of a DISABLE not yet
started. A RUNNING lane disabled, or given an expected type its module does not match, leaves RUNNING (R114): its
requests end with ABORTED before the SET-LANE reply, and it is DISABLED, or in MISMATCH with the fault recorded and
DISABLE queued; its whole fault latch is as R111 says. The reply carries the dirty flag and the phase after the
application. A SET-LANE that disables a lane and gives it another expected type as well disables it and records no
TYPE_MISMATCH: log 38. The activity of a lane enabled while its last frame still runs is log 16, that of a lane that
leaves RUNNING for MISMATCH with a reply frame in progress log 14. Of what `LeftRunning` says, the waiting turn rests on log 17 and log 35, the lamps handed in CONFIG
mode on log 18. -/
def Obligations.SetLaneAppliesTheSetting : Prop :=
  (∀ (s : State) (tag b e ty : Byte) (i : SlotId), TakenIn s tag 0x36 [b, e, ty] i → s.config.mode = .config →
    s.delivery.state = .off →
    let p := placed s tag 0x36 [b, e, ty] i
    (7 < b.toNat ∨ 1 < e.toNat ∨ 0x7F < ty.toNat →
      exec (.setLane tag [b, e, ty]) s = .next (complete p i (bare .badField))) ∧
    ∀ (l : LaneId) (x : Lane) (image : ConfigImage), b.toNat = l.val → x = s.lane l → e.toNat ≤ 1 →
      ty.toNat ≤ 0x7F →
      image = { s.config.working with lanes := s.config.working.lanes.set l ⟨decide (e = 1), ty⟩ } →
      let q : State :=
        { p with config := { s.config with working := image, dirty := decide (image ≠ s.config.storeCopy) } }
      let dirty : Byte := if image = s.config.storeCopy then 0 else 1
      (e = 1 → x.phase = .disabled →
        exec (.setLane tag [b, e, ty]) s =
          .next (complete
            (q.setLane l
              { x with
                phase := .absent, startStep := none, failures := 0, probeDue := none, helloDeadline := none
                known := none, list := [⟨.probeIdentify, none⟩]
                activity := if x.frame.isSome then .receiving else if x.slot.isSome then Activity.held else .idle })
            i ⟨.ok, [dirty, 1]⟩)) ∧
      (e = 0 → x.phase = .disabled →
        exec (.setLane tag [b, e, ty]) s = .next (complete q i ⟨.ok, [dirty, 0]⟩)) ∧
      (e = 0 → x.phase ≠ .disabled → x.phase ≠ .running →
        exec (.setLane tag [b, e, ty]) s =
          .next (complete
            (q.setLane l
              { x with
                phase := .disabled, startStep := none, failures := 0, probeDue := none, helloDeadline := none
                known := none, list := [], exchange := none, inProgress := none, parityCount := none
                activity := if x.frame.isSome then .receiving else .off })
            i ⟨.ok, [dirty, 0]⟩)) ∧
      (e = 1 → x.phase ≠ .disabled → ty = s.config.working.lanes[l].expectedType →
        exec (.setLane tag [b, e, ty]) s = .next (complete q i ⟨.ok, [dirty, x.phase.code]⟩)) ∧
      (e = 1 → x.phase = .absent ∨ x.phase = .starting →
        exec (.setLane tag [b, e, ty]) s = .next (complete q i ⟨.ok, [dirty, x.phase.code]⟩)) ∧
      ∀ m, x.known = some m →
        (e = 1 → x.phase = .running → ty = 0 ∨ ty = m.moduleType →
          exec (.setLane tag [b, e, ty]) s = .next (complete q i ⟨.ok, [dirty, 3]⟩)) ∧
        (e = 1 → x.phase = .mismatch → ty ≠ 0 → ty ≠ m.moduleType →
          exec (.setLane tag [b, e, ty]) s = .next (complete q i ⟨.ok, [dirty, 4]⟩)) ∧
        (e = 1 → x.phase = .mismatch → ty ≠ s.config.working.lanes[l].expectedType → ty = 0 ∨ ty = m.moduleType →
          LaneLaws x →
          exec (.setLane tag [b, e, ty]) s =
            .next (complete
              (q.setLane l { x with phase := .starting, startStep := some .enable, list := [⟨.enable, none⟩] })
              i ⟨.ok, [dirty, 2]⟩))) ∧
  (∀ (s : State) (tag b e ty : Byte) (i : SlotId) (l : LaneId) (x : Lane) (m : ModuleId) (image : ConfigImage),
    TakenIn s tag 0x36 [b, e, ty] i → s.config.mode = .config → s.delivery.state = .off → LaneLaws (s.lane l) →
    b.toNat = l.val → x = s.lane l → x.phase = .running → x.known = some m → e.toNat ≤ 1 → ty.toNat ≤ 0x7F →
    image = { s.config.working with lanes := s.config.working.lanes.set l ⟨decide (e = 1), ty⟩ } →
    e = 0 ∨ (ty ≠ s.config.working.lanes[l].expectedType ∧ ty ≠ 0 ∧ ty ≠ m.moduleType) →
    let p := placed s tag 0x36 [b, e, ty] i
    let q : State :=
      { p with config := { s.config with working := image, dirty := decide (image ≠ s.config.storeCopy) } }
    ∃ t, LeftRunning q t l (completeAll q (endedWork x) (bare .aborted)) ∧
      exec (.setLane tag [b, e, ty]) s =
        .next (complete t i
          ⟨.ok, [if image = s.config.storeCopy then 0 else 1, if e = 0 then 0 else 4]⟩) ∧
      t.lane l =
        { (if e = 0 then x.stopped else x.stopped.withFault .typeMismatch false) with
          phase := if e = 0 then .disabled else .mismatch
          known := if e = 0 then none else some m
          list := if e = 0 then [] else [⟨.disable, none⟩]
          activity := if x.frame.isSome then .receiving else if e = 0 then .off else .idle
          desired := (t.lane l).desired, desiredVersion := (t.lane l).desiredVersion })

/-- REVERT and LOAD-DEFAULTS (R147): the working configuration becomes the store copy or the defaults; definitions,
dynamic parts, last changes and selections follow (R5, R7); the lamps of every changed identifier, old and new, are
handed, with those of the controls bound to a lane that leaves RUNNING (R18; log 18 for the latter in CONFIG mode),
and each FOLLOW lamp so handed takes its lit value. Every lane takes its setting (R115): the requests of the lanes
that leave RUNNING end with ABORTED, lane by lane from lane 0 upward, before the reply, which carries the dirty flag
as recomputed. Where the replacement equals the working configuration nothing changes but the reply. By
`Lane.settingTaken`, the activity of a lane enabled while its last frame still runs is log 16, that of a lane that
leaves RUNNING for MISMATCH with a reply frame in progress log 14; that disabling prevails over a change of type made
with it is log 38. -/
def Obligations.RevertAndLoadDefaultsReplaceTheImage : Prop :=
  ∀ (s : State) (tag kind : Byte) (i : SlotId) (c : Instr) (image : ConfigImage),
    (c = .revert tag [] ∧ kind = 0x3A ∧ image = s.config.storeCopy) ∨
      (c = .loadDefaults tag [] ∧ kind = 0x3B ∧ image = .defaults) →
    TakenIn s tag kind [] i → s.config.mode = .config → SafeState s → s.line = .running →
    let p := placed s tag kind [] i
    let leaves := fun l : LaneId => decide ((s.lane l).phase = .running ∧
      (image.lanes[l].enabled = false ∨ matchesType image.lanes[l].expectedType (s.lane l).known = false))
    let u := completeAll p ((List.finRange 8).flatMap fun l => if leaves l then endedWork (s.lane l) else [])
      (bare .aborted)
    let handed := fun q : LampPosition =>
      (∃ k, s.definition k ≠ lookupKey image.controls k ∧
        ((s.definition k).bind (·.lampPosition) = some q ∨
          (lookupKey image.controls k).bind (·.lampPosition) = some q)) ∨
      ∃ k d b, lookupKey image.controls k = some d ∧ d.binding = some b ∧ leaves b.lane = true ∧
        d.lampPosition = some q
    ∃ t, exec c s = .next (complete t i ⟨.ok, [if image = s.config.storeCopy then 0 else 1]⟩) ∧
      t = { p with
        config := t.config, table := t.table, lanes := t.lanes, translator := t.translator
        requests := u.requests, link := u.link } ∧
      t.config = { s.config with working := image, dirty := decide (image ≠ s.config.storeCopy) } ∧
      t.translator = { s.translator with prefixes := t.translator.prefixes } ∧
      (∀ l, t.prefixOf l = if leaves l then .none else s.prefixOf l) ∧
      (∀ k, t.definition k = none → t.control k = ⟨.unknown, false, none⟩) ∧
      (∀ k d, s.definition k = none → t.definition k = some d → t.control k = ⟨.unknown, false, none⟩) ∧
      (∀ k o d, s.definition k = some o → t.definition k = some d →
        t.control k =
          { physical := .unknown
            latched := if sameKind o.kind d.kind then (s.control k).latched else false
            lastChange :=
              if (sameKind o.kind d.kind = false ∧ (s.control k).latched = true) ∨
                  (∃ g, s.selection g = some k ∧ d.kind ≠ .member g) then some s.time.uptime
              else (s.control k).lastChange }) ∧
      (∀ g k, t.selection g = some k ↔
        s.selection g = some k ∧ ∃ d, t.definition k = some d ∧ d.kind = .member g) ∧
      (∀ l, t.lane l =
        ((s.lane l).settingTaken s.config.working.lanes[l] image.lanes[l]).withDesired (t.lane l).desired) ∧
      (∀ (l : LaneId) (n : LampId),
        ((s.lane l).owners.getLsbD n.val = true ∨ ¬handed ⟨l, n⟩ →
          (t.lane l).desired.getLsbD n.val = (s.lane l).desired.getLsbD n.val) ∧
        ((s.lane l).owners.getLsbD n.val = false → handed ⟨l, n⟩ →
          (t.lane l).desired.getLsbD n.val = t.litAt ⟨l, n⟩)) ∧
      (image = s.config.working → t = p)

/-! ## LEARN -/

/-- LEARN (R74): its refusals in order, and the waiter it sets, with the slot left ACTIVE. It ends with TIMEOUT when
the uptime reaches the waiter's expiry, and the waiter becomes none (R76). -/
def Obligations.LearnSetsTheWaiterAndTimesOut : Prop :=
  (∀ (s : State) (tag b n : Byte) (i : SlotId), TakenIn s tag 0x38 [b, n] i →
    let p := placed s tag 0x38 [b, n] i
    (s.config.mode = .startup → exec (.learn tag [b, n]) s = .next (complete p i (bare .notReady))) ∧
    (s.config.mode = .run → exec (.learn tag [b, n]) s = .next (complete p i (bare .wrongMode))) ∧
    (s.config.mode = .config →
      ((7 < b.toNat ∧ b ≠ 0xFF) ∨ n.toNat < 1 ∨ 60 < n.toNat →
        exec (.learn tag [b, n]) s = .next (complete p i (bare .badField))) ∧
      ∀ target : Option LaneId, (match target with | some l => b.toNat = l.val | none => b = 0xFF) →
        1 ≤ n.toNat → n.toNat ≤ 60 →
        (s.translator.learn ≠ none → exec (.learn tag [b, n]) s = .next (complete p i (bare .wrongState))) ∧
        (s.translator.learn = none →
          exec (.learn tag [b, n]) s =
            .next { p with
              translator := { s.translator with
                learn := some ⟨target, ⟨s.time.uptime, BitVec.ofNat 32 (n.toNat * 1000)⟩, i⟩ } }))) ∧
  (∀ (s : State) (w : LearnWaiter), s.line = .running → s.translator.learn = some w →
    w.expiry.span ≤ s.time.uptime - w.expiry.since →
    exec .learnTimeout s =
      .next (complete { s with translator := { s.translator with learn := none } } w.slot ⟨.timeout, []⟩))

/-- A press code taken in CONFIG mode on the waiter's lane ends LEARN with OK, the key, and the control bound to it or
FFFFh (R75, R72); the code changes no control and creates no record. -/
def Obligations.LearnIsSatisfiedByAPress : Prop :=
  ∀ (s : State) (l : LaneId) (b : Byte) (w : LearnWaiter) (ext : Bool) (found : Option ControlId),
    TurnTakes s l b → s.config.mode = .config → s.config.working.wf → isKeyCode b →
    (s.prefixOf l = .none ∧ ext = false ∨ s.prefixOf l = .ext ∧ ext = true) →
    s.translator.learn = some w → (w.lane = none ∨ w.lane = some l) →
    (match found with
      | some c => ∃ d, s.definition c = some d ∧ d.binding = some ⟨l, ext, b⟩
      | none => ∀ c d, s.definition c = some d → d.binding ≠ some ⟨l, ext, b⟩) →
    exec .translatorTurn s =
      .next (complete
        ({ s with
          translator :=
            { s.translator with
              prefixes := s.translator.prefixes.set l .none, start := l + 1, learn := none } }.setLane l
          { s.lane l with
            slot := none
            activity := if (s.lane l).activity = Activity.held then Activity.idle else (s.lane l).activity })
        w.slot
        ⟨.ok, [byteOf l.val, (if ext then 1 else 0), b] ++
          (match found with | some c => be16 (BitVec.ofNat 16 c.val) | none => [0xFF, 0xFF])⟩)

/-! ## The Configuration Store -/

/-- COMMIT (R158, R159): STORE_BUSY while committing or with a restart pending, WRONG_STATE when the new generation
would not fit, each changing nothing; otherwise the context holds the snapshot, the new generation, no good bank and
the slot, and the first attempt on bank A begins unless a repair's attempt runs. READ-STORE (R165, layout 12.3, R189)
reports the store and changes nothing. -/
def Obligations.CommitTakesItsSnapshot : Prop :=
  (∀ (s : State) (tag : Byte) (i : SlotId) (g : Nat), TakenIn s tag 0x39 [] i → s.config.mode ≠ .startup →
    let p := placed s tag 0x39 [] i
    let counted := fun v : BankView => if v.standing = some .valid then v.generation.toNat else 0
    g = 1 + max s.store.generation.toNat
      (max (counted s.store.views.a) (max (counted s.store.views.b) (counted s.store.views.c))) →
    (s.store.activity = .committing ∨ p.store.restartPending = true →
      exec (.commit tag []) s = .next (complete p i (bare .storeBusy))) ∧
    (s.store.activity ≠ .committing → p.store.restartPending = false → 4294967295 < g →
      exec (.commit tag []) s = .next (complete p i (bare .wrongState))) ∧
    (s.store.activity ≠ .committing → p.store.restartPending = false → g ≤ 4294967295 →
      exec (.commit tag []) s =
        .next { p with
          store :=
            { p.store with
              commit := some ⟨s.config.working, BitVec.ofNat 32 g, 0, i⟩
              activity := .committing
              write := if s.store.write = none then some ⟨.a, false, .commit⟩ else s.store.write
              views :=
                if s.store.write = none then { s.store.views with a := ⟨some .invalid, s.store.views.a.generation⟩ }
                else s.store.views } })) ∧
  (∀ (s : State) (tag : Byte) (i : SlotId) (a b c : BankStanding),
    TakenIn s tag 0x3C [] i → s.config.mode ≠ .startup →
    s.store.views.a.standing = some a → s.store.views.b.standing = some b → s.store.views.c.standing = some c →
    let bank := fun (st : BankStanding) (generation : Word) =>
      match st with
      | .valid => (0 : Byte) :: be32 generation
      | .invalid => [1, 0, 0, 0, 0]
      | .failed => [2, 0, 0, 0, 0]
    exec (.readStore tag []) s =
      .next (complete (placed s tag 0x3C [] i) i
        ⟨.ok,
          bank a s.store.views.a.generation ++ bank b s.store.views.b.generation ++
          bank c s.store.views.c.generation ++
          [s.store.standing.code, s.store.activity.code] ++
          (match s.store.write with
            | some w => [w.bank.code, if w.secondAttempt then 2 else 1]
            | none => [0xFF, 0]) ++
          be32 s.store.generation ++ [if s.config.dirty then 1 else 0]⟩)) ∧
  [BankName.a, .b, .c].map BankName.code = [0, 1, 2]

/-- During the vote each end of a read sets the standing of the next bank, A then B (R153, R149): VALID when the
generation is not 0 and the check code verifies; outside the vote the row has no effect (log 3). The read of C
completes the vote (R154, R155, R137): two identical banks prevail, otherwise the VALID bank with the highest
generation, the first on a tie, otherwise the defaults; the part enters RUN with that image as working configuration
and store copy, every control UNKNOWN, enabled lanes ABSENT with a probe queued; a MAJORITY begins the repair of the
odd bank. A check code that verifies is `checkError` 0 (log 9); the activity of a lane whose frame still runs is log
16. That no lamps are handed at the load is log 22. Each view holds the generation its bank read with (R150); the
pending restart and the commit context are untouched. -/
def Obligations.VoteReadsTheBanksAndDecides : Prop :=
  (∀ s : State, s.line = .running →
    let view := fun b : StoredBank =>
      (⟨some (if b.generation ≠ 0 ∧ b.checkError = 0 then .valid else .invalid), b.generation⟩ : BankView)
    (s.store.activity = .voting → s.store.views.a.standing = none →
      exec .bankReadEnds s =
        .next { s with store := { s.store with views := { s.store.views with a := view s.store.banks.a } } }) ∧
    (s.store.activity = .voting → s.store.views.a.standing ≠ none → s.store.views.b.standing = none →
      exec .bankReadEnds s =
        .next { s with store := { s.store with views := { s.store.views with b := view s.store.banks.b } } }) ∧
    (s.store.activity ≠ .voting → exec .bankReadEnds s = .next s)) ∧
  (∀ (s : State) (image : ConfigImage) (generation : Word) (standing : StoreStanding) (odd : Option BankName),
    s.line = .running → s.store.activity = .voting → SafeState s → s.store.views.a.standing ≠ none →
    s.store.views.b.standing ≠ none → s.store.views.c.standing = none →
    (∀ n, n ≠ .c → (s.store.views.get n).standing =
      some (if (s.store.banks.get n).readsValid then .valid else .invalid)) →
    let bank := fun n => s.store.banks.get n
    let same := fun m n => (bank m).readsValid = true ∧ (bank n).readsValid = true ∧
      (bank m).generation = (bank n).generation ∧ (bank m).content = (bank n).content
    ((same .a .b ∧ same .a .c ∧ image = (bank .a).content ∧ generation = (bank .a).generation ∧
        standing = .full ∧ odd = none) ∨
      (∃ m n o, [m, n, o] ∈ [[BankName.a, .b, .c], [.a, .c, .b], [.b, .c, .a]] ∧ same m n ∧ ¬same m o ∧
        image = (bank m).content ∧ generation = (bank m).generation ∧ standing = .majority ∧ odd = some o) ∨
      (¬same .a .b ∧ ¬same .a .c ∧ ¬same .b .c ∧
        (∃ n, (bank n).readsValid = true ∧
          (∀ m, (bank m).readsValid = true →
            (bank m).generation < (bank n).generation ∨
              ((bank m).generation = (bank n).generation ∧ n.before ≤ m.before)) ∧
          image = (bank n).content ∧ generation = (bank n).generation) ∧ standing = .single ∧ odd = none) ∨
      ((∀ n, (bank n).readsValid = false) ∧ image = .defaults ∧ generation = 0 ∧ standing = .blank ∧
        odd = none)) →
    ∃ t, exec .bankReadEnds s = .next t ∧
      t = { s with config := t.config, table := t.table, lanes := t.lanes, store := t.store } ∧
      t.config = ⟨.run, image, image, false⟩ ∧
      t.store.image = image ∧ t.store.generation = generation ∧ t.store.standing = standing ∧
      t.store.banks = s.store.banks ∧
      (odd = none → t.store.activity = .idle ∧ t.store.write = none) ∧
      (∀ o, odd = some o → t.store.activity = .repairing ∧ t.store.write = some ⟨o, false, .repair⟩) ∧
      (∀ n, t.store.views.get n =
        ⟨some (if odd ≠ some n ∧ (bank n).readsValid then .valid else .invalid),
          if n = .c then (bank .c).generation else (s.store.views.get n).generation⟩) ∧
      t.store.restartPending = s.store.restartPending ∧ t.store.commit = s.store.commit ∧
      (∀ c, t.control c = ⟨.unknown, false, none⟩) ∧ (∀ g, t.selection g = none) ∧
      ∀ l, t.lane l =
        if image.lanes[l].enabled then
          { s.lane l with
            phase := .absent
            activity := if (s.lane l).frame.isSome then .receiving else .idle
            list := [⟨.probeIdentify, none⟩] }
        else s.lane l)

/-- A repair's attempt ends (R152, R156): it writes the image in use at the generation in use; a pass makes the bank
VALID and the store FULL, a first failure begins the second attempt, a second leaves the bank FAILED and the standing
as it was. What the bank reads back is the command's operand, and what it then holds (log 11). -/
def Obligations.RepairAttemptsEnd : Prop :=
  ∀ (s : State) (r : ReadBack) (n : BankName) (second : Bool) (held : StoredBank), s.line = .running →
    s.store.write = some ⟨n, second, .repair⟩ → s.store.commit = none →
    let written : StoredBank := ⟨s.store.generation, s.store.image, 0⟩
    (held = match r with | .asWritten => written | .other b => b) →
    let banks := s.store.banks.set n held
    let generation := (s.store.views.get n).generation
    (held = written →
      exec (.bankWriteAttemptEnds r) s =
        .next { s with
          store := { s.store with
            banks := banks
            views := s.store.views.set n ⟨some .valid, s.store.generation⟩
            standing := .full
            activity := .idle
            write := none } }) ∧
    (held ≠ written → second = false →
      exec (.bankWriteAttemptEnds r) s =
        .next { s with
          store := { s.store with
            banks := banks
            views := s.store.views.set n ⟨some .invalid, generation⟩
            write := some ⟨n, true, .repair⟩ } }) ∧
    (held ≠ written → second = true →
      exec (.bankWriteAttemptEnds r) s =
        .next { s with
          store := { s.store with
            banks := banks
            views := s.store.views.set n ⟨some .failed, generation⟩
            activity := .idle
            write := none } })

/-- A commit's attempt ends, or the repair's attempt that a commit has overtaken (R159, R160): what is recorded of the
bank, and which attempt begins next, on a bank that is INVALID from then on and keeps the generation held for it
(R150); the rest of the store stays as it was. The write of bank C ends the commit (R161, R135): standing, store copy and reply
status follow from the good count, the generation in use becomes the commit generation, the dirty flag is recomputed
against the new store copy, and the COMMIT request completes with good count, generation and dirty flag. What a bank
reads back is the command's operand, and what it then holds (log 11). -/
def Obligations.CommitWritesTheBanksAndEnds : Prop :=
  (∀ (s : State) (r : ReadBack) (n : BankName) (second : Bool) (origin : WriteOrigin) (c : CommitContext)
    (written held : StoredBank), s.line = .running →
    s.store.write = some ⟨n, second, origin⟩ → s.store.commit = some c →
    (written = match origin with
      | .commit => ⟨c.generation, c.snapshot, 0⟩
      | .repair => ⟨s.store.generation, s.store.image, 0⟩) →
    (held = match r with | .asWritten => written | .other b => b) →
    let recorded : BankView :=
      if held = written then ⟨some .valid, written.generation⟩
      else ⟨some (if second then .failed else .invalid), (s.store.views.get n).generation⟩
    let views := s.store.views.set n recorded
    let goesTo := fun (next : BankName) (again : Bool) (good : Nat) =>
      exec (.bankWriteAttemptEnds r) s =
        .next { s with
          store := { s.store with
            banks := s.store.banks.set n held
            views := views.set next ⟨some .invalid, (views.get next).generation⟩
            write := some ⟨next, again, .commit⟩
            commit := some { c with good := good } } }
    let good := if held = written then c.good + 1 else c.good
    (origin = .repair → goesTo .a false c.good) ∧
    (origin = .commit → held ≠ written → second = false → goesTo n true c.good) ∧
    (origin = .commit → held = written ∨ second = true → n = .a → goesTo .b false good) ∧
    (origin = .commit → held = written ∨ second = true → n = .b → goesTo .c false good)) ∧
  (∀ (s : State) (r : ReadBack) (second : Bool) (c : CommitContext) (held : StoredBank) (good : Nat)
    (copy : ConfigImage), s.line = .running →
    s.store.write = some ⟨.c, second, .commit⟩ → s.store.commit = some c →
    let written : StoredBank := ⟨c.generation, c.snapshot, 0⟩
    (held = match r with | .asWritten => written | .other b => b) → held = written ∨ second = true →
    good = (if held = written then c.good + 1 else c.good) → good ≤ 3 →
    copy = (if good = 0 then .defaults else c.snapshot) →
    exec (.bankWriteAttemptEnds r) s =
      .next (complete
        { s with
          store := { s.store with
            banks := s.store.banks.set .c held
            views := s.store.views.set .c
              (if held = written then ⟨some .valid, c.generation⟩
              else ⟨some .failed, s.store.views.c.generation⟩)
            standing :=
              if good = 3 then .full else if good = 2 then .majority else if good = 1 then .single else .blank
            generation := c.generation
            activity := .idle
            commit := none
            write := none }
          config := { s.config with storeCopy := copy, dirty := decide (s.config.working ≠ copy) } }
        c.slot
        ⟨if good = 2 ∨ good = 3 then .ok else .storeFailed,
          [byteOf good] ++ be32 c.generation ++ [if s.config.working = copy then 0 else 1]⟩))

/-! ## The Code Translator -/

/-- Turns go round (R63): the lane served is the first eligible one from the starting lane upward, 7 round to 0, and
the starting lane becomes the lane after it; with none eligible, while waiting, or in STARTUP, no turn is served
(R78). A turn that would create a record while delivery is ON or STALLED and the queue holds 128 records is not
served: the Translator waits with that lane and nothing else changes; a turn that needs no space, or finds it, is
served (R65). A byte would create a record when it breaks the prefix order or is illegal; in RUN mode when it
completes a code with no binding, or one whose action yields a record by R9 to R12. It creates none when it is a
prefix that the order admits, a code completed in CONFIG mode, or a code whose action yields no record. ACK, HELLO,
RESEND-REQ and MODULE-ERROR never stand in a slot (R68; `PhaseLaws.slotByte`). (A LANE_STATUS item that waits is in
StatusTurnAppendsALaneStatus; a waiting turn whose lane leaves RUNNING, in `LeftRunning`.) -/
def Obligations.TurnsGoRoundAndWaitForSpace : Prop :=
  (∀ s : State, s.line = .running →
    (s.config.mode = .startup ∨ s.translator.waiting ≠ none ∨
        (∀ l, (s.lane l).statusWanted = false ∧ (s.lane l).slot = none) →
      exec .translatorTurn s = .next s) ∧
    (s.config.mode ≠ .startup → s.translator.waiting = none →
      ∀ k : Nat, k < 8 →
        (∀ j : Nat, j < k → (s.lane (s.translator.start + Fin.ofNat 8 j)).statusWanted = false ∧
          (s.lane (s.translator.start + Fin.ofNat 8 j)).slot = none) →
        ((s.lane (s.translator.start + Fin.ofNat 8 k)).statusWanted = true ∨
          (s.lane (s.translator.start + Fin.ofNat 8 k)).slot ≠ none) →
        ∃ t, exec .translatorTurn s = .next t ∧
          (t.translator.start = s.translator.start + Fin.ofNat 8 k + 1 ∧ t.translator.waiting = none ∨
            t = { s with
              translator := { s.translator with waiting := some (s.translator.start + Fin.ofNat 8 k) } }))) ∧
  (∀ (s : State) (l : LaneId) (b : Byte), s.line = .running → s.config.mode ≠ .startup → s.translator.waiting = none →
    nextLane s = some l → (s.lane l).statusWanted = false → (s.lane l).slot = some b →
    s.config.working.wf →
    let extended := decide (s.prefixOf l = .ext ∨ s.prefixOf l = .extRel)
    let release := decide (s.prefixOf l = .rel ∨ s.prefixOf l = .extRel)
    let waits := s.delivery.state ≠ .off → s.queue.records.length = 128 →
      exec .translatorTurn s = .next { s with translator := { s.translator with waiting := some l } }
    let served := TurnTakes s l b ∧ ∃ t, exec .translatorTurn s = .next t ∧ (t.lane l).slot = none ∧
      t.translator.start = l + 1 ∧ t.translator.waiting = none
    let yields := fun (c : ControlId) (d : ControlDef) =>
      match d.kind with
      | .momentary => release = true ↔ (s.control c).physical = .down
      | .toggle => release = false ∧ (s.control c).physical ≠ .down
      | .member g => release = false ∧ (s.control c).physical ≠ .down ∧
          ¬(s.selection g = some c ∧ s.groupMode g = .forced)
    (s.delivery.state = .off ∨ s.queue.records.length < 128 → served) ∧
    (b ∈ [0x00#8, 0xB1, 0xB2, 0xB3, 0xB6, 0xB7, 0xB9, 0xBA, 0xBB, 0xBC, 0xBD] ∨ 0xC0#8 ≤ b ∨
      (b = 0xB0 ∧ s.prefixOf l ≠ .none) ∨ (b = 0xB8 ∧ release = true) → waits) ∧
    ((b = 0xB0 ∧ s.prefixOf l = .none) ∨ (b = 0xB8 ∧ release = false) → served) ∧
    (0x01#8 ≤ b → b ≤ 0xAF#8 →
      (s.config.mode = .config → served) ∧
      (s.config.mode = .run →
        ((∀ c d, s.definition c = some d → d.binding ≠ some ⟨l, extended, b⟩) → waits) ∧
        ∀ c d, s.definition c = some d → d.binding = some ⟨l, extended, b⟩ →
          (yields c d → waits) ∧ (¬yields c d → served))))

/-- A LANE_STATUS turn (R64, R29, R31): the record is built from the lane as it stands and appended, the flag is
lowered, faults since previous becomes 0; the slot is not touched. With the queue full it waits (R65). After a
START-EVENTS this item comes before a byte that waits in the lane's slot: log 37. -/
def Obligations.StatusTurnAppendsALaneStatus : Prop :=
  ∀ (s : State) (l : LaneId), s.line = .running → s.config.mode ≠ .startup → s.translator.waiting = none →
    nextLane s = some l → (s.lane l).statusWanted = true → s.delivery.state ≠ .off →
    let event : Event :=
      .laneStatus l (s.lane l).phase ((s.lane l).known.map (·.moduleType)) (s.lane l).lastFault (s.lane l).faultsSince
    (s.queue.records.length < 128 →
      exec .translatorTurn s =
        .next (({ s with
          queue := ⟨s.queue.records ++ [⟨s.queue.next, s.time.uptime, event⟩], s.queue.next + 1⟩
          translator := { s.translator with start := l + 1 } } : State).setLane l
            { s.lane l with statusWanted := false, faultsSince := 0 })) ∧
    (s.queue.records.length = 128 →
      exec .translatorTurn s = .next { s with translator := { s.translator with waiting := some l } })

/-- The prefix table (R69, R70, R71): B0h and B8h move the prefix state where the order admits them; any other prefix,
and any byte of the illegal class (R68), is a CODE_ERROR with the state it found, and the state becomes NONE; a key
code completes with the extended and release flags of the state, which becomes NONE, and is UNMAPPED in RUN mode where
no control is bound to it. -/
def Obligations.PrefixTableClassifiesEachByte : Prop :=
  ∀ (s : State) (l : LaneId) (b : Byte) (p : PrefixState), TurnTakes s l b → s.prefixOf l = p →
    let base := fun (q : PrefixState) (e : Option Event) =>
      ({ s with
        queue := queueWith s e
        translator :=
          { s.translator with prefixes := s.translator.prefixes.set l q, start := l + 1 } } : State).setLane l
        { s.lane l with
          slot := none
          activity := if (s.lane l).activity = Activity.held then Activity.idle else (s.lane l).activity }
    (b = 0xB0 → p = .none → exec .translatorTurn s = .next (base .ext none)) ∧
    (b = 0xB8 → p = .none → exec .translatorTurn s = .next (base .rel none)) ∧
    (b = 0xB8 → p = .ext → exec .translatorTurn s = .next (base .extRel none)) ∧
    ((b = 0xB0 ∧ p ≠ .none) ∨ (b = 0xB8 ∧ (p = .rel ∨ p = .extRel)) ∨
        b ∈ [0x00#8, 0xB1, 0xB2, 0xB3, 0xB6, 0xB7, 0xB9, 0xBA, 0xBB, 0xBC, 0xBD] ∨ 0xC0#8 ≤ b →
      exec .translatorTurn s = .next (base .none (some (.codeError l b p)))) ∧
    (0x01#8 ≤ b → b ≤ 0xAF#8 → s.config.mode = .run → ∀ ext rel : Bool,
      (p, ext, rel) ∈ [(PrefixState.none, false, false), (.ext, true, false), (.rel, false, true),
        (.extRel, true, true)] →
      (∀ e ∈ s.config.working.controls, e.2.binding ≠ some ⟨l, ext, b⟩) →
      exec .translatorTurn s = .next (base .none (some (.unmapped l ext rel b)))) ∧
    (0x01#8 ≤ b → b ≤ 0xAF#8 → s.config.mode = .config → p = .rel ∨ p = .extRel ∨ s.translator.learn = none ∨
        (∃ w k, s.translator.learn = some w ∧ w.lane = some k ∧ k ≠ l) →
      exec .translatorTurn s = .next (base .none none))

/-! ## Actions -/

/-- A MOMENTARY control follows its key (R9): a press makes it DOWN with a PRESS record unless it was DOWN, a release
makes it UP with a RELEASE record if it was DOWN; latched stays as it is. A TOGGLE control flips its latched value on
each press that finds the key up, with a TOGGLED record; a repeat changes nothing; a release makes it UP without a
record (R10). Last change moves only with the state; the lamp is handed its lit value. -/
def Obligations.MomentaryAndToggleFollowTheirKeys : Prop :=
  (∀ (s : State) (l : LaneId) (b : Byte) (c : ControlId) (d : ControlDef) (release : Bool),
    KeyTurn s l b c d release → d.kind = .momentary →
    let x := s.control c
    ∃ t, exec .translatorTurn s = .next t ∧ t.table.selections = s.table.selections ∧
      (∀ k, k ≠ c → t.control k = s.control k) ∧
      ByteTaken s t l
        (if release then (if x.physical = .down then some (.release c) else none)
        else (if x.physical = .down then none else some (.press c)))
        (lampValue d (!release)) ∧
      t.control c =
        (if release then
          (if x.physical = .up then x else { x with physical := .up, lastChange := some s.time.uptime })
        else
          (if x.physical = .down then x else { x with physical := .down, lastChange := some s.time.uptime }))) ∧
  (∀ (s : State) (l : LaneId) (b : Byte) (c : ControlId) (d : ControlDef) (release : Bool),
    KeyTurn s l b c d release → d.kind = .toggle →
    let x := s.control c
    ∃ t, exec .translatorTurn s = .next t ∧ t.table.selections = s.table.selections ∧
      (∀ k, k ≠ c → t.control k = s.control k) ∧
      ByteTaken s t l
        (if release = true ∨ x.physical = .down then none else some (.toggled c (!x.latched)))
        (lampValue d (if release = true ∨ x.physical = .down then x.latched else !x.latched)) ∧
      t.control c =
        (if release then
          (if x.physical = .up then x else { x with physical := .up, lastChange := some s.time.uptime })
        else
          (if x.physical = .down then x
          else { physical := .down, latched := !x.latched, lastChange := some s.time.uptime })))

/-- A press of a MEMBER control (R11): a repeat changes nothing; a member not selected becomes its group's selected
member with a SELECTED record that names the previous one, whose last change moves and whose lamp is handed too; the
selected member of a FORCED group only goes DOWN; that of an OPTIONAL group is deselected with a DESELECTED record. A
release makes it UP and never changes its group; no record is made; last change moves only if the release finds it not
UP (R12). -/
def Obligations.MemberPressMovesTheSelection : Prop :=
  (∀ (s : State) (l : LaneId) (b : Byte) (c : ControlId) (d : ControlDef) (g : GroupId),
    KeyTurn s l b c d false → d.kind = .member g →
    let x := s.control c
    let now := s.time.uptime
    let down : ControlState := { x with physical := .down, lastChange := some now }
    (x.physical = .down →
      ∃ t, exec .translatorTurn s = .next t ∧ (∀ k, t.control k = s.control k) ∧
        t.table.selections = s.table.selections ∧
        ByteTaken s t l none (lampValue d (decide (s.selection g = some c)))) ∧
    (x.physical ≠ .down → s.selection g = some c → s.groupMode g = .forced →
      ∃ t, exec .translatorTurn s = .next t ∧ t.control c = down ∧ (∀ k, k ≠ c → t.control k = s.control k) ∧
        t.table.selections = s.table.selections ∧ ByteTaken s t l none (lampValue d true)) ∧
    (x.physical ≠ .down → s.selection g = some c → s.groupMode g = .optional →
      ∃ t, exec .translatorTurn s = .next t ∧ t.control c = down ∧ (∀ k, k ≠ c → t.control k = s.control k) ∧
        t.table.selections = s.table.selections.set g none ∧
        ByteTaken s t l (some (.deselected g c)) (lampValue d false)) ∧
    (x.physical ≠ .down → s.selection g = none →
      ∃ t, exec .translatorTurn s = .next t ∧ t.control c = down ∧ (∀ k, k ≠ c → t.control k = s.control k) ∧
        t.table.selections = s.table.selections.set g (some c) ∧
        ByteTaken s t l (some (.selected g c none)) (lampValue d true)) ∧
    (x.physical ≠ .down → ∀ p o, s.selection g = some p → p ≠ c → s.definition p = some o →
      ∃ t, exec .translatorTurn s = .next t ∧ t.control c = down ∧
        t.control p = { s.control p with lastChange := some now } ∧
        (∀ k, k ≠ c → k ≠ p → t.control k = s.control k) ∧
        t.table.selections = s.table.selections.set g (some c) ∧
        ByteTaken s t l (some (.selected g c (some p))) (lampValue d true ++ lampValue o false))) ∧
  (∀ (s : State) (l : LaneId) (b : Byte) (c : ControlId) (d : ControlDef) (g : GroupId),
    KeyTurn s l b c d true → d.kind = .member g →
    ∃ t, exec .translatorTurn s = .next t ∧ t.table.selections = s.table.selections ∧
      (∀ k, k ≠ c → t.control k = s.control k) ∧
      ByteTaken s t l none (lampValue d (decide (s.selection g = some c))) ∧
      t.control c =
        (if (s.control c).physical = .up then s.control c
        else { s.control c with physical := .up, lastChange := some s.time.uptime }))

/-! ## The lane link -/

/-- MODULE_FRAME_START on an IDLE lane makes it RECEIVING, with the 2 ms limit measured from there, and leaves the
list; in AWAITING the activity stays (R87, R89; log 15 for the frame recorded in AWAITING); on any other lane the
clock is held or the line taken, and nothing happens (log 3). A command byte (R88, R89): the first clock ends the 10
ms limit and starts the 3 ms limit; at the stop bit the lane is AWAITING and the first reply position of the command
is due within 25 ms. What the part does on the wires (R79, R86, R88; log 23 for the take): LCLKn held low while OFF or
HELD, in a take until the module clocks, released otherwise; LDATn driven only in an exchange, with the start bit and
then the frame of the command byte in progress (R85). The eleven bits of a lane frame (R82): start 0, D0 to D7, the
parity bit that makes the ones odd, stop 1; a frame received is good when its ones are odd and its stop bit is 1. -/
def Obligations.FramesAndCommandBytesRun : Prop :=
  (∀ (s : State) (l : LaneId), s.line = .running →
    ((s.lane l).activity = .idle →
      exec (.moduleFrameStart l) s =
        .next (s.setLane l { s.lane l with activity := .receiving, frame := some s.time.uptime })) ∧
    ((s.lane l).activity = .awaiting → (s.lane l).frame = none →
      exec (.moduleFrameStart l) s = .next (s.setLane l { s.lane l with frame := some s.time.uptime })) ∧
    ((s.lane l).activity ∈ [Activity.off, .receiving, .held, .sending] →
      exec (.moduleFrameStart l) s = .next s)) ∧
  (∀ (s : State) (l : LaneId) (ex : Exchange), s.line = .running → (s.lane l).activity = .sending →
    (s.lane l).exchange = some ex →
    (ex.clocked = false →
      exec (.moduleFirstClock l) s =
        .next (s.setLane l
          { s.lane l with exchange := some { ex with clocked := true, limit := ⟨s.time.uptime, 3⟩ } })) ∧
    (ex.clocked = true →
      exec (.commandByteComplete l) s =
        .next (s.setLane l
          { s.lane l with
            activity := .awaiting
            exchange := some
              { ex with
                due := match ex.command with
                  | .identify => [.ack, .moduleType, .lampCount]
                  | .resend => [.resent]
                  | .setLamps _ _ | .scanEnable | .scanDisable | .resetModule => [.ack]
                limit := ⟨s.time.uptime, 25⟩ } }))) ∧
  (∀ x : Lane,
    (x.activity = .off ∨ x.activity = .held → clockLine x = .heldLow) ∧
    (x.activity = .idle ∨ x.activity = .receiving ∨ x.activity = .awaiting → clockLine x = .released) ∧
    (x.activity ≠ .sending → dataLine x = .released) ∧
    ∀ ex, x.activity = .sending → x.exchange = some ex →
      (ex.clocked = false → clockLine x = .taking ∧ dataLine x = .startBit) ∧
      (ex.clocked = true → clockLine x = .released ∧
        ∀ b,
          (match ex.command with
            | .identify => [0x60]
            | .setLamps low high => [0x61, low, high]
            | .scanEnable => [0x62]
            | .scanDisable => [0x63]
            | .resend => [0x6E]
            | .resetModule => [0x6F])[ex.byteIndex]? = some b →
          dataLine x = .sending (partFrame b))) ∧
  (∀ (b : Byte) (parity stop : Bool),
    let ones := (List.finRange 8).countP fun i => b.getLsbD i.val
    (∃ odd, partFrame b =
        [false, b.getLsbD 0, b.getLsbD 1, b.getLsbD 2, b.getLsbD 3, b.getLsbD 4, b.getLsbD 5, b.getLsbD 6, b.getLsbD 7,
         odd, true] ∧
      (ones + if odd then 1 else 0) % 2 = 1) ∧
    (frameIsGood b parity stop = true ↔ (ones + if parity then 1 else 0) % 2 = 1 ∧ stop = true))

/-- EXCHANGE_START (R104, R86, R85, R124): on an IDLE lane with an empty slot the head entry, if it fits the phase,
leaves the list and takes the line with the first byte of its command under the 10 ms limit; a LAMP entry captures the
desired image and version. Otherwise nothing starts. -/
def Obligations.ExchangeStartsWithTheHeadEntry : Prop :=
  ∀ (s : State) (l : LaneId) (e : Entry) (rest : List Entry), s.line = .running →
    (s.lane l).list = e :: rest →
    let x := s.lane l
    let fits := match e.kind with
      | .probeIdentify | .enable | .disable => x.phase = .absent ∨ x.phase = .starting ∨ x.phase = .mismatch
      | .identify | .rescan | .resetModule | .lamp => x.phase = .running
    let command : ModuleCommand := match e.kind with
      | .identify | .probeIdentify => .identify
      | .rescan | .enable => .scanEnable
      | .disable => .scanDisable
      | .resetModule => .resetModule
      | .lamp => .setLamps (x.desired.extractLsb' 0 8) (x.desired.extractLsb' 8 8)
    (x.activity = .idle → x.slot = none → fits →
      exec (.exchangeStart l) s =
        .next (s.setLane l
          { x with
            list := rest
            inProgress := some e
            sent := if e.kind = .lamp then some (x.desired, x.desiredVersion) else x.sent
            activity := .sending
            exchange := some
              { command := command, attempt := 1, byteIndex := 0, clocked := false, due := [], typeTaken := 0,
                limit := ⟨s.time.uptime, 10⟩ } })) ∧
    (x.activity ≠ .idle ∨ x.slot ≠ none ∨ ¬fits → exec (.exchangeStart l) s = .next s)

/-- A byte in a good frame outside an exchange, by class and phase (R83, R84): in RUNNING an event or illegal byte
enters the slot and the lane is HELD, or is lost as OVERRUN if the slot is full; in STARTING, MISMATCH and ABSENT it
is discarded; ACK, RESEND-REQ and MODULE-ERROR are discarded in every phase; a disabled lane's last frame only ends,
good, bad or in a breach, and the lane is OFF (R80, R101). A bad frame, or a breach of the 2 ms limit (R84, R96): with
the slot empty a bad frame starts a RESEND exchange with parity count 1, ahead of the list; with the slot full it is
OVERRUN; a breach is RX_TIMEOUT; in ABSENT both are discarded. After a breach with the slot full the lane is HELD (log
30). -/
def Obligations.FramesOutsideAnExchange : Prop :=
  (∀ (s : State) (l : LaneId) (b : Byte), s.line = .running → (s.lane l).activity = .receiving →
    let x := s.lane l
    let quiet : Lane := { x with frame := none, activity := if x.slot.isSome then .held else .idle }
    (b ∉ [0xB4#8, 0xB5, 0xBE, 0xBF] → x.phase = .running →
      (x.slot = none →
        exec (.goodFrame l b) s =
          .next (s.setLane l { x with frame := none, slot := some b, activity := .held })) ∧
      (x.slot ≠ none →
        exec (.goodFrame l b) s =
          .next (s.setLane l (quiet.withFault .overrun (decide (s.delivery.state ≠ .off)))))) ∧
    (b ∉ [0xB4#8, 0xB5, 0xBE, 0xBF] → x.phase = .starting ∨ x.phase = .mismatch ∨ x.phase = .absent →
      exec (.goodFrame l b) s = .next (s.setLane l quiet)) ∧
    (b ∈ [0xB4#8, 0xBE, 0xBF] → x.phase ≠ .disabled → exec (.goodFrame l b) s = .next (s.setLane l quiet)) ∧
    (x.phase = .disabled →
      exec (.goodFrame l b) s = .next (s.setLane l { x with frame := none, activity := .off }))) ∧
  (∀ (s : State) (l : LaneId), s.line = .running → (s.lane l).activity = .receiving →
    let x := s.lane l
    let delivering := decide (s.delivery.state ≠ .off)
    let quiet : Lane := { x with frame := none, activity := if x.slot.isSome then .held else .idle }
    (x.phase = .running ∨ x.phase = .starting ∨ x.phase = .mismatch →
      (x.slot = none →
        exec (.badFrame l) s =
          .next (s.setLane l
            { x with
              frame := none
              activity := .sending
              parityCount := some 1
              exchange := some
                { command := .resend, attempt := 1, byteIndex := 0, clocked := false, due := [], typeTaken := 0,
                  limit := ⟨s.time.uptime, 10⟩ } })) ∧
      (x.slot ≠ none → exec (.badFrame l) s = .next (s.setLane l (quiet.withFault .overrun delivering))) ∧
      (∀ t, x.frame = some t → 2#32 ≤ s.time.uptime - t →
        exec (.frameLimitBreach l) s = .next (s.setLane l (quiet.withFault .rxTimeout delivering)))) ∧
    (x.phase = .absent →
      exec (.badFrame l) s = .next (s.setLane l quiet) ∧
      ∀ t, x.frame = some t → 2#32 ≤ s.time.uptime - t → exec (.frameLimitBreach l) s = .next (s.setLane l quiet)) ∧
    (x.phase = .disabled →
      let off : Lane := { x with frame := none, activity := .off }
      exec (.badFrame l) s = .next (s.setLane l off) ∧
      ∀ t, x.frame = some t → 2#32 ≤ s.time.uptime - t → exec (.frameLimitBreach l) s = .next (s.setLane l off)))

/-- A reply position that is filled but not the last (R89, R90, R93): the next position falls due within a fresh 25
ms, or, after the ACK of a SET-LAMPS byte that is not the last, the line is taken for the next byte under a fresh 10
ms; a stray event byte fills no position (R91). A bad frame in a reply position other than a RESEND's, or RESEND-REQ
in an ACK or RESEND position, ends the attempt: on the first and second the same command is sent again from its first
byte (R92). A RESEND exchange's reply (R97): a bad frame raises the parity count, at 2 a second RESEND exchange starts
at once, at 3 the byte is lost with fault PARITY; a good event byte is delivered as a byte outside an exchange. Each
is a success, so the failure count becomes 0 (R109; log 19 for the bad frame). A frame in a reply position is taken
with or without its start on record (log 15). -/
def Obligations.RepliesAreTakenOrAskedAgain : Prop :=
  (∀ (s : State) (l : LaneId) (ex : Exchange), s.line = .running →
    let x := s.lane l
    (∀ rest, Awaits x ex .ack (.moduleType :: rest) →
      exec (.goodFrame l 0xB4) s =
        .next (s.setLane l
          { x with
            frame := none
            exchange := some { ex with due := .moduleType :: rest, limit := ⟨s.time.uptime, 25⟩ } })) ∧
    (∀ b rest, Awaits x ex .moduleType (.lampCount :: rest) → 0x01#8 ≤ b → b ≤ 0x7F#8 →
      exec (.goodFrame l b) s =
        .next (s.setLane l
          { x with
            frame := none
            exchange := some
              { ex with due := .lampCount :: rest, typeTaken := b, limit := ⟨s.time.uptime, 25⟩ } })) ∧
    (∀ low high, Awaits x ex .ack [] → ex.command = .setLamps low high → ex.byteIndex < 2 →
      exec (.goodFrame l 0xB4) s =
        .next (s.setLane l
          { x with
            frame := none
            activity := .sending
            exchange := some
              { ex with
                byteIndex := ex.byteIndex + 1, clocked := false, due := [], limit := ⟨s.time.uptime, 10⟩ } })) ∧
    (∀ b rest, Awaits x ex .ack rest → isKeyCode b ∨ b = 0xB0 ∨ b = 0xB8 →
      (x.phase = .running → x.slot = none →
        exec (.goodFrame l b) s = .next (s.setLane l { x with frame := none, slot := some b })) ∧
      (x.phase ≠ .running → exec (.goodFrame l b) s = .next (s.setLane l { x with frame := none })))) ∧
  (∀ (s : State) (l : LaneId) (c : Instr) (ex : Exchange) (p : ReplyPosition) (rest : List ReplyPosition),
    s.line = .running → Awaits (s.lane l) ex p rest → ex.attempt < 3 →
    (c = .badFrame l ∧ p ≠ .resent) ∨ (c = .goodFrame l 0xBE ∧ (p = .ack ∨ p = .resent)) →
    exec c s =
      .next (s.setLane l
        { s.lane l with
          frame := none
          activity := .sending
          exchange := some
            { command := ex.command, attempt := ex.attempt + 1, byteIndex := 0, clocked := false, due := [],
              typeTaken := 0, limit := ⟨s.time.uptime, 10⟩ } })) ∧
  (∀ (s : State) (l : LaneId) (ex : Exchange) (rest : List ReplyPosition) (n : Nat), s.line = .running →
    Awaits (s.lane l) ex .resent rest → (s.lane l).parityCount = some n → (s.lane l).slot = none →
    let x := s.lane l
    let done : Lane := { x with frame := none, exchange := none, parityCount := none, activity := .idle, failures := 0 }
    (n = 1 →
      exec (.badFrame l) s =
        .next (s.setLane l
          { x with
            frame := none
            failures := 0
            activity := .sending
            parityCount := some 2
            exchange := some
              { command := .resend, attempt := 1, byteIndex := 0, clocked := false, due := [], typeTaken := 0,
                limit := ⟨s.time.uptime, 10⟩ } })) ∧
    (n = 2 →
      exec (.badFrame l) s =
        .next (s.setLane l (done.withFault .parity (decide (s.delivery.state ≠ .off))))) ∧
    (∀ b, b ∉ [0xB4#8, 0xB5, 0xBE, 0xBF] → x.phase = .running →
      exec (.goodFrame l b) s = .next (s.setLane l { done with slot := some b, activity := .held })) ∧
    (∀ b, b ∉ [0xB4#8, 0xB5, 0xBE, 0xBF] → x.phase = .starting ∨ x.phase = .mismatch →
      exec (.goodFrame l b) s = .next (s.setLane l done)))

/-! ## Outcomes of exchanges -/

/-- A failure in RUNNING that is not the third (R94, R109, R111, R117, R126): the fault is recorded and counted,
except that MODULE_ERROR does not count; a host entry's request ends with the failure; a LAMP entry's failure ends
every waiter and queues a LAMP entry unless one waits; a RESEND ends nothing. In STARTING and MISMATCH it is recorded
and the lane goes to ABSENT with a probe queued; in ABSENT a failed probe records nothing and is due again 500 ms
later (R105, R107, R108). The activity after an exchange that ends with a late frame in progress is log 14. -/
def Obligations.FailuresAreCountedOrGoToAbsent : Prop :=
  (∀ (s : State) (l : LaneId) (c : Instr) (k : LaneFault) (x : Lane), s.line = .running → FailsNow s l c k x →
    x.phase = .running → x.failuresAfter k < 3 →
    let y : Lane :=
      { (x.ended.withFault k (decide (s.delivery.state ≠ .off))) with failures := x.failuresAfter k }
    (x.inProgress = none → exec c s = .next (s.setLane l y)) ∧
    (∀ e, x.inProgress = some e → e.kind ≠ .lamp → e.request = none → exec c s = .next (s.setLane l y)) ∧
    (∀ e i, x.inProgress = some e → e.kind ≠ .lamp → e.request = some i →
      exec c s = .next (complete (s.setLane l y) i (replyOfFailure k))) ∧
    (∀ e, x.inProgress = some e → e.kind = .lamp →
      exec c s =
        .next (completeAll
          (s.setLane l
            { y with
              waiters := []
              sent := none
              list := if (∃ e ∈ x.list, e.kind = .lamp) then x.list else x.list ++ [⟨.lamp, none⟩] })
          (x.waiters.map (·.slot)) (replyOfFailure k)))) ∧
  (∀ (s : State) (l : LaneId) (c : Instr) (k : LaneFault) (x : Lane), s.line = .running → FailsNow s l c k x →
    LaneLaws (s.lane l) →
    (x.phase = .starting ∨ x.phase = .mismatch →
      exec c s =
        .next (s.setLane l
          { (x.ended.withFault k (decide (s.delivery.state ≠ .off))) with
            phase := .absent, startStep := none, known := none, failures := 0, probeDue := none
            helloDeadline := none, list := [⟨.probeIdentify, none⟩] })) ∧
    (x.phase = .absent →
      exec c s = .next (s.setLane l { x.ended with probeDue := some ⟨s.time.uptime, 500⟩ })))

/-- The third counted failure loses the module (R109, R110, R114, R105): after the failure's own fault and reply,
MODULE_LOST is recorded, the other host work ends with LANE_DOWN, and the lane is ABSENT with a probe queued at once.
A RESEND exchange counts like any other: it carries no entry, so all host work ends with LANE_DOWN. The latch holds
both faults (R111). The activity after an exchange that ends with a late frame in progress is log 14. Of what
`LeftRunning` says, the waiting turn rests on log 17 and log 35, the lamps handed in CONFIG mode on log 18. -/
def Obligations.ThirdFailureLosesTheModule : Prop :=
  ∀ (s : State) (l : LaneId) (c : Instr) (k : LaneFault) (x : Lane), s.line = .running →
    FailsNow s l c k x → x.phase = .running → x.failures = 2 → k ≠ .moduleError → LaneLaws (s.lane l) →
    let lamp := decide (x.inProgress.map (·.kind) = some .lamp)
    let ended :=
      if lamp then completeAll s (x.waiters.map (·.slot)) (replyOfFailure k)
      else match x.inProgress.bind (·.request) with | some i => complete s i (replyOfFailure k) | none => s
    let left :=
      completeAll ended
        (x.list.filterMap (·.request) ++ if lamp then [] else x.waiters.map (·.slot)) (bare .laneDown)
    let delivering := decide (s.delivery.state ≠ .off)
    ∃ t, exec c s = .next t ∧ LeftRunning s t l left ∧
      t.lane l =
        { ((x.stopped.withFault k delivering).withFault .moduleLost delivering) with
          phase := .absent, known := none, list := [⟨.probeIdentify, none⟩]
          activity := if x.frame.isSome then .receiving else .idle
          desired := (t.lane l).desired, desiredVersion := (t.lane l).desiredVersion }

/-- In ABSENT, when the uptime reaches the probe due time, a PROBE-IDENTIFY entry is queued and the due time is none
(R105). When the hello deadline passes in WAIT_HELLO, a RESEND in progress is abandoned and the lane goes to ABSENT
with a probe queued and no fault recorded (R118). The activity after an abandoned RESEND with a frame in progress is
log 14. -/
def Obligations.ProbesAndDeadlinesFallDue : Prop :=
  (∀ (s : State) (l : LaneId) (w : Wait), s.line = .running → LaneLaws (s.lane l) → (s.lane l).probeDue = some w →
    w.span ≤ s.time.uptime - w.since →
    exec (.probeDue l) s =
      .next (s.setLane l { s.lane l with probeDue := none, list := [⟨.probeIdentify, none⟩] })) ∧
  (∀ (s : State) (l : LaneId) (w : Wait), s.line = .running → LaneLaws (s.lane l) →
    (s.lane l).helloDeadline = some w → w.span ≤ s.time.uptime - w.since →
    let x := s.lane l
    exec (.helloDeadline l) s =
      .next (s.setLane l
        { x with
          phase := .absent, startStep := none, helloDeadline := none, list := [⟨.probeIdentify, none⟩]
          exchange := none, parityCount := none
          activity := if x.frame.isSome then .receiving else .idle
          statusWanted := x.statusWanted || decide (s.delivery.state ≠ .off) }))

/-- HELLO in RUNNING, outside an exchange or in a reply position (R106, R114, R90): MODULE_RESTART is recorded, the
host work ends with LANE_DOWN, and the lane is STARTING at step IDENTIFY with its module unknown and a PROBE-IDENTIFY
queued. In ABSENT a probe is queued unless one waits; in WAIT_HELLO, IDENTIFY, ENABLE and MISMATCH the lane is at step
IDENTIFY with its module unknown, no fault recorded, and PROBE-IDENTIFY in place of any start-up entry. Of what
`LeftRunning` says, the waiting turn rests on log 17 and log 35, the lamps handed in CONFIG mode on log 18. -/
def Obligations.HelloRestartsTheLane : Prop :=
  (∀ (s : State) (l : LaneId), s.line = .running → (s.lane l).phase = .running → LaneLaws (s.lane l) →
    (s.lane l).activity = .receiving ∨ (s.lane l).activity = .awaiting →
    let x := s.lane l
    ∃ t, exec (.goodFrame l 0xB5) s = .next t ∧
      LeftRunning s t l (completeAll s (endedWork x) (bare .laneDown)) ∧
      t.lane l =
        { (x.stopped.withFault .moduleRestart (decide (s.delivery.state ≠ .off))) with
          frame := none, phase := .starting, startStep := some .identify, known := none
          list := [⟨.probeIdentify, none⟩], activity := .idle
          desired := (t.lane l).desired, desiredVersion := (t.lane l).desiredVersion }) ∧
  (∀ (s : State) (l : LaneId), s.line = .running → LaneLaws (s.lane l) →
    (s.lane l).activity = .receiving ∨
      ((s.lane l).activity = .awaiting ∧ ∃ ex p rest, Awaits (s.lane l) ex p rest) →
    let x := s.lane l
    let y : Lane :=
      { x with
        frame := none, exchange := none, inProgress := none, parityCount := none, activity := .idle
        list := [⟨.probeIdentify, none⟩] }
    let failures := if (∃ ex, x.exchange = some ex ∧ ex.command = .resend) then 0 else x.failures
    (x.phase = .absent → exec (.goodFrame l 0xB5) s = .next (s.setLane l { y with probeDue := none })) ∧
    (x.phase = .starting →
      exec (.goodFrame l 0xB5) s =
        .next (s.setLane l
          { y with failures := failures, startStep := some .identify, known := none, helloDeadline := none })) ∧
    (x.phase = .mismatch →
      exec (.goodFrame l 0xB5) s =
        .next (s.setLane l
          { y with
            phase := .starting, startStep := some .identify, known := none, failures := 0
            statusWanted := x.statusWanted || decide (s.delivery.state ≠ .off) })))

/-- A probe succeeds (R105, R107): the lamp count ends the IDENTIFY; a type that matches the expected type brings the
lane to step ENABLE with ENABLE queued, another to MISMATCH with the fault recorded and DISABLE queued. SCAN-ENABLE is
acknowledged in step ENABLE with a matching type (R107, R113, R129, R13), in a state whose dynamic parts are those of
the defined identifiers (`ControlLaws`): the lane is RUNNING, its bound controls UP
in RUN mode and as they were in CONFIG, its FOLLOW lamps at their lit values, its versions 1 and 0, and one LAMP entry
queued. Where the type no longer matches, the fault is recorded and the lane is in MISMATCH with DISABLE queued
(R107). A DISABLE that succeeds, in MISMATCH or still in progress in STARTING, changes nothing further (R108). That
lamps are handed at entry in CONFIG mode too is log 18. -/
def Obligations.StartUpExchangesSucceed : Prop :=
  (∀ (s : State) (l : LaneId) (ex : Exchange) (n : Byte) (e : Entry), s.line = .running → LaneLaws (s.lane l) →
    Awaits (s.lane l) ex .lampCount [] → (s.lane l).inProgress = some e → e.kind = .probeIdentify → n ≤ 0x10#8 →
    let x := s.lane l
    let delivering := decide (s.delivery.state ≠ .off)
    let expected := s.config.working.lanes[l].expectedType
    let y : Lane := { x.ended with frame := none, activity := .idle, known := some ⟨ex.typeTaken, n⟩, failures := 0 }
    (expected = 0 ∨ expected = ex.typeTaken →
      exec (.goodFrame l n) s =
        .next (s.setLane l
          { y with
            phase := .starting, startStep := some .enable, probeDue := none, list := [⟨.enable, none⟩]
            statusWanted := x.statusWanted || (decide (x.phase = .absent) && delivering) })) ∧
    (expected ≠ 0 → expected ≠ ex.typeTaken →
      exec (.goodFrame l n) s =
        .next (s.setLane l
          { (y.withFault .typeMismatch delivering) with
            phase := .mismatch, startStep := none, probeDue := none, list := [⟨.disable, none⟩] }))) ∧
  (∀ (s : State) (l : LaneId) (ex : Exchange) (e : Entry) (image : Half), s.line = .running → LaneLaws (s.lane l) →
    ControlLaws s → Awaits (s.lane l) ex .ack [] → (s.lane l).inProgress = some e → e.kind = .enable →
    matchesType (s.expectedType l) (s.lane l).known = true →
    let x := s.lane l
    ∃ t, exec (.goodFrame l 0xB4) s = .next t ∧
      t = { s with table := t.table, lanes := t.lanes } ∧ t.table.selections = s.table.selections ∧
      (∀ c, t.control c =
        if s.config.mode = .run ∧ s.boundTo c l = true then (s.control c).withPhysical s.time.uptime .up
        else s.control c) ∧
      (∀ k, k ≠ l →
        t.lane k = (s.lane k).withDesired (handedImage k (s.lane k) (t.handedLamps (s.controlsBoundTo l)))) ∧
      ((∀ n : LampId, image.getLsbD n.val =
          if x.owners.getLsbD n.val then x.desired.getLsbD n.val else t.litAt ⟨l, n⟩) →
        t.lane l =
          { x with
            frame := none, exchange := none, inProgress := none, parityCount := none, activity := .idle
            phase := .running, startStep := none, failures := 0
            statusWanted := x.statusWanted || decide (s.delivery.state ≠ .off)
            list := [⟨.lamp, none⟩], desired := image, acked := 0, desiredVersion := 1, ackedVersion := 0 })) ∧
  (∀ (s : State) (l : LaneId) (ex : Exchange) (e : Entry), s.line = .running → LaneLaws (s.lane l) →
    Awaits (s.lane l) ex .ack [] → (s.lane l).inProgress = some e →
    let x := s.lane l
    let y : Lane :=
      { x with frame := none, exchange := none, inProgress := none, parityCount := none, activity := .idle }
    (e.kind = .enable → matchesType (s.expectedType l) x.known = false →
      exec (.goodFrame l 0xB4) s =
        .next (s.setLane l
          { (y.withFault .typeMismatch (decide (s.delivery.state ≠ .off))) with
            phase := .mismatch, startStep := none, list := [⟨.disable, none⟩] })) ∧
    (e.kind = .disable → exec (.goodFrame l 0xB4) s = .next (s.setLane l y)))

/-- A host entry's exchange succeeds (R117, R109): a RESCAN completes with OK; an IDENTIFY of a type that still
matches completes with OK, the type and the lamp count, which the lane takes. An internal RESCAN ends with no reply,
and nothing more is done (R116). A LAMP exchange succeeds (R125, R131): the acknowledged image and version become the
sent ones, the waiters whose target is reached complete with OK and their target, in the order taken, and the others
wait on. The failure count becomes 0. -/
def Obligations.HostCommandsAndLampUpdatesSucceed : Prop :=
  (∀ (s : State) (l : LaneId) (ex : Exchange) (e : Entry), s.line = .running → LaneLaws (s.lane l) →
    Awaits (s.lane l) ex .ack [] → (s.lane l).inProgress = some e → e.kind = .rescan → e.request = none →
    exec (.goodFrame l 0xB4) s =
      .next (s.setLane l { ({ s.lane l with frame := none } : Lane).ended with failures := 0 })) ∧
  (∀ (s : State) (l : LaneId) (ex : Exchange) (e : Entry) (i : SlotId), s.line = .running → LaneLaws (s.lane l) →
    (s.lane l).inProgress = some e → e.request = some i →
    let x := s.lane l
    let y : Lane := { ({ x with frame := none } : Lane).ended with failures := 0 }
    (Awaits x ex .ack [] → e.kind = .rescan →
      exec (.goodFrame l 0xB4) s = .next (complete (s.setLane l y) i ⟨.ok, []⟩)) ∧
    (∀ n, Awaits x ex .lampCount [] → e.kind = .identify → n ≤ 0x10#8 →
      matchesType (s.expectedType l) (some ⟨ex.typeTaken, n⟩) = true →
      exec (.goodFrame l n) s =
        .next (complete (s.setLane l { y with known := some ⟨ex.typeTaken, n⟩ }) i ⟨.ok, [ex.typeTaken, n]⟩))) ∧
  (∀ (s : State) (l : LaneId) (ex : Exchange) (e : Entry) (low high : Byte) (image : Half) (version : Word),
    s.line = .running → LaneLaws (s.lane l) → Awaits (s.lane l) ex .ack [] → (s.lane l).inProgress = some e →
    e.kind = .lamp → ex.command = .setLamps low high → ex.byteIndex = 2 → (s.lane l).sent = some (image, version) →
    let x := s.lane l
    let reached := fun w : LampWaiter =>
      decide (w.target = version ∨ x.desiredVersion - version < w.target - version)
    exec (.goodFrame l 0xB4) s =
      .next ((x.waiters.filter reached).foldl (fun t w => complete t w.slot ⟨.ok, be32 w.target⟩)
        (s.setLane l
          { ({ x with frame := none } : Lane).ended with
            failures := 0, acked := image, ackedVersion := version, sent := none
            waiters := x.waiters.filter fun w => !reached w })))

/-- A host command whose success takes the lane out of RUNNING (R117, R118): RESET-MODULE brings it to STARTING at
WAIT_HELLO with a deadline of 1000 ms and no fault; an IDENTIFY of a type that no longer matches brings it to MISMATCH
with the fault. The request itself ends OK, the other host work with LANE_DOWN. Of what `LeftRunning` says, the
waiting turn rests on log 17 and log 35, the lamps handed in CONFIG mode on log 18. -/
def Obligations.HostCommandEndsTheStay : Prop :=
  ∀ (s : State) (l : LaneId) (ex : Exchange) (e : Entry) (i : SlotId), s.line = .running → LaneLaws (s.lane l) →
    (s.lane l).inProgress = some e → e.request = some i →
    let x := s.lane l
    let rest := x.list.filterMap (·.request) ++ x.waiters.map (·.slot)
    (Awaits x ex .ack [] → e.kind = .resetModule →
      ∃ t, exec (.goodFrame l 0xB4) s = .next t ∧
        LeftRunning s t l (completeAll (complete s i ⟨.ok, []⟩) rest (bare .laneDown)) ∧
        t.lane l =
          { x.stopped with
            frame := none, phase := .starting, startStep := some .waitHello, known := none, list := []
            helloDeadline := some ⟨s.time.uptime, 1000⟩, activity := .idle
            statusWanted := x.statusWanted || decide (s.delivery.state ≠ .off)
            desired := (t.lane l).desired, desiredVersion := (t.lane l).desiredVersion }) ∧
    (∀ n, Awaits x ex .lampCount [] → e.kind = .identify → n ≤ 0x10#8 →
      matchesType (s.expectedType l) (some ⟨ex.typeTaken, n⟩) = false →
      ∃ t, exec (.goodFrame l n) s = .next t ∧
        LeftRunning s t l (completeAll (complete s i ⟨.ok, [ex.typeTaken, n]⟩) rest (bare .laneDown)) ∧
        t.lane l =
          { (x.stopped.withFault .typeMismatch (decide (s.delivery.state ≠ .off))) with
            frame := none, phase := .mismatch, known := some ⟨ex.typeTaken, n⟩, list := [⟨.disable, none⟩]
            activity := .idle, desired := (t.lane l).desired, desiredVersion := (t.lane l).desiredVersion })

/-! ## Invariants -/

/-- R34, R102 and the reset rules: the state after reset keeps all the laws. -/
def Obligations.ResetStateKeepsTheLaws : Prop :=
  SafeState State.reset ∧ pendingWf State.reset

/-- Every step keeps the laws of the Event Queue, the Delivery Unit and the Translator's wait: at most 128 records,
consecutive numbers, in flight at most the window, OFF and STALLED as R39 and R40 say (R25, R30, R31, R33, R41). -/
def Obligations.StepsKeepTheDeliveryLaws : Prop :=
  ∀ s t : State, pendingWf s → SafeState s → step s = .next t → DeliveryLaws t

/-- Every step keeps the laws of the Request Table, the outgoing reply list and the pending restart (R164, R172, R177,
R180), and forgets no request: every ACTIVE request is owed its reply by exactly one lane, LEARN waiter or commit, and
each of these owes it to an ACTIVE request (R183). -/
def Obligations.StepsForgetNoRequest : Prop :=
  (∀ s t : State, pendingWf s → SafeState s → step s = .next t → RequestLaws t ∧ RestartLaws t) ∧
  (∀ s t : State, pendingWf s → SafeState s → step s = .next t → NoRequestForgotten t)

/-- Every step keeps the laws of the lanes: what each phase, activity, exchange and command list holds, and that no
change of a RUNNING lane's lamps is forgotten (R86, R99 to R104, R122 to R126). -/
def Obligations.StepsKeepTheLaneLaws : Prop :=
  ∀ s t : State, pendingWf s → SafeState s → step s = .next t → LanesLawful t

/-- Every step keeps every image within the ranges and the uniqueness of R1, R6, R134 and R140, and the dirty flag
equal to the comparison of R135; and the laws of the Configuration Store and of the Control Table, among them that a
defined control is UNKNOWN exactly outside RUN, unbound or with its lane not RUNNING, and that a selected member is a
defined MEMBER of its group (R3, R7, R136, R149 to R160). -/
def Obligations.StepsKeepImagesStoreAndControlsLawful : Prop :=
  (∀ s t : State, pendingWf s → SafeState s → step s = .next t → ImageLaws t) ∧
  (∀ s t : State, pendingWf s → SafeState s → step s = .next t → StoreLaws t ∧ ControlLaws t)

/-- Every step keeps each lane's phase in line with its setting: DISABLED exactly when disabled, RUNNING only with a
module of the expected type, MISMATCH only with another; and no status-wanted flag is raised while delivery is OFF
(R32, R100, R107, R112, R115). -/
def Obligations.StepsKeepTheLanesAsSet : Prop :=
  ∀ s t : State, pendingWf s → SafeState s → step s = .next t → SettingLaws t
end

