-- ==== Sys2Proof/Laws/Tables.lean ====
section
/-! SUPPORT. The sparse tables: what a lookup reads after an update, and that updates keep the canonical
form (keys strictly rising). -/

namespace Sys2Proof.Machine

variable {n : Nat} {α : Type}

theorem lookupKey_cons (j k : Fin n) (v : α) (t : List (Fin n × α)) :
    lookupKey ((j, v) :: t) k = if j = k then some v else lookupKey t k := rfl

/-- A key the table lists is the key of one of its entries. -/
theorem mem_of_lookupKey {t : List (Fin n × α)} {k : Fin n} {v : α} (h : lookupKey t k = some v) :
    (k, v) ∈ t := by
  induction t with
  | nil => simp [lookupKey] at h
  | cons e t ih =>
    obtain ⟨j, w⟩ := e
    rw [lookupKey_cons] at h
    split at h
    · simp_all
    · exact List.mem_cons_of_mem _ (ih h)

/-- In a table in canonical form every entry is what a lookup of its key reads. -/
theorem lookupKey_of_mem {t : List (Fin n × α)} (hs : sortedKeys t) {k : Fin n} {v : α} (h : (k, v) ∈ t) :
    lookupKey t k = some v := by
  induction t with
  | nil => simp at h
  | cons e t ih =>
    obtain ⟨j, w⟩ := e
    rw [lookupKey_cons]
    have hs' := List.pairwise_cons.mp hs
    rcases List.mem_cons.mp h with h | h
    · simp_all
    · have : j < k := hs'.1 _ h
      have hne : j ≠ k := by omega
      simp [hne, ih hs'.2 h]

theorem lookupKey_eq_none {t : List (Fin n × α)} {k : Fin n} (h : ∀ e ∈ t, e.1 ≠ k) : lookupKey t k = none := by
  induction t with
  | nil => rfl
  | cons e t ih =>
    obtain ⟨j, w⟩ := e
    have hj : j ≠ k := h (j, w) (by simp)
    rw [lookupKey_cons, if_neg hj]
    exact ih fun e he => h e (by simp [he])

/-- What a lookup reads after an insertion. -/
theorem lookupKey_insertKey (t : List (Fin n × α)) (k j : Fin n) (v : α) :
    lookupKey (insertKey t k v) j = if k = j then some v else lookupKey t j := by
  induction t with
  | nil => simp [insertKey, lookupKey]
  | cons e t ih =>
    obtain ⟨m, w⟩ := e
    simp only [insertKey]
    split
    · simp [lookupKey_cons]
    · split
      · rename_i _ hkm
        subst hkm
        simp only [lookupKey_cons]
        split <;> simp_all
      · rename_i _ hkm
        simp only [lookupKey_cons, ih]
        split
        · rename_i hmj
          subst hmj
          simp [hkm]
        · rfl

/-- The keys of a table after an insertion. -/
theorem mem_insertKey {t : List (Fin n × α)} {k : Fin n} {v : α} {e : Fin n × α} (h : e ∈ insertKey t k v) :
    e = (k, v) ∨ e ∈ t := by
  induction t with
  | nil => simpa [insertKey] using h
  | cons a t ih =>
    obtain ⟨m, w⟩ := a
    simp only [insertKey] at h
    split at h
    · simpa using h
    · split at h
      · rcases List.mem_cons.mp h with h | h
        · exact .inl h
        · exact .inr (by simp [h])
      · rcases List.mem_cons.mp h with h | h
        · exact .inr (by simp [h])
        · rcases ih h with h | h
          · exact .inl h
          · exact .inr (by simp [h])

/-- An insertion keeps the canonical form. -/
theorem sortedKeys_insertKey {t : List (Fin n × α)} (hs : sortedKeys t) (k : Fin n) (v : α) :
    sortedKeys (insertKey t k v) := by
  induction t with
  | nil => simp [insertKey, sortedKeys]
  | cons a t ih =>
    obtain ⟨m, w⟩ := a
    have hs' := List.pairwise_cons.mp hs
    simp only [insertKey]
    split
    · rename_i hkm
      refine List.pairwise_cons.mpr ⟨?_, hs⟩
      intro e he
      rcases List.mem_cons.mp he with rfl | he
      · exact hkm
      · exact lt_trans hkm (hs'.1 e he)
    · split
      · rename_i _ hkm
        subst hkm
        exact List.pairwise_cons.mpr ⟨hs'.1, hs'.2⟩
      · rename_i hlt hne
        refine List.pairwise_cons.mpr ⟨?_, ih hs'.2⟩
        intro e he
        rcases mem_insertKey he with rfl | he
        · show m < k
          omega
        · exact hs'.1 e he

/-- A deletion keeps the canonical form. -/
theorem sortedKeys_eraseKey {t : List (Fin n × α)} (hs : sortedKeys t) (k : Fin n) : sortedKeys (eraseKey t k) :=
  List.Pairwise.filter _ hs

/-- What a lookup reads after a deletion. -/
theorem lookupKey_eraseKey (t : List (Fin n × α)) (k j : Fin n) :
    lookupKey (eraseKey t k) j = if k = j then none else lookupKey t j := by
  induction t with
  | nil => simp [eraseKey, lookupKey]
  | cons e t ih =>
    obtain ⟨m, w⟩ := e
    unfold eraseKey at ih ⊢
    by_cases hm : m = k
    · subst hm
      simp only [ne_eq, not_true_eq_false, decide_false, Bool.false_eq_true, not_false_eq_true,
        List.filter_cons_of_neg, ih, lookupKey_cons]
      split <;> simp_all
    · simp only [ne_eq, hm, not_false_eq_true, decide_true, List.filter_cons_of_pos, lookupKey_cons, ih]
      split
      · rename_i hmj
        subst hmj
        simp [Ne.symm hm]
      · rfl

/-- Setting one value and reading the table back gives that value; every other key reads as before. -/
theorem lookupKey_insertKey_ne (t : List (Fin n × α)) {k j : Fin n} (h : k ≠ j) (v : α) :
    lookupKey (insertKey t k v) j = lookupKey t j := by
  rw [lookupKey_insertKey, if_neg h]

end Sys2Proof.Machine
end

