-- ==== Sys2Proof/Laws/Check.lean ====
section
/-! SUPPORT. The laws of Safety.lean as tests that evaluate: a state that passes keeps the laws. The witnesses of
the tests use them on concrete states. -/

namespace Sys2Proof.Machine

/-- One thing implies another. -/
def implies (a b : Bool) : Bool := !a || b

theorem implies_of {a b : Bool} (h : implies a b = true) (ha : a = true) : b = true := by
  cases a <;> simp_all [implies]

/-! ## Delivery -/

/-- The test of `DeliveryLaws`. -/
def deliveryOk (s : State) : Bool :=
  decide (s.queue.records.length ≤ 128 ∧ s.delivery.inFlight ≤ s.queue.records.length ∧
    s.delivery.inFlight ≤ s.delivery.window ∧ s.delivery.window ≤ 64) &&
  (decide (∀ k : Fin s.queue.records.length,
    s.queue.records[k].sequence = s.queue.next - BitVec.ofNat 16 (s.queue.records.length - k)) &&
  decide ((s.delivery.state = .off →
      s.queue.records = [] ∧ s.delivery.window = 0 ∧ s.delivery.timer = none ∧ s.delivery.retransmits = 0) ∧
    (s.delivery.state = .on → s.delivery.retransmits < s.config.working.retransmitLimit) ∧
    (s.delivery.state = .stalled → s.delivery.inFlight = 0 ∧ s.delivery.timer = none ∧
      s.delivery.retransmits = s.config.working.retransmitLimit) ∧
    (s.config.mode ≠ .run → s.delivery.state = .off) ∧
    (s.translator.waiting ≠ none → s.delivery.state ≠ .off ∧ s.queue.records.length = 128)))

theorem deliveryLaws_of {s : State} (h : deliveryOk s = true) : DeliveryLaws s := by
  simp only [deliveryOk, Bool.and_eq_true, decide_eq_true_eq] at h
  obtain ⟨⟨h1, h2, h3, h4⟩, h5, h6, h7, h8, h9, h10⟩ := h
  exact ⟨h1, h2, h3, h4, fun k hk => h5 ⟨k, hk⟩, h6, h7, h8, h9, h10⟩

/-! ## Requests and restart -/

/-- Two slots that are not FREE hold different tags. -/
def tagsDiffer (x y : RequestSlot) : Bool :=
  match x.request, y.request with
  | some p, some q => decide (p.tag ≠ q.tag)
  | _, _ => true

/-- An ACTIVE slot holds a request of a long-running kind. -/
def activeKindOk (x : RequestSlot) : Bool :=
  match x with
  | .active q => q.kind == 0x21 || q.kind == 0x22 || q.kind == 0x38 || q.kind == 0x39
  | _ => true

/-- A refusal entry holds TAG_CONFLICT or BUSY. -/
def refusalOk (e : ReplyEntry) : Bool :=
  match e with
  | .refusal _ _ status => decide (status = .tagConflict ∨ status = .busy)
  | .slot _ => true

/-- The test of `RequestLaws`. -/
def requestsOk (s : State) : Bool :=
  decide (∀ i : SlotId, (s.slot i).holds 0 = false) &&
  (decide (∀ i j : SlotId, i = j ∨ tagsDiffer (s.slot i) (s.slot j) = true) &&
  (decide (s.requests.order.Nodup ∧ (∀ i : SlotId, i ∈ s.requests.order ↔ (s.slot i).isDone = true) ∧
      (slotEntries s.link.replies).Nodup ∧
      (∀ i : SlotId, ReplyEntry.slot i ∈ s.link.replies → (s.slot i).isDone = true) ∧
      s.link.replies.countP ReplyEntry.isRefusal ≤ 4 ∧ (∀ e ∈ s.link.replies, refusalOk e = true)) &&
  decide (∀ i : SlotId, activeKindOk (s.slot i) = true)))

theorem requestLaws_of {s : State} (h : requestsOk s = true) : RequestLaws s := by
  simp only [requestsOk, Bool.and_eq_true, decide_eq_true_eq] at h
  obtain ⟨h1, h2, ⟨h3, h4, h5, h6, h7, h8⟩, h9⟩ := h
  refine ⟨fun i q hq ht => ?_, fun i j p q hp hq ht => ?_, h3, h4, h5, h6, h7, fun tag kind status hm => ?_,
    fun i q hq => ?_⟩
  · have := h1 i
    simp [RequestSlot.holds, hq, ht] at this
  · rcases h2 i j with e | e
    · exact e
    · simp [tagsDiffer, hp, hq, ht] at e
  · simpa [refusalOk] using h8 _ hm
  · have := h9 i
    simpa [activeKindOk, hq, longRunning, RequestKind.code, or_assoc] using this

/-- The test of `RestartLaws`. -/
def restartOk (s : State) : Bool :=
  decide (∀ i j : SlotId, (s.slot i).isRestartOk = true → (s.slot j).isRestartOk = true → i = j) &&
  (decide (∀ i : SlotId, (s.slot i).isRestartOk = true → s.store.restartPending = true) &&
  (decide (s.line = .running → s.restartOnLine = true → s.store.restartPending = true) &&
  (decide (s.line = .running → s.store.restartPending = true →
    s.restartOnLine = true ∨ ∃ i : SlotId, (s.slot i).isRestartOk = true ∧ ReplyEntry.slot i ∈ s.link.replies) &&
  decide (s.store.restartPending = true → s.store.activity = .idle))))

theorem restartLaws_of {s : State} (h : restartOk s = true) : RestartLaws s := by
  simp only [restartOk, Bool.and_eq_true, decide_eq_true_eq] at h
  exact ⟨h.1, h.2.1, h.2.2.1, h.2.2.2.1, h.2.2.2.2⟩

/-! ## Lanes -/

/-- A module type and lamp count are in range, if known. -/
def knownOk (m : Option ModuleId) : Bool :=
  match m with
  | some m => decide (0x01#8 ≤ m.moduleType ∧ m.moduleType ≤ 0x7F#8 ∧ m.lampCount ≤ 0x10#8)
  | none => true

/-- A byte that may stand in the slot does, if any. -/
def slotByteOk (b : Option Byte) : Bool :=
  match b with
  | some b => decide (b ∉ [0xB4#8, 0xB5, 0xBE, 0xBF])
  | none => true

/-- The test of `PhaseLaws`. -/
def phaseOk (x : Lane) : Bool :=
  decide ((x.startStep.isSome ↔ x.phase = .starting) ∧ (x.slot.isSome → x.phase = .running) ∧
    (x.probeDue.isSome → x.phase = .absent) ∧ (x.helloDeadline.isSome ↔ x.startStep = some .waitHello) ∧
    x.failures < 3 ∧ (x.failures ≠ 0 → x.phase = .running) ∧ (x.waiters ≠ [] → x.phase = .running) ∧
    (x.known.isSome ↔ x.phase = .running ∨ x.phase = .mismatch ∨ x.startStep = some .enable)) &&
    (knownOk x.known && slotByteOk x.slot)

theorem phaseLaws_of {x : Lane} (h : phaseOk x = true) : PhaseLaws x := by
  simp only [phaseOk, Bool.and_eq_true, decide_eq_true_eq] at h
  obtain ⟨⟨h1, h2, h3, h4, h5, h6, h7, h8⟩, h9, h10⟩ := h
  refine ⟨h1, h2, fun b hb => ?_, h3, h4, h5, h6, h7, h8, fun m hm => by simpa [knownOk, hm] using h9⟩
  rw [hb] at h10
  exact of_decide_eq_true h10

/-- The test of `ListLaws`. -/
def listOk (x : Lane) : Bool :=
  decide ((∀ e ∈ x.list, e.originOk = true ∧ e.mayWait x.phase x.startStep = true) ∧
    x.list.countP (fun e => e.request.isSome) ≤ 2 ∧ x.list.countP (fun e => decide (e.kind = .lamp)) ≤ 1 ∧
    x.list.countP (fun e => decide (e = ⟨.rescan, none⟩)) ≤ 1 ∧ x.list.countP (·.isStartUp) ≤ 1 ∧ x.list.length ≤ 4)

theorem listLaws_of {x : Lane} (h : listOk x = true) : ListLaws x := by
  simp only [listOk, decide_eq_true_eq] at h
  exact ⟨h.1, h.2.1, h.2.2.1, h.2.2.2.1, h.2.2.2.2.1, h.2.2.2.2.2⟩

/-- The test of `WireLaws`. -/
def wireOk (x : Lane) : Bool :=
  decide ((x.exchange.isSome ↔ x.activity = .sending ∨ x.activity = .awaiting) ∧
    (x.frame.isSome → x.activity = .receiving ∨ x.activity = .awaiting) ∧
    (x.activity = .receiving → x.frame.isSome) ∧ (x.activity = .idle → x.slot = none) ∧
    (x.activity = .held → x.slot.isSome) ∧ (x.activity = .off → x.phase = .disabled) ∧
    (x.phase = .disabled → x.activity = .off ∨ x.activity = .receiving))

theorem wireLaws_of {x : Lane} (h : wireOk x = true) : WireLaws x := by
  simp only [wireOk, decide_eq_true_eq] at h
  exact ⟨h.1, h.2.1, h.2.2.1, h.2.2.2.1, h.2.2.2.2.1, h.2.2.2.2.2.1, h.2.2.2.2.2.2⟩

/-- An entry is carried out with a command. -/
def carriedOk (e : Entry) (command : ModuleCommand) (sent : Option (Half × Word)) : Bool :=
  match sent with
  | some (image, _) => decide (command = e.command image)
  | none => decide (e.kind ≠ .lamp ∧ command = e.command 0)

theorem carriedBy_of {e : Entry} {c : ModuleCommand} {sent : Option (Half × Word)} (h : carriedOk e c sent = true) :
    e.carriedBy c sent := by
  unfold carriedOk at h
  unfold Entry.carriedBy
  split at h <;> simpa using h

/-- The test of `ExchangeLaws`. -/
def exchangeOk (x : Lane) (ex : Exchange) : Bool :=
  decide (1 ≤ ex.attempt ∧ ex.attempt ≤ 3) && (decide (ex.byteIndex < ex.command.bytes.length ∧
    (x.activity = .sending → ex.due = []) ∧
    (x.activity = .awaiting → ex.due ≠ [] ∧ ex.due <:+ ex.command.positions) ∧
    (ex.due = [.lampCount] → 0x01#8 ≤ ex.typeTaken ∧ ex.typeTaken ≤ 0x7F#8) ∧
    (x.inProgress.isSome ↔ ex.command ≠ .resend) ∧
    (∀ e ∈ x.inProgress, carriedOk e ex.command x.sent = true) ∧
    (ex.command = .resend → x.parityCount = some 1 ∨ x.parityCount = some 2) ∧
    (ex.command ≠ .resend → x.parityCount = none) ∧
    (ex.command = .resend → x.phase = .running ∨ x.phase = .starting ∨ x.phase = .mismatch)))

theorem exchangeLaws_of {x : Lane} {ex : Exchange} (h : exchangeOk x ex = true) : ExchangeLaws x ex := by
  simp only [exchangeOk, Bool.and_eq_true, decide_eq_true_eq] at h
  obtain ⟨h1, h2, h3, h4, h5, h6, h7, h8, h9, h10⟩ := h
  exact ⟨h1, h2, h3, h4, h5, h6, fun e he => carriedBy_of (h7 e he), h8, h9, h10⟩

/-- The test of `LampLaws`. -/
def lampsOk (x : Lane) : Bool :=
  implies (decide (x.phase = .running ∧ x.hasLampEntry = false))
    (match x.sent with
    | none => decide (x.acked = x.desired ∧ x.ackedVersion = x.desiredVersion ∧ x.waiters = [])
    | some (image, version) => decide (image = x.desired ∧ version = x.desiredVersion))

theorem lampLaws_of {x : Lane} (h : lampsOk x = true) : LampLaws x := by
  refine ⟨fun hp hl hs => ?_, fun hp hl image version hs => ?_⟩
  · simpa [hs] using implies_of h (by simp [hp, hl])
  · simpa [hs] using implies_of h (by simp [hp, hl])

/-- The test of `LaneLaws`. -/
def laneOk (x : Lane) : Bool :=
  phaseOk x && (listOk x && (wireOk x && (decide (∀ ex ∈ x.exchange, exchangeOk x ex = true) &&
    (decide (x.exchange = none → x.inProgress = none ∧ x.parityCount = none) &&
    (decide (∀ e ∈ x.inProgress, e.originOk = true ∧ e.mayRun x.phase x.startStep = true) &&
    (decide (x.sent.isSome ↔ x.inProgress.map (·.kind) = some .lamp) && lampsOk x))))))

theorem laneLaws_of {x : Lane} (h : laneOk x = true) : LaneLaws x := by
  simp only [laneOk, Bool.and_eq_true, decide_eq_true_eq] at h
  obtain ⟨h1, h2, h3, h4, h5, h6, h7, h8⟩ := h
  refine ⟨phaseLaws_of h1, listLaws_of h2, wireLaws_of h3, fun ex he => exchangeLaws_of (h4 ex he), h5, h6, ?_,
    lampLaws_of h8⟩
  rw [h7]
  cases hx : x.inProgress <;> simp

/-! ## Waiting requests, images, store, controls, settings -/

/-- The test of `NoRequestForgotten`. -/
def owedOk (s : State) : Bool :=
  decide (s.line = .running → (owedSlots s).Nodup ∧ ∀ i : SlotId, i ∈ owedSlots s ↔ (s.slot i).isActive = true)

/-- One thing holds of each of the three banks. -/
def eachBank (p : BankName → Bool) : Bool := p .a && (p .b && p .c)

theorem eachBank_of {p : BankName → Bool} (h : eachBank p = true) (n : BankName) : p n = true := by
  simp only [eachBank, Bool.and_eq_true] at h
  cases n
  · exact h.1
  · exact h.2.1
  · exact h.2.2

/-- The test of `ImageLaws`. -/
def imagesOk (s : State) : Bool :=
  decide s.config.working.wf && (decide s.config.storeCopy.wf && (decide s.store.image.wf &&
    (decide (∀ c ∈ s.store.commit, c.snapshot.wf) &&
    (eachBank (fun n => decide (s.store.banks.get n).wf) &&
    decide (s.config.dirty = true ↔ s.config.working ≠ s.config.storeCopy)))))

theorem imageLaws_of {s : State} (h : imagesOk s = true) : ImageLaws s := by
  simp only [imagesOk, Bool.and_eq_true, decide_eq_true_eq] at h
  obtain ⟨h1, h2, h3, h4, h5, h6⟩ := h
  exact ⟨h1, h2, h3, h4, fun n => of_decide_eq_true (eachBank_of h5 n), h6⟩

/-- The test of what the bank in progress and the commit context hold. -/
def writeOk (s : State) (w : BankWrite) : Bool :=
  decide ((s.store.views.get w.bank).standing = some .invalid ∧ (w.origin = .commit → s.store.commit.isSome) ∧
    (∀ c ∈ s.store.commit, c.good ≤ (if w.origin = .repair then 0 else w.bank.before)) ∧
    (w.origin = .repair → s.store.generation ≠ 0))

/-- The test of `StoreLaws`. -/
def storeOk (s : State) : Bool :=
  decide ((s.store.activity = .voting ↔ s.config.mode = .startup) ∧
    (s.store.commit.isSome ↔ s.store.activity = .committing) ∧
    (s.line = .running →
      (s.store.write.isSome ↔ s.store.activity = .repairing ∨ s.store.activity = .committing)) ∧
    (s.store.write.isSome → s.store.activity = .repairing ∨ s.store.activity = .committing) ∧
    (∀ w ∈ s.store.write, writeOk s w = true) ∧ (∀ c ∈ s.store.commit, c.generation ≠ 0)) &&
  eachBank fun n =>
    decide (s.store.activity ≠ .voting → (s.store.views.get n).standing.isSome) &&
    decide ((s.store.views.get n).standing = some .valid → (s.store.banks.get n).readsValid = true ∧
      (s.store.views.get n).generation = (s.store.banks.get n).generation)

theorem storeLaws_of {s : State} (h : storeOk s = true) : StoreLaws s := by
  simp only [storeOk, Bool.and_eq_true, decide_eq_true_eq] at h
  obtain ⟨⟨h1, h2, h3, h4, h5, h6⟩, h7⟩ := h
  have hw : ∀ w, s.store.write = some w → writeOk s w = true := h5
  have hb := fun n => eachBank_of h7 n
  simp only [Bool.and_eq_true, decide_eq_true_eq] at hb
  simp only [writeOk, decide_eq_true_eq] at hw
  refine ⟨h1, h2, h3, h4, fun w e => (hw w e).1, fun w e => (hw w e).2.1, fun w c e ec => ?_,
    fun ha n => (hb n).1 ha, fun n => (hb n).2, fun w e => (hw w e).2.2.2, h6⟩
  have := (hw w e).2.2.1 c ec
  cases ho : w.origin <;> simpa [ho] using this

/-- The test of what one defined control holds. -/
def controlOk (s : State) (e : ControlId × ControlDef) : Bool :=
  decide (((s.control e.1).physical = .unknown ↔ ¬(s.config.mode = .run ∧ s.boundRunning e.1 = true)) ∧
    ((s.control e.1).latched = true → e.2.kind = .toggle))

/-- The selected member of a group is a defined MEMBER of it. -/
def selectedOk (s : State) (g : GroupId) : Bool :=
  match s.selection g with
  | some c => decide ((s.definition c).map (·.kind) = some (.member g))
  | none => true

/-- The test of `ControlLaws`. -/
def controlsOk (s : State) : Bool :=
  decide (s.table.entries.map (·.1) = s.config.working.controls.map (·.1) ∧ sortedKeys s.config.working.controls ∧
    (∀ e ∈ s.config.working.controls, controlOk s e = true) ∧ (∀ g : GroupId, selectedOk s g = true)) &&
  (decide (∀ l : LaneId, (s.lane l).slot.isSome → (s.lane l).phase = .running) &&
  decide ((s.config.mode = .startup →
      s.config.working.controls = [] ∧ ∀ l : LaneId, (s.lane l).phase = .disabled) ∧
    (s.store.activity = .voting ↔ s.config.mode = .startup) ∧
    (s.store.activity = .voting → s.store.write = none ∧ s.store.commit = none)))

theorem controlLaws_of {s : State} (h : controlsOk s = true) : ControlLaws s := by
  simp only [controlsOk, Bool.and_eq_true, decide_eq_true_eq] at h
  obtain ⟨⟨h1, h2, h3, h4⟩, h5, h6, h7, h8⟩ := h
  have hd : ∀ c d, s.definition c = some d → controlOk s (c, d) = true := fun c d e =>
    h3 _ (mem_of_lookupKey e)
  simp only [controlOk, decide_eq_true_eq] at hd
  refine ⟨h1, h2, fun c d e => (hd c d e).1, fun c d e => (hd c d e).2, fun g c hc => ?_, h5, h6, h7, h8⟩
  have hk := h4 g
  simp only [selectedOk, hc, decide_eq_true_eq] at hk
  cases hx : s.definition c with
  | none => simp [hx] at hk
  | some d => exact ⟨d, rfl, by simpa [hx] using hk⟩

/-- The test of `SettingLaws`. -/
def settingsOk (s : State) : Bool :=
  decide (∀ l : LaneId,
    (s.config.mode ≠ .startup → ((s.lane l).phase = .disabled ↔ (s.config.working.lanes[l]).enabled = false)) ∧
    ((s.lane l).phase = .running → matchesType (s.expectedType l) (s.lane l).known = true) ∧
    ((s.lane l).phase = .mismatch → matchesType (s.expectedType l) (s.lane l).known = false) ∧
    (s.delivery.state = .off → (s.lane l).statusWanted = false))

theorem settingLaws_of {s : State} (h : settingsOk s = true) : SettingLaws s := by
  simp only [settingsOk, decide_eq_true_eq] at h
  exact ⟨fun hm l => (h l).1 hm, fun l => (h l).2.1, fun l => (h l).2.2.1, fun hd l => (h l).2.2.2 hd⟩

/-- The test of `SafeState`: every test above. -/
def safeOk (s : State) : Bool :=
  deliveryOk s && requestsOk s && restartOk s && decide (∀ l : LaneId, laneOk (s.lane l) = true) && owedOk s &&
    imagesOk s && storeOk s && controlsOk s && settingsOk s

/-- A state that passes every test is safe. -/
theorem safeState_of {s : State} (h : safeOk s = true) : SafeState s := by
  simp only [safeOk, Bool.and_eq_true, decide_eq_true_eq] at h
  obtain ⟨⟨⟨⟨⟨⟨⟨⟨delivery, requests⟩, restart⟩, lanes⟩, owed⟩, images⟩, store⟩, controls⟩, settings⟩ := h
  exact
    { delivery := deliveryLaws_of delivery
      requests := requestLaws_of requests
      restart := restartLaws_of restart
      lanes := fun _ l => laneLaws_of (lanes l)
      owed := fun running => of_decide_eq_true owed running
      images := imageLaws_of images
      store := storeLaws_of store
      controls := controlLaws_of controls
      settings := settingLaws_of settings }

/-! ## Taken requests -/

/-- The test of `TakenIn`. -/
def takenOk (s : State) (tag kind : Byte) (body : List Byte) (i : SlotId) : Bool :=
  decide (s.line = .running ∧ tag ≠ 0) &&
    (decide (s.slotHolding tag = none ∧ s.chosenSlot = some i) ||
      (decide (s.slotHolding tag = some i) &&
        match s.slot i with
        | .done q _ => decide (q.check ≠ bodyCheck kind body)
        | _ => false))

theorem takenIn_of {s : State} {tag kind : Byte} {body : List Byte} {i : SlotId}
    (h : takenOk s tag kind body i = true) : TakenIn s tag kind body i := by
  simp only [takenOk, Bool.and_eq_true, Bool.or_eq_true, decide_eq_true_eq] at h
  obtain ⟨⟨h1, h2⟩, h3⟩ := h
  refine ⟨h1, h2, h3.imp id fun ⟨h4, h5⟩ => ⟨h4, ?_⟩⟩
  split at h5
  · next q r e => exact ⟨q, r, e, by simpa using h5⟩
  · cases h5

end Sys2Proof.Machine
end

