-- ==== Sys2Proof/Laws/Codes.lean ====
section
/-! SUPPORT. Laws of the bits: the order of a bank's bits, its check code, and the bytes of the host line. -/

namespace Sys2Proof.Machine

/-- The order in which the CRC takes bits drops none and repeats none. -/
theorem inStoredOrder_perm (bits : List Bool) : (inStoredOrder bits).Perm bits := by
  simpa [inStoredOrder, Function.comp_def] using Equiv.Perm.ofFn_comp_perm (Config.storedOrder bits.length) bits.get

@[simp] theorem inStoredOrder_length (bits : List Bool) : (inStoredOrder bits).length = bits.length :=
  (inStoredOrder_perm bits).length_eq

@[simp] theorem dataBits_length (b : Byte) : (dataBits b).length = 8 := by simp [dataBits]

/-- The generation gives the first 32 bits of a bank's check code (R149). -/
theorem bankBits_generation (generation : Word) (content : ConfigImage) :
    ((bankBits generation content).take 32).Perm ((be32 generation).flatMap dataBits) := by
  have h : (inStoredOrder ((be32 generation).flatMap dataBits)).length = 32 := by simp [be32]
  rw [bankBits, ← h, List.take_left]
  exact inStoredOrder_perm _

/-- After the generation, every bit of the content is taken (R149). -/
theorem bankBits_content (generation : Word) (content : ConfigImage) :
    ((bankBits generation content).drop 32).Perm ((contentBytes content).flatMap dataBits) := by
  have h : (inStoredOrder ((be32 generation).flatMap dataBits)).length = 32 := by simp [be32]
  rw [bankBits, ← h, List.drop_left]
  exact inStoredOrder_perm _

/-- The check code a bank holds verifies exactly when its difference from the code computed afresh is 0 (log 9). -/
theorem bankCheckCode_verifies (b : StoredBank) :
    bankCheckCode b = freshCheckCode b.generation b.content ↔ b.checkError = 0 := by
  simp [bankCheckCode]

@[simp] theorem hostByteBits_length (b : Byte) (stop : Bool) : (hostByteBits b stop).length = 10 := by
  simp [hostByteBits]

/-- Ten bits with stop bit 1 for every byte of a frame on HTXD (R167). -/
theorem HostFrame.lineBits_length (f : HostFrame) : f.lineBits.length = 10 * f.wire.length := by
  simp [HostFrame.lineBits, Nat.mul_comm]

/-- The ten bits of a byte on the host line are received as that byte and that stop bit (R167). -/
theorem receivedByte_hostByteBits (b : Byte) (stop : Bool) : receivedByte (hostByteBits b stop) = some (b, stop) := by
  revert b stop; decide +kernel

end Sys2Proof.Machine
end

