-- ==== Sys2Proof/Laws/State.lean ====
section
/-! SUPPORT. What each named update of the state leaves unchanged, one lemma for each field, and what it
makes of the field it changes. -/

namespace Sys2Proof.Machine

/-! ### State.setLane -/

@[simp] theorem State.setLane_time (s : State) (l : LaneId) (x : Lane) : (s.setLane l x).time = s.time := rfl
@[simp] theorem State.setLane_line (s : State) (l : LaneId) (x : Lane) : (s.setLane l x).line = s.line := rfl
@[simp] theorem State.setLane_translator (s : State) (l : LaneId) (x : Lane) : (s.setLane l x).translator = s.translator := rfl
@[simp] theorem State.setLane_table (s : State) (l : LaneId) (x : Lane) : (s.setLane l x).table = s.table := rfl
@[simp] theorem State.setLane_queue (s : State) (l : LaneId) (x : Lane) : (s.setLane l x).queue = s.queue := rfl
@[simp] theorem State.setLane_delivery (s : State) (l : LaneId) (x : Lane) : (s.setLane l x).delivery = s.delivery := rfl
@[simp] theorem State.setLane_link (s : State) (l : LaneId) (x : Lane) : (s.setLane l x).link = s.link := rfl
@[simp] theorem State.setLane_requests (s : State) (l : LaneId) (x : Lane) : (s.setLane l x).requests = s.requests := rfl
@[simp] theorem State.setLane_config (s : State) (l : LaneId) (x : Lane) : (s.setLane l x).config = s.config := rfl
@[simp] theorem State.setLane_store (s : State) (l : LaneId) (x : Lane) : (s.setLane l x).store = s.store := rfl
@[simp] theorem State.setLane_pending (s : State) (l : LaneId) (x : Lane) : (s.setLane l x).pending = s.pending := rfl

/-! ### State.modLane -/

@[simp] theorem State.modLane_time (s : State) (l : LaneId) (f : Lane → Lane) : (s.modLane l f).time = s.time := rfl
@[simp] theorem State.modLane_line (s : State) (l : LaneId) (f : Lane → Lane) : (s.modLane l f).line = s.line := rfl
@[simp] theorem State.modLane_translator (s : State) (l : LaneId) (f : Lane → Lane) : (s.modLane l f).translator = s.translator := rfl
@[simp] theorem State.modLane_table (s : State) (l : LaneId) (f : Lane → Lane) : (s.modLane l f).table = s.table := rfl
@[simp] theorem State.modLane_queue (s : State) (l : LaneId) (f : Lane → Lane) : (s.modLane l f).queue = s.queue := rfl
@[simp] theorem State.modLane_delivery (s : State) (l : LaneId) (f : Lane → Lane) : (s.modLane l f).delivery = s.delivery := rfl
@[simp] theorem State.modLane_link (s : State) (l : LaneId) (f : Lane → Lane) : (s.modLane l f).link = s.link := rfl
@[simp] theorem State.modLane_requests (s : State) (l : LaneId) (f : Lane → Lane) : (s.modLane l f).requests = s.requests := rfl
@[simp] theorem State.modLane_config (s : State) (l : LaneId) (f : Lane → Lane) : (s.modLane l f).config = s.config := rfl
@[simp] theorem State.modLane_store (s : State) (l : LaneId) (f : Lane → Lane) : (s.modLane l f).store = s.store := rfl
@[simp] theorem State.modLane_pending (s : State) (l : LaneId) (f : Lane → Lane) : (s.modLane l f).pending = s.pending := rfl

/-! ### State.mapLanes -/

@[simp] theorem State.mapLanes_time (s : State) (f : LaneId → Lane → Lane) : (s.mapLanes f).time = s.time := rfl
@[simp] theorem State.mapLanes_line (s : State) (f : LaneId → Lane → Lane) : (s.mapLanes f).line = s.line := rfl
@[simp] theorem State.mapLanes_translator (s : State) (f : LaneId → Lane → Lane) : (s.mapLanes f).translator = s.translator := rfl
@[simp] theorem State.mapLanes_table (s : State) (f : LaneId → Lane → Lane) : (s.mapLanes f).table = s.table := rfl
@[simp] theorem State.mapLanes_queue (s : State) (f : LaneId → Lane → Lane) : (s.mapLanes f).queue = s.queue := rfl
@[simp] theorem State.mapLanes_delivery (s : State) (f : LaneId → Lane → Lane) : (s.mapLanes f).delivery = s.delivery := rfl
@[simp] theorem State.mapLanes_link (s : State) (f : LaneId → Lane → Lane) : (s.mapLanes f).link = s.link := rfl
@[simp] theorem State.mapLanes_requests (s : State) (f : LaneId → Lane → Lane) : (s.mapLanes f).requests = s.requests := rfl
@[simp] theorem State.mapLanes_config (s : State) (f : LaneId → Lane → Lane) : (s.mapLanes f).config = s.config := rfl
@[simp] theorem State.mapLanes_store (s : State) (f : LaneId → Lane → Lane) : (s.mapLanes f).store = s.store := rfl
@[simp] theorem State.mapLanes_pending (s : State) (f : LaneId → Lane → Lane) : (s.mapLanes f).pending = s.pending := rfl

/-! ### State.setControl -/

@[simp] theorem State.setControl_time (s : State) (c : ControlId) (x : ControlState) : (s.setControl c x).time = s.time := rfl
@[simp] theorem State.setControl_line (s : State) (c : ControlId) (x : ControlState) : (s.setControl c x).line = s.line := rfl
@[simp] theorem State.setControl_lanes (s : State) (c : ControlId) (x : ControlState) : (s.setControl c x).lanes = s.lanes := rfl
@[simp] theorem State.setControl_translator (s : State) (c : ControlId) (x : ControlState) : (s.setControl c x).translator = s.translator := rfl
@[simp] theorem State.setControl_queue (s : State) (c : ControlId) (x : ControlState) : (s.setControl c x).queue = s.queue := rfl
@[simp] theorem State.setControl_delivery (s : State) (c : ControlId) (x : ControlState) : (s.setControl c x).delivery = s.delivery := rfl
@[simp] theorem State.setControl_link (s : State) (c : ControlId) (x : ControlState) : (s.setControl c x).link = s.link := rfl
@[simp] theorem State.setControl_requests (s : State) (c : ControlId) (x : ControlState) : (s.setControl c x).requests = s.requests := rfl
@[simp] theorem State.setControl_config (s : State) (c : ControlId) (x : ControlState) : (s.setControl c x).config = s.config := rfl
@[simp] theorem State.setControl_store (s : State) (c : ControlId) (x : ControlState) : (s.setControl c x).store = s.store := rfl
@[simp] theorem State.setControl_pending (s : State) (c : ControlId) (x : ControlState) : (s.setControl c x).pending = s.pending := rfl

/-! ### State.mapControls -/

@[simp] theorem State.mapControls_time (s : State) (f : ControlId → ControlState → ControlState) : (s.mapControls f).time = s.time := rfl
@[simp] theorem State.mapControls_line (s : State) (f : ControlId → ControlState → ControlState) : (s.mapControls f).line = s.line := rfl
@[simp] theorem State.mapControls_lanes (s : State) (f : ControlId → ControlState → ControlState) : (s.mapControls f).lanes = s.lanes := rfl
@[simp] theorem State.mapControls_translator (s : State) (f : ControlId → ControlState → ControlState) : (s.mapControls f).translator = s.translator := rfl
@[simp] theorem State.mapControls_queue (s : State) (f : ControlId → ControlState → ControlState) : (s.mapControls f).queue = s.queue := rfl
@[simp] theorem State.mapControls_delivery (s : State) (f : ControlId → ControlState → ControlState) : (s.mapControls f).delivery = s.delivery := rfl
@[simp] theorem State.mapControls_link (s : State) (f : ControlId → ControlState → ControlState) : (s.mapControls f).link = s.link := rfl
@[simp] theorem State.mapControls_requests (s : State) (f : ControlId → ControlState → ControlState) : (s.mapControls f).requests = s.requests := rfl
@[simp] theorem State.mapControls_config (s : State) (f : ControlId → ControlState → ControlState) : (s.mapControls f).config = s.config := rfl
@[simp] theorem State.mapControls_store (s : State) (f : ControlId → ControlState → ControlState) : (s.mapControls f).store = s.store := rfl
@[simp] theorem State.mapControls_pending (s : State) (f : ControlId → ControlState → ControlState) : (s.mapControls f).pending = s.pending := rfl

/-! ### State.setSelection -/

@[simp] theorem State.setSelection_time (s : State) (g : GroupId) (c : Option ControlId) : (s.setSelection g c).time = s.time := rfl
@[simp] theorem State.setSelection_line (s : State) (g : GroupId) (c : Option ControlId) : (s.setSelection g c).line = s.line := rfl
@[simp] theorem State.setSelection_lanes (s : State) (g : GroupId) (c : Option ControlId) : (s.setSelection g c).lanes = s.lanes := rfl
@[simp] theorem State.setSelection_translator (s : State) (g : GroupId) (c : Option ControlId) : (s.setSelection g c).translator = s.translator := rfl
@[simp] theorem State.setSelection_queue (s : State) (g : GroupId) (c : Option ControlId) : (s.setSelection g c).queue = s.queue := rfl
@[simp] theorem State.setSelection_delivery (s : State) (g : GroupId) (c : Option ControlId) : (s.setSelection g c).delivery = s.delivery := rfl
@[simp] theorem State.setSelection_link (s : State) (g : GroupId) (c : Option ControlId) : (s.setSelection g c).link = s.link := rfl
@[simp] theorem State.setSelection_requests (s : State) (g : GroupId) (c : Option ControlId) : (s.setSelection g c).requests = s.requests := rfl
@[simp] theorem State.setSelection_config (s : State) (g : GroupId) (c : Option ControlId) : (s.setSelection g c).config = s.config := rfl
@[simp] theorem State.setSelection_store (s : State) (g : GroupId) (c : Option ControlId) : (s.setSelection g c).store = s.store := rfl
@[simp] theorem State.setSelection_pending (s : State) (g : GroupId) (c : Option ControlId) : (s.setSelection g c).pending = s.pending := rfl

/-! ### State.writeLamps -/

@[simp] theorem State.writeLamps_time (s : State) (h : List (LampPosition × Bool)) : (s.writeLamps h).time = s.time := rfl
@[simp] theorem State.writeLamps_line (s : State) (h : List (LampPosition × Bool)) : (s.writeLamps h).line = s.line := rfl
@[simp] theorem State.writeLamps_translator (s : State) (h : List (LampPosition × Bool)) : (s.writeLamps h).translator = s.translator := rfl
@[simp] theorem State.writeLamps_table (s : State) (h : List (LampPosition × Bool)) : (s.writeLamps h).table = s.table := rfl
@[simp] theorem State.writeLamps_queue (s : State) (h : List (LampPosition × Bool)) : (s.writeLamps h).queue = s.queue := rfl
@[simp] theorem State.writeLamps_delivery (s : State) (h : List (LampPosition × Bool)) : (s.writeLamps h).delivery = s.delivery := rfl
@[simp] theorem State.writeLamps_link (s : State) (h : List (LampPosition × Bool)) : (s.writeLamps h).link = s.link := rfl
@[simp] theorem State.writeLamps_requests (s : State) (h : List (LampPosition × Bool)) : (s.writeLamps h).requests = s.requests := rfl
@[simp] theorem State.writeLamps_config (s : State) (h : List (LampPosition × Bool)) : (s.writeLamps h).config = s.config := rfl
@[simp] theorem State.writeLamps_store (s : State) (h : List (LampPosition × Bool)) : (s.writeLamps h).store = s.store := rfl
@[simp] theorem State.writeLamps_pending (s : State) (h : List (LampPosition × Bool)) : (s.writeLamps h).pending = s.pending := rfl

/-! ### settleLamps -/

@[simp] theorem settleLamps_time (before s : State) : (settleLamps before s).time = s.time := rfl
@[simp] theorem settleLamps_line (before s : State) : (settleLamps before s).line = s.line := rfl
@[simp] theorem settleLamps_translator (before s : State) : (settleLamps before s).translator = s.translator := rfl
@[simp] theorem settleLamps_table (before s : State) : (settleLamps before s).table = s.table := rfl
@[simp] theorem settleLamps_queue (before s : State) : (settleLamps before s).queue = s.queue := rfl
@[simp] theorem settleLamps_delivery (before s : State) : (settleLamps before s).delivery = s.delivery := rfl
@[simp] theorem settleLamps_link (before s : State) : (settleLamps before s).link = s.link := rfl
@[simp] theorem settleLamps_requests (before s : State) : (settleLamps before s).requests = s.requests := rfl
@[simp] theorem settleLamps_config (before s : State) : (settleLamps before s).config = s.config := rfl
@[simp] theorem settleLamps_store (before s : State) : (settleLamps before s).store = s.store := rfl
@[simp] theorem settleLamps_pending (before s : State) : (settleLamps before s).pending = s.pending := rfl

/-! ### State.setPrefix -/

@[simp] theorem State.setPrefix_time (s : State) (l : LaneId) (p : PrefixState) : (s.setPrefix l p).time = s.time := rfl
@[simp] theorem State.setPrefix_line (s : State) (l : LaneId) (p : PrefixState) : (s.setPrefix l p).line = s.line := rfl
@[simp] theorem State.setPrefix_lanes (s : State) (l : LaneId) (p : PrefixState) : (s.setPrefix l p).lanes = s.lanes := rfl
@[simp] theorem State.setPrefix_table (s : State) (l : LaneId) (p : PrefixState) : (s.setPrefix l p).table = s.table := rfl
@[simp] theorem State.setPrefix_queue (s : State) (l : LaneId) (p : PrefixState) : (s.setPrefix l p).queue = s.queue := rfl
@[simp] theorem State.setPrefix_delivery (s : State) (l : LaneId) (p : PrefixState) : (s.setPrefix l p).delivery = s.delivery := rfl
@[simp] theorem State.setPrefix_link (s : State) (l : LaneId) (p : PrefixState) : (s.setPrefix l p).link = s.link := rfl
@[simp] theorem State.setPrefix_requests (s : State) (l : LaneId) (p : PrefixState) : (s.setPrefix l p).requests = s.requests := rfl
@[simp] theorem State.setPrefix_config (s : State) (l : LaneId) (p : PrefixState) : (s.setPrefix l p).config = s.config := rfl
@[simp] theorem State.setPrefix_store (s : State) (l : LaneId) (p : PrefixState) : (s.setPrefix l p).store = s.store := rfl
@[simp] theorem State.setPrefix_pending (s : State) (l : LaneId) (p : PrefixState) : (s.setPrefix l p).pending = s.pending := rfl

/-! ### clearLearn -/

@[simp] theorem clearLearn_time (s : State) : (clearLearn s).time = s.time := rfl
@[simp] theorem clearLearn_line (s : State) : (clearLearn s).line = s.line := rfl
@[simp] theorem clearLearn_lanes (s : State) : (clearLearn s).lanes = s.lanes := rfl
@[simp] theorem clearLearn_table (s : State) : (clearLearn s).table = s.table := rfl
@[simp] theorem clearLearn_queue (s : State) : (clearLearn s).queue = s.queue := rfl
@[simp] theorem clearLearn_delivery (s : State) : (clearLearn s).delivery = s.delivery := rfl
@[simp] theorem clearLearn_link (s : State) : (clearLearn s).link = s.link := rfl
@[simp] theorem clearLearn_requests (s : State) : (clearLearn s).requests = s.requests := rfl
@[simp] theorem clearLearn_config (s : State) : (clearLearn s).config = s.config := rfl
@[simp] theorem clearLearn_store (s : State) : (clearLearn s).store = s.store := rfl
@[simp] theorem clearLearn_pending (s : State) : (clearLearn s).pending = s.pending := rfl

/-! ### setMode -/

@[simp] theorem setMode_time (s : State) (m : Mode) : (setMode s m).time = s.time := rfl
@[simp] theorem setMode_line (s : State) (m : Mode) : (setMode s m).line = s.line := rfl
@[simp] theorem setMode_lanes (s : State) (m : Mode) : (setMode s m).lanes = s.lanes := rfl
@[simp] theorem setMode_translator (s : State) (m : Mode) : (setMode s m).translator = s.translator := rfl
@[simp] theorem setMode_table (s : State) (m : Mode) : (setMode s m).table = s.table := rfl
@[simp] theorem setMode_queue (s : State) (m : Mode) : (setMode s m).queue = s.queue := rfl
@[simp] theorem setMode_delivery (s : State) (m : Mode) : (setMode s m).delivery = s.delivery := rfl
@[simp] theorem setMode_link (s : State) (m : Mode) : (setMode s m).link = s.link := rfl
@[simp] theorem setMode_requests (s : State) (m : Mode) : (setMode s m).requests = s.requests := rfl
@[simp] theorem setMode_store (s : State) (m : Mode) : (setMode s m).store = s.store := rfl
@[simp] theorem setMode_pending (s : State) (m : Mode) : (setMode s m).pending = s.pending := rfl

/-! ### setRx -/

@[simp] theorem setRx_time (s : State) (rx : Option Assembly) : (setRx s rx).time = s.time := rfl
@[simp] theorem setRx_line (s : State) (rx : Option Assembly) : (setRx s rx).line = s.line := rfl
@[simp] theorem setRx_lanes (s : State) (rx : Option Assembly) : (setRx s rx).lanes = s.lanes := rfl
@[simp] theorem setRx_translator (s : State) (rx : Option Assembly) : (setRx s rx).translator = s.translator := rfl
@[simp] theorem setRx_table (s : State) (rx : Option Assembly) : (setRx s rx).table = s.table := rfl
@[simp] theorem setRx_queue (s : State) (rx : Option Assembly) : (setRx s rx).queue = s.queue := rfl
@[simp] theorem setRx_delivery (s : State) (rx : Option Assembly) : (setRx s rx).delivery = s.delivery := rfl
@[simp] theorem setRx_requests (s : State) (rx : Option Assembly) : (setRx s rx).requests = s.requests := rfl
@[simp] theorem setRx_config (s : State) (rx : Option Assembly) : (setRx s rx).config = s.config := rfl
@[simp] theorem setRx_store (s : State) (rx : Option Assembly) : (setRx s rx).store = s.store := rfl
@[simp] theorem setRx_pending (s : State) (rx : Option Assembly) : (setRx s rx).pending = s.pending := rfl

/-! ### countDiscard -/

@[simp] theorem countDiscard_time (s : State) : (countDiscard s).time = s.time := rfl
@[simp] theorem countDiscard_line (s : State) : (countDiscard s).line = s.line := rfl
@[simp] theorem countDiscard_lanes (s : State) : (countDiscard s).lanes = s.lanes := rfl
@[simp] theorem countDiscard_translator (s : State) : (countDiscard s).translator = s.translator := rfl
@[simp] theorem countDiscard_table (s : State) : (countDiscard s).table = s.table := rfl
@[simp] theorem countDiscard_queue (s : State) : (countDiscard s).queue = s.queue := rfl
@[simp] theorem countDiscard_delivery (s : State) : (countDiscard s).delivery = s.delivery := rfl
@[simp] theorem countDiscard_requests (s : State) : (countDiscard s).requests = s.requests := rfl
@[simp] theorem countDiscard_config (s : State) : (countDiscard s).config = s.config := rfl
@[simp] theorem countDiscard_store (s : State) : (countDiscard s).store = s.store := rfl
@[simp] theorem countDiscard_pending (s : State) : (countDiscard s).pending = s.pending := rfl

/-! ### recomputeDirty -/

@[simp] theorem recomputeDirty_time (s : State) : (recomputeDirty s).time = s.time := rfl
@[simp] theorem recomputeDirty_line (s : State) : (recomputeDirty s).line = s.line := rfl
@[simp] theorem recomputeDirty_lanes (s : State) : (recomputeDirty s).lanes = s.lanes := rfl
@[simp] theorem recomputeDirty_translator (s : State) : (recomputeDirty s).translator = s.translator := rfl
@[simp] theorem recomputeDirty_table (s : State) : (recomputeDirty s).table = s.table := rfl
@[simp] theorem recomputeDirty_queue (s : State) : (recomputeDirty s).queue = s.queue := rfl
@[simp] theorem recomputeDirty_delivery (s : State) : (recomputeDirty s).delivery = s.delivery := rfl
@[simp] theorem recomputeDirty_link (s : State) : (recomputeDirty s).link = s.link := rfl
@[simp] theorem recomputeDirty_requests (s : State) : (recomputeDirty s).requests = s.requests := rfl
@[simp] theorem recomputeDirty_store (s : State) : (recomputeDirty s).store = s.store := rfl
@[simp] theorem recomputeDirty_pending (s : State) : (recomputeDirty s).pending = s.pending := rfl

/-! ### Lanes -/

theorem State.lane_setLane (s : State) (l k : LaneId) (x : Lane) :
    (s.setLane l x).lane k = if k = l then x else s.lane k := by
  unfold State.lane State.setLane
  by_cases h : k = l
  · subst h; simp
  · have : (l : Nat) ≠ k := fun e => h (Fin.ext e.symm)
    simp [h, Vector.getElem_set_ne, this]

@[simp] theorem State.lane_setLane_self (s : State) (l : LaneId) (x : Lane) : (s.setLane l x).lane l = x := by
  simp [State.lane_setLane]

theorem State.lane_setLane_ne (s : State) {l k : LaneId} (h : k ≠ l) (x : Lane) :
    (s.setLane l x).lane k = s.lane k := by
  simp [State.lane_setLane, h]

theorem State.lane_modLane (s : State) (l k : LaneId) (f : Lane → Lane) :
    (s.modLane l f).lane k = if k = l then f (s.lane k) else s.lane k := by
  unfold State.modLane
  rw [State.lane_setLane]
  split <;> simp_all

@[simp] theorem State.lane_modLane_self (s : State) (l : LaneId) (f : Lane → Lane) :
    (s.modLane l f).lane l = f (s.lane l) := by
  simp [State.lane_modLane]

theorem State.lane_modLane_ne (s : State) {l k : LaneId} (h : k ≠ l) (f : Lane → Lane) :
    (s.modLane l f).lane k = s.lane k := by
  simp [State.lane_modLane, h]

@[simp] theorem State.lane_mapLanes (s : State) (f : LaneId → Lane → Lane) (k : LaneId) :
    (s.mapLanes f).lane k = f k (s.lane k) := by
  simp [State.lane, State.mapLanes]

/-- Two states with the same lanes and the same other fields are equal. -/
theorem State.lanes_ext {a b : Vector Lane 8} (h : ∀ l : LaneId, a[l] = b[l]) : a = b := by
  apply Vector.ext
  intro i hi
  exact h ⟨i, hi⟩

@[simp] theorem State.lane_setControl (s : State) (c : ControlId) (x : ControlState) (k : LaneId) :
    (s.setControl c x).lane k = s.lane k := rfl

@[simp] theorem State.lane_mapControls (s : State) (f : ControlId → ControlState → ControlState) (k : LaneId) :
    (s.mapControls f).lane k = s.lane k := rfl

@[simp] theorem State.lane_setSelection (s : State) (g : GroupId) (c : Option ControlId) (k : LaneId) :
    (s.setSelection g c).lane k = s.lane k := rfl

@[simp] theorem State.lane_setPrefix (s : State) (l : LaneId) (p : PrefixState) (k : LaneId) :
    (s.setPrefix l p).lane k = s.lane k := rfl

/-- Writing handed lamp values changes desired images only, and only of lamps that FOLLOW (R123). -/
@[simp] theorem State.lane_writeLamps (s : State) (h : List (LampPosition × Bool)) (k : LaneId) :
    (s.writeLamps h).lane k =
      { s.lane k with desired := h.foldl (followWrite k (s.lane k).owners) (s.lane k).desired } := by
  simp [State.writeLamps]

@[simp] theorem lane_settleLamps (before s : State) (k : LaneId) :
    (settleLamps before s).lane k = settleLane (before.lane k) (s.lane k) := by
  simp [settleLamps]

/-! ### Slots of the Request Table under updates elsewhere -/

@[simp] theorem State.slot_setLane (s : State) (l : LaneId) (x : Lane) (i : SlotId) :
    (s.setLane l x).slot i = s.slot i := rfl

@[simp] theorem State.slot_modLane (s : State) (l : LaneId) (f : Lane → Lane) (i : SlotId) :
    (s.modLane l f).slot i = s.slot i := rfl

@[simp] theorem State.slot_mapLanes (s : State) (f : LaneId → Lane → Lane) (i : SlotId) :
    (s.mapLanes f).slot i = s.slot i := rfl

@[simp] theorem State.slot_settleLamps (before s : State) (i : SlotId) :
    (settleLamps before s).slot i = s.slot i := rfl

@[simp] theorem slot_recomputeDirty (s : State) (i : SlotId) : (recomputeDirty s).slot i = s.slot i := rfl

/-! ### Prefix states and selections -/

theorem State.prefixOf_setPrefix (s : State) (l k : LaneId) (p : PrefixState) :
    (s.setPrefix l p).prefixOf k = if k = l then p else s.prefixOf k := by
  unfold State.prefixOf State.setPrefix
  by_cases h : k = l
  · subst h; simp
  · have : (l : Nat) ≠ k := fun e => h (Fin.ext e.symm)
    simp [h, Vector.getElem_set_ne, this]

theorem State.selection_setSelection (s : State) (g k : GroupId) (c : Option ControlId) :
    (s.setSelection g c).selection k = if k = g then c else s.selection k := by
  unfold State.selection State.setSelection
  by_cases h : k = g
  · subst h; simp
  · have : (g : Nat) ≠ k := fun e => h (Fin.ext e.symm)
    simp [h, Vector.getElem_set_ne, this]

/-! ### The reset line -/

@[simp] theorem whenRunning_running {s : State} (h : s.line = .running) (f : State → State) :
    whenRunning s f = f s := by
  simp [whenRunning, h]

theorem whenRunning_held {s : State} (h : s.line ≠ .running) (f : State → State) : whenRunning s f = s := by
  unfold whenRunning
  split
  · contradiction
  · rfl

end Sys2Proof.Machine
end

