-- ==== Sys2Proof/Laws/Requests.lean ====
section
/-! SUPPORT. What completing, placing and refusing a request can do (R172, R180, R181, R183). -/

namespace Sys2Proof.Machine

/-! ### complete (R183) -/

/-- A completion of an ACTIVE slot, said once. -/
theorem complete_active {s : State} {i : SlotId} {q : RequestId} (h : s.slot i = .active q) (r : Reply) :
    complete s i r =
      { s with
        requests := ⟨s.requests.slots.set i (.done q r), s.requests.order ++ [i]⟩
        link := { s.link with replies := queueSlotEntry s.link.replies i } } := by
  simp [complete, h]

/-- A completion handed for a slot that is not ACTIVE is dropped (R183). -/
theorem complete_dropped {s : State} {i : SlotId} (h : ∀ q, s.slot i ≠ .active q) (r : Reply) :
    complete s i r = s := by
  unfold complete
  split
  · rename_i q hq
    exact absurd hq (h q)
  · rfl

/-- A completion touches the Request Table and the outgoing reply list and nothing else. -/
theorem complete_frame (s : State) (i : SlotId) (r : Reply) :
    ∃ req rep, complete s i r = { s with requests := req, link := { s.link with replies := rep } } := by
  unfold complete
  split
  · exact ⟨_, _, rfl⟩
  · exact ⟨s.requests, s.link.replies, rfl⟩

@[simp] theorem complete_time (s : State) (i : SlotId) (r : Reply) : (complete s i r).time = s.time := by
  obtain ⟨_, _, h⟩ := complete_frame s i r
  rw [h]

@[simp] theorem complete_line (s : State) (i : SlotId) (r : Reply) : (complete s i r).line = s.line := by
  obtain ⟨_, _, h⟩ := complete_frame s i r
  rw [h]

@[simp] theorem complete_lanes (s : State) (i : SlotId) (r : Reply) : (complete s i r).lanes = s.lanes := by
  obtain ⟨_, _, h⟩ := complete_frame s i r
  rw [h]

@[simp] theorem complete_translator (s : State) (i : SlotId) (r : Reply) : (complete s i r).translator = s.translator := by
  obtain ⟨_, _, h⟩ := complete_frame s i r
  rw [h]

@[simp] theorem complete_table (s : State) (i : SlotId) (r : Reply) : (complete s i r).table = s.table := by
  obtain ⟨_, _, h⟩ := complete_frame s i r
  rw [h]

@[simp] theorem complete_queue (s : State) (i : SlotId) (r : Reply) : (complete s i r).queue = s.queue := by
  obtain ⟨_, _, h⟩ := complete_frame s i r
  rw [h]

@[simp] theorem complete_delivery (s : State) (i : SlotId) (r : Reply) : (complete s i r).delivery = s.delivery := by
  obtain ⟨_, _, h⟩ := complete_frame s i r
  rw [h]

@[simp] theorem complete_config (s : State) (i : SlotId) (r : Reply) : (complete s i r).config = s.config := by
  obtain ⟨_, _, h⟩ := complete_frame s i r
  rw [h]

@[simp] theorem complete_store (s : State) (i : SlotId) (r : Reply) : (complete s i r).store = s.store := by
  obtain ⟨_, _, h⟩ := complete_frame s i r
  rw [h]

@[simp] theorem complete_pending (s : State) (i : SlotId) (r : Reply) : (complete s i r).pending = s.pending := by
  obtain ⟨_, _, h⟩ := complete_frame s i r
  rw [h]

@[simp] theorem complete_lane (s : State) (i : SlotId) (r : Reply) (l : LaneId) :
    (complete s i r).lane l = s.lane l := by
  simp [State.lane]

@[simp] theorem complete_tx (s : State) (i : SlotId) (r : Reply) : (complete s i r).link.tx = s.link.tx := by
  obtain ⟨_, _, h⟩ := complete_frame s i r
  rw [h]

@[simp] theorem complete_rx (s : State) (i : SlotId) (r : Reply) : (complete s i r).link.rx = s.link.rx := by
  obtain ⟨_, _, h⟩ := complete_frame s i r
  rw [h]

@[simp] theorem complete_discarded (s : State) (i : SlotId) (r : Reply) :
    (complete s i r).link.discarded = s.link.discarded := by
  obtain ⟨_, _, h⟩ := complete_frame s i r
  rw [h]

@[simp] theorem complete_baud (s : State) (i : SlotId) (r : Reply) :
    (complete s i r).link.baud = s.link.baud := by
  obtain ⟨_, _, h⟩ := complete_frame s i r
  rw [h]

/-- A slot other than the completed one is as it was. -/
theorem complete_slot_ne (s : State) {i j : SlotId} (h : j ≠ i) (r : Reply) :
    (complete s i r).slot j = s.slot j := by
  have hv : (i : Nat) ≠ j := fun e => h (Fin.ext e.symm)
  unfold complete
  split
  · simp [State.slot, Vector.getElem_set_ne, hv]
  · rfl

/-- The completed slot is DONE and holds its reply (R183). -/
theorem complete_slot_self {s : State} {i : SlotId} {q : RequestId} (h : s.slot i = .active q) (r : Reply) :
    (complete s i r).slot i = .done q r := by
  rw [complete_active h]
  simp [State.slot]

/-! ### completeAll -/

theorem completeAll_nil (s : State) (r : Reply) : completeAll s [] r = s := rfl

theorem completeAll_cons (s : State) (i : SlotId) (is : List SlotId) (r : Reply) :
    completeAll s (i :: is) r = completeAll (complete s i r) is r := rfl

/-- Several completions touch the Request Table and the outgoing reply list and nothing else. -/
theorem completeAll_frame (s : State) (is : List SlotId) (r : Reply) :
    ∃ req rep, completeAll s is r = { s with requests := req, link := { s.link with replies := rep } } := by
  induction is generalizing s with
  | nil => exact ⟨s.requests, s.link.replies, rfl⟩
  | cons i is ih =>
    obtain ⟨req, rep, h⟩ := ih (complete s i r)
    obtain ⟨req', rep', h'⟩ := complete_frame s i r
    exact ⟨req, rep, by rw [completeAll_cons, h, h']⟩

@[simp] theorem completeAll_time (s : State) (is : List SlotId) (r : Reply) :
    (completeAll s is r).time = s.time := by
  obtain ⟨_, _, h⟩ := completeAll_frame s is r
  rw [h]

@[simp] theorem completeAll_line (s : State) (is : List SlotId) (r : Reply) :
    (completeAll s is r).line = s.line := by
  obtain ⟨_, _, h⟩ := completeAll_frame s is r
  rw [h]

@[simp] theorem completeAll_lanes (s : State) (is : List SlotId) (r : Reply) :
    (completeAll s is r).lanes = s.lanes := by
  obtain ⟨_, _, h⟩ := completeAll_frame s is r
  rw [h]

@[simp] theorem completeAll_translator (s : State) (is : List SlotId) (r : Reply) :
    (completeAll s is r).translator = s.translator := by
  obtain ⟨_, _, h⟩ := completeAll_frame s is r
  rw [h]

@[simp] theorem completeAll_table (s : State) (is : List SlotId) (r : Reply) :
    (completeAll s is r).table = s.table := by
  obtain ⟨_, _, h⟩ := completeAll_frame s is r
  rw [h]

@[simp] theorem completeAll_queue (s : State) (is : List SlotId) (r : Reply) :
    (completeAll s is r).queue = s.queue := by
  obtain ⟨_, _, h⟩ := completeAll_frame s is r
  rw [h]

@[simp] theorem completeAll_delivery (s : State) (is : List SlotId) (r : Reply) :
    (completeAll s is r).delivery = s.delivery := by
  obtain ⟨_, _, h⟩ := completeAll_frame s is r
  rw [h]

@[simp] theorem completeAll_config (s : State) (is : List SlotId) (r : Reply) :
    (completeAll s is r).config = s.config := by
  obtain ⟨_, _, h⟩ := completeAll_frame s is r
  rw [h]

@[simp] theorem completeAll_store (s : State) (is : List SlotId) (r : Reply) :
    (completeAll s is r).store = s.store := by
  obtain ⟨_, _, h⟩ := completeAll_frame s is r
  rw [h]

@[simp] theorem completeAll_pending (s : State) (is : List SlotId) (r : Reply) :
    (completeAll s is r).pending = s.pending := by
  obtain ⟨_, _, h⟩ := completeAll_frame s is r
  rw [h]

@[simp] theorem completeAll_lane (s : State) (is : List SlotId) (r : Reply) (l : LaneId) :
    (completeAll s is r).lane l = s.lane l := by
  simp [State.lane]

/-! ### placeRequest and queueRefusal (R180, R181) -/

/-- Placing a request touches the Request Table, the outgoing reply list and restart pending only. -/
theorem placeRequest_frame (s : State) (i : SlotId) (q : RequestId) :
    ∃ req rep pend, placeRequest s i q =
      { s with requests := req, link := { s.link with replies := rep }, store := { s.store with restartPending := pend } } :=
  ⟨_, _, _, rfl⟩

/-- A placed request's slot is ACTIVE and holds it. -/
@[simp] theorem placeRequest_slot_self (s : State) (i : SlotId) (q : RequestId) :
    (placeRequest s i q).slot i = .active q := by
  simp [placeRequest, dropSlotEntry, State.slot]

/-- Every other slot is as it was. -/
theorem placeRequest_slot_ne (s : State) {i j : SlotId} (h : j ≠ i) (q : RequestId) :
    (placeRequest s i q).slot j = s.slot j := by
  have hv : (i : Nat) ≠ j := fun e => h (Fin.ext e.symm)
  simp [placeRequest, dropSlotEntry, State.slot, Vector.getElem_set_ne, hv]

@[simp] theorem placeRequest_time (s : State) (i : SlotId) (q : RequestId) :
    (placeRequest s i q).time = s.time := rfl

@[simp] theorem placeRequest_line (s : State) (i : SlotId) (q : RequestId) :
    (placeRequest s i q).line = s.line := rfl

@[simp] theorem placeRequest_lanes (s : State) (i : SlotId) (q : RequestId) :
    (placeRequest s i q).lanes = s.lanes := rfl

@[simp] theorem placeRequest_translator (s : State) (i : SlotId) (q : RequestId) :
    (placeRequest s i q).translator = s.translator := rfl

@[simp] theorem placeRequest_table (s : State) (i : SlotId) (q : RequestId) :
    (placeRequest s i q).table = s.table := rfl

@[simp] theorem placeRequest_queue (s : State) (i : SlotId) (q : RequestId) :
    (placeRequest s i q).queue = s.queue := rfl

@[simp] theorem placeRequest_delivery (s : State) (i : SlotId) (q : RequestId) :
    (placeRequest s i q).delivery = s.delivery := rfl

@[simp] theorem placeRequest_config (s : State) (i : SlotId) (q : RequestId) :
    (placeRequest s i q).config = s.config := rfl

@[simp] theorem placeRequest_pending (s : State) (i : SlotId) (q : RequestId) :
    (placeRequest s i q).pending = s.pending := rfl

@[simp] theorem placeRequest_lane (s : State) (i : SlotId) (q : RequestId) (l : LaneId) :
    (placeRequest s i q).lane l = s.lane l := rfl

/-- An unstored refusal touches the outgoing reply list or the frames-discarded counter only (R181). -/
theorem queueRefusal_frame (s : State) (tag kind : Byte) (status : Status) :
    ∃ rep n, queueRefusal s tag kind status = { s with link := { s.link with replies := rep, discarded := n } } := by
  unfold queueRefusal
  split
  · exact ⟨_, s.link.discarded, rfl⟩
  · exact ⟨s.link.replies, _, rfl⟩

end Sys2Proof.Machine
end

