-- ==== Sys2Proof/Laws/Intake.lean ====
section
/-! SUPPORT. From a request row to the meaning of its kind: the intake of a request that is taken (R179,
R180) and the checks it passes (R182). -/

namespace Sys2Proof.Machine

/-- A request row is the hand-over of its frame. -/
theorem exec_request {c : Instr} {tag kind : Byte} {body : List Byte}
    (h : requestOf c = some (tag, kind, body)) (s : State) :
    exec c s = .next (whenRunning s (receiveFrame tag kind body)) := by
  cases c <;> simp only [requestOf, Option.some.injEq, Prod.mk.injEq, reduceCtorEq] at h <;>
    (obtain ⟨rfl, rfl, rfl⟩ := h; rfl)

/-- The slot that holds a tag is not FREE. -/
theorem slotHolding_some {s : State} {tag : Byte} {i : SlotId} (h : s.slotHolding tag = some i) :
    (s.slot i).holds tag = true := by
  have := List.find?_some h
  simpa using this

/-- The intake of a request that is taken: it is placed in its slot and validated. -/
theorem intake_taken {s : State} {tag kind : Byte} {body : List Byte} {i : SlotId}
    (h : TakenIn s tag kind body i) : intake s tag kind body = validate (placed s tag kind body i) i kind body := by
  unfold intake placed
  rcases h.place with ⟨hn, hc⟩ | ⟨hs, q, r, hd, hq⟩
  · simp [hn, hc, takeRequest]
  · simp [hs, hd, hq, takeRequest]

/-- A request row whose request is taken. -/
theorem exec_taken {c : Instr} {s : State} {tag kind : Byte} {body : List Byte} {i : SlotId}
    (hc : requestOf c = some (tag, kind, body)) (h : TakenIn s tag kind body i) :
    exec c s = .next (validate (placed s tag kind body i) i kind body) := by
  rw [exec_request hc, whenRunning_running h.running]
  rw [receiveFrame, if_neg h.tagged, intake_taken h]

@[simp] theorem requestKindOf_code (k : RequestKind) : requestKindOf k.code = some k := by
  cases k <;> rfl

/-- A taken request of a catalogue kind. -/
theorem exec_taken_kind {c : Instr} {s : State} {tag : Byte} {body : List Byte} {i : SlotId} (k : RequestKind)
    (hc : requestOf c = some (tag, k.code, body)) (h : TakenIn s tag k.code body i) :
    exec c s = .next (validateKind (placed s tag k.code body i) i k body) := by
  rw [exec_taken hc h]
  simp [validate]

/-- A taken request that passes the length and mode checks is carried out by its owner. -/
theorem validateKind_pass {p : State} {i : SlotId} {k : RequestKind} {body : List Byte}
    (hl : body.length = k.bodyLength) (hm : modeRefusal k.modeClass p.config.mode = none) :
    validateKind p i k body = carryOut k i body p := by
  simp [validateKind, hl, hm]

/-- A taken request that the mode check refuses. -/
theorem validateKind_mode {p : State} {i : SlotId} {k : RequestKind} {body : List Byte} {status : Status}
    (hl : body.length = k.bodyLength) (hm : modeRefusal k.modeClass p.config.mode = some status) :
    validateKind p i k body = complete p i (bare status) := by
  simp [validateKind, hl, hm]

/-- A taken request whose body length its kind does not admit. -/
theorem validateKind_length {p : State} {i : SlotId} {k : RequestKind} {body : List Byte}
    (hl : body.length ≠ k.bodyLength) : validateKind p i k body = complete p i (bare .badLength) := by
  simp [validateKind, hl]

/-! ### The placed state -/

/-- Placing a request leaves every block but the Request Table, the reply list and restart pending. -/
@[simp] theorem placed_slot_self (s : State) (tag kind : Byte) (body : List Byte) (i : SlotId) :
    (placed s tag kind body i).slot i = .active ⟨tag, bodyCheck kind body, kind⟩ := by
  simp [placed]

@[simp] theorem placed_time (s : State) (tag kind : Byte) (body : List Byte) (i : SlotId) :
    (placed s tag kind body i).time = s.time := rfl

@[simp] theorem placed_line (s : State) (tag kind : Byte) (body : List Byte) (i : SlotId) :
    (placed s tag kind body i).line = s.line := rfl

@[simp] theorem placed_lanes (s : State) (tag kind : Byte) (body : List Byte) (i : SlotId) :
    (placed s tag kind body i).lanes = s.lanes := rfl

@[simp] theorem placed_translator (s : State) (tag kind : Byte) (body : List Byte) (i : SlotId) :
    (placed s tag kind body i).translator = s.translator := rfl

@[simp] theorem placed_table (s : State) (tag kind : Byte) (body : List Byte) (i : SlotId) :
    (placed s tag kind body i).table = s.table := rfl

@[simp] theorem placed_queue (s : State) (tag kind : Byte) (body : List Byte) (i : SlotId) :
    (placed s tag kind body i).queue = s.queue := rfl

@[simp] theorem placed_delivery (s : State) (tag kind : Byte) (body : List Byte) (i : SlotId) :
    (placed s tag kind body i).delivery = s.delivery := rfl

@[simp] theorem placed_config (s : State) (tag kind : Byte) (body : List Byte) (i : SlotId) :
    (placed s tag kind body i).config = s.config := rfl

@[simp] theorem placed_pending (s : State) (tag kind : Byte) (body : List Byte) (i : SlotId) :
    (placed s tag kind body i).pending = s.pending := rfl

@[simp] theorem placed_lane (s : State) (tag kind : Byte) (body : List Byte) (i : SlotId) (l : LaneId) :
    (placed s tag kind body i).lane l = s.lane l := rfl

end Sys2Proof.Machine
end

