-- ==== Sys2Proof/Laws/Lanes.lean ====
section
/-! SUPPORT. What the shared operations on lanes, lamps, records and actions can change: each lemma says once which
parts of the state an operation leaves as they are, and the lamp settlement of a happening that moves no lamp. -/

namespace Sys2Proof.Machine

/-! ## Updates of one lane -/

/-- The later of two updates of one lane counts. -/
theorem setLane_setLane (s : State) (l : LaneId) (x y : Lane) : (s.setLane l x).setLane l y = s.setLane l y := by
  simp [State.setLane]

/-- Writing back what a lane holds changes nothing. -/
theorem setLane_self (s : State) (l : LaneId) : s.setLane l (s.lane l) = s := by
  simp [State.setLane, State.lane]

/-! ## Settling the lamps of a happening (R123, R129) -/

/-- A happening that changes no desired image and no phase settles nothing. -/
theorem settleLamps_same (s t : State)
    (h : ∀ l, (t.lane l).phase = (s.lane l).phase ∧ (t.lane l).desired = (s.lane l).desired) : settleLamps s t = t := by
  have lanes : (settleLamps s t).lanes = t.lanes := by
    apply State.lanes_ext
    intro l
    have e : (settleLamps s t).lane l = t.lane l := by
      rw [lane_settleLamps]
      unfold settleLane
      simp [(h l).1, (h l).2]
    exact e
  have e : settleLamps s t = { t with lanes := (settleLamps s t).lanes } := rfl
  rw [e, lanes]

/-- An update of one lane that keeps its phase and its desired image settles nothing. -/
theorem settleLamps_setLane (s : State) (l : LaneId) (x : Lane) (phase : x.phase = (s.lane l).phase)
    (desired : x.desired = (s.lane l).desired) : settleLamps s (s.setLane l x) = s.setLane l x := by
  apply settleLamps_same
  intro k
  rw [State.lane_setLane]
  split
  · next h => subst h; exact ⟨phase, desired⟩
  · exact ⟨rfl, rfl⟩

/-- Settling changes only lanes. -/
theorem settleLamps_frame (s t : State) : ∃ lanes, settleLamps s t = { t with lanes := lanes } := ⟨_, rfl⟩

/-! ## Lane operations that change only lanes -/

theorem modLane_frame (s : State) (l : LaneId) (f : Lane → Lane) : ∃ lanes, s.modLane l f = { s with lanes := lanes } :=
  ⟨_, rfl⟩

theorem recordFault_frame (s : State) (l : LaneId) (k : LaneFault) :
    ∃ lanes, recordFault s l k = { s with lanes := lanes } := ⟨_, rfl⟩

theorem changePhase_frame (s : State) (l : LaneId) (p : Phase) (step : Option StartStep) :
    ∃ lanes, changePhase s l p step = { s with lanes := lanes } := ⟨_, rfl⟩

theorem queueStartUp_frame (s : State) (l : LaneId) (k : EntryKind) :
    ∃ lanes, queueStartUp s l k = { s with lanes := lanes } := ⟨_, rfl⟩

theorem enterAbsent_frame (s : State) (l : LaneId) : ∃ lanes, enterAbsent s l = { s with lanes := lanes } := ⟨_, rfl⟩

theorem enterMismatch_frame (s : State) (l : LaneId) : ∃ lanes, enterMismatch s l = { s with lanes := lanes } := ⟨_, rfl⟩

theorem enableLane_frame (s : State) (l : LaneId) : ∃ lanes, enableLane s l = { s with lanes := lanes } := ⟨_, rfl⟩

theorem writeLamps_frame (s : State) (handed : List (LampPosition × Bool)) :
    ∃ lanes, s.writeLamps handed = { s with lanes := lanes } := ⟨_, rfl⟩

theorem frameStarts_frame (s : State) (l : LaneId) : ∃ lanes, frameStarts s l = { s with lanes := lanes } := by
  unfold frameStarts
  split <;> exact ⟨_, rfl⟩

theorem exchangeStarts_frame (s : State) (l : LaneId) : ∃ lanes, exchangeStarts s l = { s with lanes := lanes } := by
  unfold exchangeStarts
  split <;> exact ⟨_, rfl⟩

theorem repeatCommand_keeps (s : State) (l : LaneId) (ex : Exchange) (h : ex.attempt < 3) :
    ∃ lanes, repeatCommand s l ex = { s with lanes := lanes } := by
  unfold repeatCommand
  rw [if_pos h]
  exact ⟨_, rfl⟩

/-! ## Records and actions (R31, R32, R8) -/

theorem placeRecord_frame (s : State) (e : Option Event) : ∃ queue, placeRecord s e = { s with queue := queue } := by
  unfold placeRecord
  repeat' split
  all_goals exact ⟨_, rfl⟩

/-- The part of a state that lane entry, lane loss and the modes may change beside the requests they end. -/
theorem setBoundPhysical_frame (s : State) (l : LaneId) (p : Physical) :
    ∃ table, setBoundPhysical s l p = { s with table := table } := ⟨_, rfl⟩

theorem handBound_frame (s : State) (l : LaneId) : ∃ lanes, handBound s l = { s with lanes := lanes } := ⟨_, rfl⟩

theorem reconsider_frame (s : State) : ∃ translator, reconsider s = { s with translator := translator } := by
  unfold reconsider
  split <;> exact ⟨_, rfl⟩

theorem reconsiderFor_frame (s : State) (l : LaneId) :
    ∃ translator, reconsiderFor s l = { s with translator := translator } := by
  unfold reconsiderFor
  split
  · exact reconsider_frame s
  · exact ⟨_, rfl⟩

/-! ## Entering and leaving RUNNING (R113, R114) -/

/-- Leaving RUNNING changes lanes, bound controls, the Translator and what the requests it ends change. -/
theorem leaveRunning_frame (s : State) (l : LaneId) (status : Status) :
    ∃ lanes table translator requests link,
      leaveRunning s l status =
        { s with lanes := lanes, table := table, translator := translator, requests := requests, link := link } := by
  unfold leaveRunning
  simp only
  obtain ⟨translator, h⟩ := reconsiderFor_frame
    ((handBound (setBoundPhysical
      (((completeAll s (s.lane l).hostWork (bare status)).modLane l Lane.leaving).setPrefix l .none) l .unknown)
      l).modLane l fun x => { x with statusWanted := x.statusWanted || (handBound (setBoundPhysical
        (((completeAll s (s.lane l).hostWork (bare status)).modLane l Lane.leaving).setPrefix l .none) l .unknown)
        l).delivering }) l
  rw [h]
  obtain ⟨requests, replies, e⟩ := completeAll_frame s (s.lane l).hostWork (bare status)
  rw [e]
  exact ⟨_, _, _, _, _, rfl⟩

/-- The lane enters RUNNING: only lanes and the Control Table change. -/
theorem enterRunning_frame (s : State) (l : LaneId) :
    ∃ lanes table, enterRunning s l = { s with lanes := lanes, table := table } := by
  unfold enterRunning
  simp only
  split <;> exact ⟨_, _, rfl⟩

end Sys2Proof.Machine
end

