-- ==== Sys2Proof/Tests/Slice0.lean ====
section
/-! SUPPORT. The model's own tests: ill-formed commands and images that the checks refuse, expected results from the
spec's tables and worked examples, and for every obligation with hypotheses concrete states that meet them. -/

namespace Sys2Proof.Tests

open Sys2Proof.Machine

set_option Elab.async false

/-! ## States of the tests -/

/-- Controls 1 MOMENTARY, 2 TOGGLE, 3 and 4 MEMBER of group 0, 5 MEMBER of group 1, 6 unbound. -/
def controls : List (ControlId × ControlDef) :=
  [(1, ⟨.momentary, some ⟨0, false, 0x01⟩, some ⟨⟨0, 0⟩, .normal⟩⟩),
   (2, ⟨.toggle, some ⟨0, false, 0x02⟩, some ⟨⟨0, 1⟩, .inverted⟩⟩),
   (3, ⟨.member 0, some ⟨0, false, 0x03⟩, some ⟨⟨0, 2⟩, .normal⟩⟩),
   (4, ⟨.member 0, some ⟨0, false, 0x04⟩, none⟩),
   (5, ⟨.member 1, some ⟨0, true, 0xAF⟩, none⟩),
   (6, ⟨.toggle, none, none⟩)]

/-- Lane 0 enabled for any type, lane 1 for type 01h; group 1 OPTIONAL. -/
def image : ConfigImage :=
  { ConfigImage.defaults with
    lanes := ((Vector.replicate 8 ⟨false, 0⟩).set 0 ⟨true, 0⟩).set 1 ⟨true, 1⟩
    controls := controls
    groupModes := (Vector.replicate 32 .forced).set 1 .optional }

/-- A RUNNING lane at rest. -/
def laneUp : Lane := { Lane.reset with phase := .running, activity := .idle, known := some ⟨1, 16⟩ }

/-- An ABSENT lane with its probe queued. -/
def laneAbsent : Lane := { Lane.reset with phase := .absent, activity := .idle, list := [⟨.probeIdentify, none⟩] }

/-- Dynamic parts: bound controls UP, control 6 UNKNOWN. -/
def entries (bound : Physical) : List (ControlId × ControlState) :=
  [(1, ⟨bound, false, none⟩), (2, ⟨bound, false, none⟩), (3, ⟨bound, false, none⟩), (4, ⟨bound, false, none⟩),
   (5, ⟨bound, false, none⟩), (6, ⟨.unknown, false, none⟩)]

/-- In RUN at uptime 1000, lane 0 RUNNING and lane 1 ABSENT, three VALID banks of generation 1, member 3 selected. -/
def ready : State :=
  { State.reset with
    time := ⟨1000, .power⟩
    lanes := (State.reset.lanes.set 0 laneUp).set 1 laneAbsent
    table := ⟨entries .up, (Vector.replicate 32 none).set 0 (some 3)⟩
    config := ⟨.run, image, image, false⟩
    store :=
      { State.reset.store with
        banks := ⟨⟨1, image, 0⟩, ⟨1, image, 0⟩, ⟨1, image, 0⟩⟩
        views := ⟨⟨some .valid, 1⟩, ⟨some .valid, 1⟩, ⟨some .valid, 1⟩⟩
        standing := .full, activity := .idle, generation := 1, image := image } }

/-- The same part in CONFIG mode: every control UNKNOWN. -/
def inConfig : State :=
  { ready with table := { ready.table with entries := entries .unknown }, config := { ready.config with mode := .config } }

/-- Delivery ON, window 8, three records of which two are in flight. -/
def delivering : State :=
  { ready with
    queue := ⟨[⟨0, 10, .press 1⟩, ⟨1, 20, .release 1⟩, ⟨2, 30, .press 1⟩], 3⟩
    delivery := ⟨.on, 8, 2, some ⟨800, 200⟩, 0⟩ }

/-- Delivery ON with a full queue. -/
def fullQueue : State :=
  { ready with
    queue := ⟨(List.range 128).map fun k => ⟨BitVec.ofNat 16 k, 10, .press 1⟩, 128⟩
    delivery := ⟨.on, 8, 8, none, 0⟩ }

/-- Lane 0 of the ready part replaced. -/
def withLane (x : Lane) : State := ready.setLane 0 x

/-- Lane 0 of the ready part with a byte in its slot. -/
def holding (b : Byte) : State := withLane { laneUp with slot := some b, activity := .held }

/-- Lane 0 in an exchange, at an activity, with reply positions due since uptime 1000. -/
def inExchange (x : Lane) (e : Option Entry) (c : ModuleCommand) (a : Activity) (due : List ReplyPosition) : Lane :=
  { x with
    activity := a
    inProgress := e
    parityCount := if c = .resend then some 1 else none
    exchange := some ⟨c, 1, 0, decide (a = .awaiting), due, 1, ⟨1000, 25⟩⟩ }

/-- The uptime of a state moved on. -/
def later (s : State) (ms : Nat) : State := { s with time := { s.time with uptime := s.time.uptime + BitVec.ofNat 32 ms } }

/-- The first slot of the Request Table taken. -/
def withSlot (s : State) (x : RequestSlot) (order : List SlotId) : State :=
  { s with requests := ⟨s.requests.slots.set 0 x, order⟩ }

/-- Slot 15 is ACTIVE for a long-running request. -/
def owing (s : State) : State :=
  { s with requests := ⟨s.requests.slots.set 15 (.active ⟨9, 0, 0x21⟩), s.requests.order⟩ }

theorem witness_SafeState_ready : SafeState ready :=
  safeState_of (by decide +kernel)
theorem witness_SafeState_inConfig : SafeState inConfig :=
  safeState_of (by decide +kernel)
theorem witness_SafeState_delivering : SafeState delivering :=
  safeState_of (by decide +kernel)
theorem witness_SafeState_fullQueue : SafeState fullQueue :=
  safeState_of (by decide +kernel)

/-! ## Ill-formed commands and images, each refused by its check -/

theorem test_wf_tag_zero : (Instr.getStatus 0 []).wf = false := by decide +kernel
theorem test_wf_body_too_long : (Instr.getStatus 1 (List.replicate 199 0)).wf = false := by decide +kernel
theorem test_wf_body_longest : (Instr.getStatus 1 (List.replicate 198 0)).wf = true := by decide +kernel
theorem test_wf_unknown_kind_known : (Instr.unknownKindRequest 1 0x20 []).wf = false := by decide +kernel
theorem test_wf_lane_command_tag_zero : (Instr.laneCommandRescan 0 1).wf = false := by decide +kernel
theorem test_wf_read_back : (Instr.bankWriteAttemptEnds
    (.other ⟨1, { ConfigImage.defaults with retransmitLimit := 0 }, 0⟩)).wf = false := by decide +kernel
theorem test_wf_image : image.wf := by decide +kernel
theorem test_wf_keys_fall : ¬({ image with controls := [(2, ⟨.toggle, none, none⟩), (1, ⟨.toggle, none, none⟩)] } :
    ConfigImage).wf := by decide +kernel
theorem test_wf_key_code_zero : ¬({ image with controls := [(1, ⟨.toggle, some ⟨0, false, 0⟩, none⟩)] } :
    ConfigImage).wf := by decide +kernel
theorem test_wf_key_code_prefix : ¬({ image with controls := [(1, ⟨.toggle, some ⟨0, false, 0xB0⟩, none⟩)] } :
    ConfigImage).wf := by decide +kernel
theorem test_wf_same_binding : ¬({ image with
    controls := [(1, ⟨.toggle, some ⟨0, false, 5⟩, none⟩), (2, ⟨.momentary, some ⟨0, false, 5⟩, none⟩)] } :
    ConfigImage).wf := by decide +kernel
theorem test_wf_same_lamp : ¬({ image with
    controls := [(1, ⟨.toggle, none, some ⟨⟨0, 3⟩, .normal⟩⟩), (2, ⟨.toggle, none, some ⟨⟨0, 3⟩, .inverted⟩⟩)] } :
    ConfigImage).wf := by decide +kernel
theorem test_wf_seventeen_members : ¬({ image with
    controls := (List.range 17).map fun k => (Fin.ofNat 512 k, ⟨.member 7, none, none⟩) } : ConfigImage).wf := by
  decide +kernel
theorem test_wf_expected_type : ¬({ image with lanes := Vector.replicate 8 ⟨true, 0x80⟩ } : ConfigImage).wf := by
  decide +kernel
theorem test_wf_timeout_short : ¬({ image with retransmitTimeout := 49 } : ConfigImage).wf := by decide +kernel
theorem test_wf_timeout_long : ¬({ image with retransmitTimeout := 2001 } : ConfigImage).wf := by decide +kernel
theorem test_wf_limit : ¬({ image with retransmitLimit := 16 } : ConfigImage).wf := by decide +kernel

/-! ## Expected results from the spec's tables and worked examples -/

/-- The next state of a command that answers one. -/
def after (c : Instr) (s : State) : State := match exec c s with
  | .next t => t
  | _ => s

/-- R168's check has the polynomial, initial value and bit order of the published CRC-16/IBM-3740, whose check value
over the digits 1 to 9 is 29B1h. -/
theorem test_crc16_check_value :
    crc16 [0x31, 0x32, 0x33, 0x34, 0x35, 0x36, 0x37, 0x38, 0x39] = 0x29B1 := by decide +kernel

/-- R149's polynomial and initial value, with the choices of log 9, are the published CRC-32/MPEG-2, whose check value
over the digits 1 to 9 is 0376E6E7h. -/
theorem test_crc32_check_value :
    crc32 ([0x31, 0x32, 0x33, 0x34, 0x35, 0x36, 0x37, 0x38, 0x39].flatMap fun b : Byte => (dataBits b).reverse) =
      0x0376E6E7 := by decide +kernel

/-- R167: start bit 0, eight data bits from the least significant, no parity, stop bit 1. -/
theorem test_host_byte_bits :
    (reportFrame []).lineBits.take 10 = [false, true, false, true, false, false, true, false, true, true] := by
  decide +kernel
theorem test_line_held_low_is_a_bad_byte : receivedByte (List.replicate 10 false) = some (0, false) := by decide +kernel
theorem test_gap_with_a_start_bit :
    (let a : Assembly := ⟨.tag, 2, 0, 0, [], 0, 0, 900⟩
    ((after (.gapLimit true) (setRx ready (some a))).link.rx = some a ∧
      (after (.gapLimit false) (setRx ready (some a))).link.discarded = 1)) := by decide +kernel

/-- Spec 12.4, worked example: one event report. -/
theorem test_worked_report :
    (reportFrame [⟨65535, 70000, .press 300⟩, ⟨0, 70004, .selected 4 41 none⟩]).body =
      [0x02, 0xFF, 0xFF, 0x00, 0x01, 0x11, 0x70, 0x01, 0x01, 0x2C,
       0x00, 0x00, 0x00, 0x01, 0x11, 0x74, 0x04, 0x04, 0x00, 0x29, 0xFF, 0xFF] := by decide +kernel

theorem test_worked_report_len :
    (reportFrame [⟨65535, 70000, .press 300⟩, ⟨0, 70004, .selected 4 41 none⟩]).len = 24 := by decide +kernel

/-- R82: parity makes the data bits and itself odd. -/
theorem test_lane_frame : partFrame 0x61 = [false, true, false, false, false, false, true, true, false, false, true] := by
  decide +kernel

/-- R85, 12.5: the SET-LAMPS bytes of an image, low half first. -/
theorem test_set_lamps_bytes : (Entry.command ⟨.lamp, none⟩ 0x8001).bytes = [0x61, 0x01, 0x80] := by decide +kernel

theorem test_tick_wraps : (after .timeBaseTick { ready with time := ⟨0xFFFFFFFF, .pin⟩ }).time = ⟨0, .pin⟩ := by
  decide +kernel
theorem test_reset_released_after_power_loss :
    (after (.hardReset .nresetReleased 3) { ready with line := .unpowered }).time.cause = .power := by decide +kernel
theorem test_reset_straps : (after (.hardReset .powerApplied 1) ready).link.baud = .b57600 := by decide +kernel
theorem test_reset_begins_invalidates :
    (after (.hardResetBegins .powerLost)
      { ready with
        store := { ready.store with activity := .repairing, write := some ⟨.b, false, .repair⟩ } }).store.banks.b.readsValid =
      false := by decide +kernel
theorem test_identify_part :
    (after (.identifyPart 5 []) ready).slot 0 =
      .done ⟨5, crc16 [1], 1⟩ ⟨.ok, [0x45, 0x47, 0x38, 0x31, 0x36, 1, 8, 16, 2, 0, 32, 128, 16]⟩ := by decide +kernel
theorem test_get_status_counts_itself :
    ((after (.getStatus 5 []) ready).slot 0) = .done ⟨5, crc16 [2], 2⟩
      ⟨.ok, [1, 0, 0, 0, 0, 0, 0, 0, 0, 1, 0, 1, 0, 3, 1, 0, 0, 0, 0, 0, 0, 0, 0, 0, 0, 0x03, 0xE8, 0]⟩ := by
  decide +kernel
theorem test_unknown_kind : (after (.unknownKindRequest 5 0x80 []) ready).slot 0 =
    .done ⟨5, crc16 [0x80], 0x80⟩ ⟨.unknownKind, []⟩ := by decide +kernel
theorem test_host_byte_ignored : after (.hostByteReceived 0x02 true) ready = ready := by decide +kernel
theorem test_start_events : (after (.startEvents 5 [64]) ready).delivery = ⟨.on, 64, 0, none, 0⟩ := by decide +kernel
theorem test_ack_removes_two :
    (after (.ackEvents 5 [0, 1, 8]) delivering).queue.records = [⟨2, 30, .press 1⟩] := by decide +kernel
theorem test_ack_beyond : ((after (.ackEvents 5 [0, 2, 8]) delivering).slot 0) =
    .done ⟨5, crc16 [0x11, 0, 2, 8], 0x11⟩ ⟨.ackRange, [0xFF, 0xFF, 0, 1]⟩ := by decide +kernel
theorem test_stop_events : (after (.stopEvents 5 []) delivering).queue = ⟨[], 3⟩ := by decide +kernel
theorem test_report_takes_the_unsent :
    (after .reportFrameStart delivering).link.tx =
      .report ⟨0, 0xC0, [1, 0, 2, 0, 0, 0, 30, 1, 0, 1]⟩ := by decide +kernel
theorem test_expiry_unsends : (after .retransmissionTimerExpires delivering).delivery =
    ⟨.on, 8, 0, some ⟨1000, 200⟩, 1⟩ := by decide +kernel
theorem test_press : (after .translatorTurn (holding 0x01)).table.entries.head? =
    some (1, ⟨.down, false, some 1000⟩) := by decide +kernel
theorem test_press_lights_lamp : ((after .translatorTurn (holding 0x01)).lane 0).desired = 0x0001 := by decide +kernel
theorem test_toggle_inverted_lamp : ((after .translatorTurn (withLane
    { laneUp with slot := some 0x02, activity := .held, desired := 2, acked := 2 })).lane 0).desired = 0 := by
  decide +kernel
theorem test_member_moves : (after .translatorTurn (holding 0x04)).selection 0 = some 4 := by decide +kernel
theorem test_second_probe_byte_is_event : ((after (.goodFrame 0 0x12) (withLane
    { laneUp with activity := .receiving, frame := some 1000 })).lane 0).slot = some 0x12 := by decide +kernel
theorem test_hello_restarts : ((after (.goodFrame 0 0xB5) (withLane
    { laneUp with activity := .receiving, frame := some 1000 })).lane 0).startStep = some .identify := by decide +kernel
theorem test_set_lamps_waits : ((after (.setLamps 5 [0, 0, 3, 0, 1]) ready).lane 0).waiters = [⟨0, 1⟩] := by
  decide +kernel
theorem test_release_lamps : ((after (.releaseLamps 5 [0, 0, 2]) ready).lane 0).desired = 2 := by decide +kernel
theorem test_exit_config_rescans : ((after (.exitConfig 5 []) inConfig).lane 0).list = [⟨.lamp, none⟩, ⟨.rescan, none⟩] := by
  decide +kernel
theorem test_define_refuses_binding : (after (.defineControl 5 [0, 9, 0, 0, 1, 0, 0, 3, 0, 0, 0, 0]) inConfig).slot 0 =
    .done ⟨5, crc16 [0x32, 0, 9, 0, 0, 1, 0, 0, 3, 0, 0, 0, 0], 0x32⟩ ⟨.duplicateBinding, [0, 3]⟩ := by decide +kernel
theorem test_delete_clears_selection : (after (.deleteControl 5 [0, 3]) inConfig).selection 0 = none := by decide +kernel
theorem test_commit_begins_on_a :
    (after (.commit 5 []) ready).store.write = some ⟨.a, false, .commit⟩ := by decide +kernel
theorem test_commit_generation : (after (.commit 5 []) ready).store.commit.map (·.generation) = some 2 := by
  decide +kernel
theorem test_learn_any : ((after (.learn 5 [0xFF, 60]) inConfig).translator.learn) =
    some ⟨none, ⟨1000, 60000⟩, 0⟩ := by decide +kernel

/-! ## Witnesses: concrete states and operands that meet the hypotheses of each obligation -/

/-! ### Steps, time, resets -/

theorem witness_StepRunsTheFrontCommand :
    ready.pending = [] ∧ ({ ready with pending := [.timeBaseTick, .gapLimit false] } : State).pending =
      [.timeBaseTick, .gapLimit false] := by decide +kernel

theorem witness_UptimeIsTheOneMeasureOfTime :
    ready.line = .running ∧ exec (.gapLimit false) ready = .next ready ∧ 60000 < 2 ^ 32 ∧ 4294967295 < 2 ^ 32 :=
  ⟨rfl, rfl, by decide, by decide⟩

/-- Waits one millisecond short of their lengths, and no wait at all; an exchange before its first clock, and one after
it that awaits a reply. -/
theorem witness_TimersWaitForTheirLength :
    ready.line = .running ∧ (⟨1000, 200⟩ : Wait).reached (1199 : Word) = false ∧ delivering.delivery.timer ≠ none ∧
    ready.delivery.timer = none ∧ ready.translator.learn = none ∧ ready.link.rx = none ∧
    (startWait (1000 : Word) 5).reached (1004 : Word) = false ∧ (ready.lane 0).exchange = none ∧
    (ready.lane 0).probeDue = none ∧ (⟨1000, 25⟩ : Wait).reached (1024 : Word) = false ∧
    (⟨1000, 1000⟩ : Wait).reached (1999 : Word) = false ∧ (startWait (1000 : Word) 2).reached (1001 : Word) = false ∧
    (ready.lane 0).activity ≠ .sending ∧ (ready.lane 0).activity ≠ .awaiting ∧ (ready.lane 0).frame = none ∧
    (ready.lane 0).helloDeadline = none ∧ (ready.lane 0).phase ≠ .absent ∧ (ready.lane 0).startStep ≠ some .waitHello ∧
    (inExchange laneUp none .resend .sending []).exchange = some ⟨.resend, 1, 0, false, [], 1, ⟨1000, 25⟩⟩ ∧
    (inExchange laneUp none .resend .awaiting [.resent]).exchange =
      some ⟨.resend, 1, 0, true, [.resent], 1, ⟨1000, 25⟩⟩ := by
  decide +kernel

/-- A restart's reply on the line; a reset from power loss and from nRESET. -/
theorem witness_ResetsLeaveTheResetValues :
    (∃ f, ({ ready with link := { ready.link with tx := .reply ⟨7, 0x83, [0]⟩ } } : State).link.tx = .reply f ∧
      f.kind = 0x83 ∧ f.body = [0]) ∧
    (∃ t, exec (.hardReset .powerApplied 3) ready = .next t) ∧
    ({ ready with line := .unpowered } : State).line = .unpowered ∧
    ({ ready with line := .pinLow } : State).line ≠ .unpowered :=
  ⟨⟨_, rfl, rfl, rfl⟩, ⟨_, rfl⟩, rfl, by decide⟩

/-- A bank write in progress when the reset begins, and a command while it is held. -/
theorem witness_HardResetBeginsAndHolds :
    ({ ready.store with activity := .repairing, write := some ⟨.b, false, .repair⟩ } : Store).write =
      some ⟨.b, false, .repair⟩ ∧
    ({ ready with line := .pinLow } : State).line ≠ .running ∧ (∀ e w, Instr.timeBaseTick ≠ .hardReset e w) ∧
    ∀ c, Instr.timeBaseTick ≠ .hardResetBegins c :=
  ⟨rfl, by decide, fun _ _ => nofun, fun _ => nofun⟩

/-! ### Host link -/

/-- The shortest and the longest body. -/
theorem witness_WireFrameIsHandedOver :
    requestOf (.getStatus 9 []) = some (9, 0x02, []) ∧ ([] : List Byte).length ≤ 198 ∧
    requestOf (.readLane 9 (List.replicate 198 0)) = some (9, 0x20, List.replicate 198 0) ∧
    (List.replicate 198 (0 : Byte)).length ≤ 198 ∧ ready.line = .running ∧ ready.link.rx = none :=
  ⟨rfl, by decide, by decide +kernel, by decide +kernel, rfl, rfl⟩

theorem witness_ReceiverDiscardsAndIgnores :
    [0, 0] ≠ be16 (HostFrame.check ⟨9, 0x02, []⟩) ∧ ready.link.rx = none ∧ (0xA4 : Byte) ≠ 0xA5 ∧
    ({ ready.link with rx := some ⟨.len, 0, 0, 0, [], 0xFFFF, 0, 995⟩ } : HostLink).rx =
      some ⟨.len, 0, 0, 0, [], 0xFFFF, 0, 995⟩ ∧
    ((1 : Byte).toNat < 2 ∧ 200 < (201 : Byte).toNat) ∧ 5#32 ≤ ready.time.uptime - 995 ∧
    requestOf (.getStatus 0 []) = some (0, 0x02, []) := by
  decide +kernel

/-- A stored reply and a refusal at the head of the list, a busy transmitter, an empty list; a reply frame that is no
restart's, of either kind; a report on the line. -/
theorem witness_ReplyFramesGoOutInOrder :
    ready.link.tx = .idle ∧ ready.link.replies = [] ∧
    (withSlot ready (.done ⟨1, 0, 2⟩ ⟨.ok, []⟩) [0]).slot 0 = .done ⟨1, 0, 2⟩ ⟨.ok, []⟩ ∧
    ({ ready.link with replies := [.slot 0] } : HostLink).replies = [.slot 0] ∧
    ({ ready.link with replies := [.refusal 1 2 .busy] } : HostLink).replies = [.refusal 1 2 .busy] ∧
    Transmitter.reply ⟨1, 0x82, [0]⟩ ≠ .idle ∧
    ({ ready.link with tx := .report (reportFrame []) } : HostLink).tx = .report (reportFrame []) ∧
    ((0x82 : Byte) ≠ 0x83 ∨ [(0 : Byte)] ≠ [0]) ∧ ((0x83 : Byte) ≠ 0x83 ∨ [(0x40 : Byte)] ≠ [0]) := by
  decide +kernel

/-! ### The Request Table -/

/-- The ready part with slot 15 taken by a LANE-COMMAND of tag 9, and with all slots DONE or all ACTIVE. -/
def allDone : State :=
  { ready with requests := ⟨Vector.ofFn fun i => .done ⟨BitVec.ofNat 8 (i.val + 1), 0, 2⟩ ⟨.ok, []⟩, List.finRange 16⟩ }

/-- All 16 slots ACTIVE for lane commands. -/
def allActive : State :=
  { ready with requests := ⟨Vector.ofFn fun i => .active ⟨BitVec.ofNat 8 (i.val + 1), 0, 0x21⟩, []⟩ }

/-- Four refusals wait. -/
def fourRefusals (s : State) : State :=
  { s with link := { s.link with replies := List.replicate 4 (.refusal 1 2 .busy) } }

theorem witness_RequestFramesAreTakenOrAnswered_held :
    requestOf (.getStatus 9 []) = some (9, 0x02, []) ∧ RequestLaws (owing ready) ∧
    (owing ready).slot 15 = .active ⟨9, 0, 0x21⟩ ∧ (0 : Half) ≠ crc16 [0x02] ∧
    (owing ready).link.replies.countP ReplyEntry.isRefusal < 4 ∧
    RequestLaws (fourRefusals (owing ready)) ∧
    (fourRefusals (owing ready)).link.replies.countP ReplyEntry.isRefusal = 4 :=
  ⟨rfl, requestLaws_of (by decide +kernel), by decide +kernel, by decide +kernel, by decide +kernel,
    requestLaws_of (by decide +kernel), by decide +kernel⟩

theorem witness_RequestFramesAreTakenOrAnswered_repeat :
    requestOf (.laneCommandRescan 9 0) = some (9, 0x21, [0, 1]) ∧
    RequestLaws (withSlot ready (.active ⟨9, crc16 [0x21, 0, 1], 0x21⟩) []) ∧
    RequestLaws (withSlot ready (.done ⟨9, crc16 [0x21, 0, 1], 0x21⟩ ⟨.ok, []⟩) [0]) ∧
    ReplyEntry.slot 0 ∉ ready.link.replies ∧ ReplyEntry.slot 0 ∈ [ReplyEntry.slot 0] ∧
    RequestLaws allDone ∧ allDone.slot 3 = .done ⟨4, 0, 2⟩ ⟨.ok, []⟩ ∧ (0 : Half) ≠ crc16 [0x21, 0, 1] :=
  ⟨rfl, requestLaws_of (by decide +kernel), requestLaws_of (by decide +kernel), by decide +kernel, by decide +kernel,
    requestLaws_of (by decide +kernel), by decide +kernel, by decide +kernel⟩

theorem witness_RequestFramesAreTakenOrAnswered_new :
    (∀ i q, (ready.slot i).request = some q → q.tag ≠ 200) ∧ (∃ i, ready.slot i = .free) ∧
    (∀ i q, (allDone.slot i).request = some q → q.tag ≠ 200) ∧ (∀ i, allDone.slot i ≠ .free) ∧
    allDone.requests.order = 0 :: (List.finRange 16).drop 1 ∧
    RequestLaws allActive ∧ (∀ i, ∃ q, allActive.slot i = .active q) ∧ RequestLaws (fourRefusals allActive) := by
  refine ⟨fun i q h => ?_, ⟨0, by decide +kernel⟩, fun i q h => ?_, by decide +kernel, by decide +kernel,
    requestLaws_of (by decide +kernel), fun i => ?_, requestLaws_of (by decide +kernel)⟩
  · have : ∀ i, ready.slot i = .free := by decide +kernel
    simp [this i, RequestSlot.request] at h
  · have : ∀ i, allDone.slot i = .done ⟨BitVec.ofNat 8 (i.val + 1), 0, 2⟩ ⟨.ok, []⟩ := by decide +kernel
    rw [this i] at h
    cases h
    revert i
    decide
  · exact ⟨⟨BitVec.ofNat 8 (i.val + 1), 0, 0x21⟩, by revert i; decide +kernel⟩

/-- The OK reply of the RESTART in slot 0, with what is on HTXD and what waits in the outgoing reply list. -/
def restarting (tx : Transmitter) (replies : List ReplyEntry) : State :=
  { withSlot ready (.done ⟨7, crc16 [3], 3⟩ ⟨.ok, []⟩) [0] with
    link := { ready.link with tx := tx, replies := replies }, store := { ready.store with restartPending := true } }

/-- A FREE slot; a DONE slot of another kind; the OK reply of the RESTART, still in the list with the transmitter idle or
sending another reply, gone from it, and on the line while it is queued again. -/
theorem witness_RequestsArePlacedAndCompleted :
    TakenIn ready 5 0x02 [] 0 ∧ ready.slot 0 = .free ∧
    TakenIn allDone 200 0x02 [] 0 ∧
    (∃ q r, allDone.slot 0 = .done q r ∧ (q.kind ≠ 0x03 ∨ r ≠ ⟨.ok, []⟩)) ∧
    (let s := restarting .idle [.slot 0]
    TakenIn s 7 0x02 [] 0 ∧ ReplyEntry.slot 0 ∈ s.link.replies ∧ (∀ f, s.link.tx ≠ .reply f) ∧
      ∃ q, s.slot 0 = .done q ⟨.ok, []⟩ ∧ q.kind = 0x03) ∧
    (let s := restarting (.reply ⟨8, 0x82, [0]⟩) [.slot 0]
    TakenIn s 7 0x02 [] 0 ∧ ReplyEntry.slot 0 ∈ s.link.replies ∧ ∀ f, s.link.tx = .reply f → f.kind ≠ 0x83 ∨ f.body ≠ [0]) ∧
    (let s := restarting (.reply ⟨7, 0x83, [0]⟩) []
    TakenIn s 7 0x02 [] 0 ∧ ReplyEntry.slot 0 ∉ s.link.replies) ∧
    (let s := restarting (.reply ⟨7, 0x83, [0]⟩) [.slot 0]
    TakenIn s 7 0x02 [] 0 ∧ ∃ f, s.link.tx = .reply f ∧ f.kind = 0x83 ∧ f.body = [0]) ∧
    (owing ready).slot 15 = .active ⟨9, 0, 0x21⟩ ∧ ∀ q, ready.slot 15 ≠ .active q :=
  ⟨takenIn_of (by decide +kernel), by decide +kernel, takenIn_of (by decide +kernel),
    ⟨⟨1, 0, 2⟩, ⟨.ok, []⟩, by decide +kernel, by decide⟩,
    ⟨takenIn_of (by decide +kernel), by decide +kernel, fun f => nofun, ⟨⟨7, crc16 [3], 3⟩, by decide +kernel, rfl⟩⟩,
    ⟨takenIn_of (by decide +kernel), by decide +kernel, fun _ h => by cases h; exact .inl (by decide)⟩,
    ⟨takenIn_of (by decide +kernel), by decide +kernel⟩, ⟨takenIn_of (by decide +kernel), _, rfl, rfl, rfl⟩,
    by decide +kernel, fun q h => by have : ready.slot 15 = .free := by decide +kernel
                                     rw [this] at h; cases h⟩

theorem witness_RequestsAreValidatedInOrder :
    requestOf (.unknownKindRequest 5 0x80 []) = some (5, 0x80, []) ∧ TakenIn ready 5 0x80 [] 0 ∧
    requestOf (.readLane 5 [0, 0]) = some (5, 0x20, [0, 0]) ∧ TakenIn ready 5 0x20 [0, 0] 0 ∧ [(0 : Byte), 0].length ≠ 1 ∧
    TakenIn State.reset 5 0x20 [0] 0 ∧ State.reset.config.mode = .startup ∧
    TakenIn ready 5 0x33 [0, 1] 0 ∧ ready.config.mode = .run ∧
    TakenIn inConfig 5 0x10 [8] 0 ∧ inConfig.config.mode = .config :=
  ⟨rfl, takenIn_of (by decide +kernel), rfl, takenIn_of (by decide +kernel), by decide, takenIn_of (by decide +kernel),
    rfl, takenIn_of (by decide +kernel), rfl, takenIn_of (by decide +kernel), rfl⟩

theorem witness_GeneralRequestsAnswer :
    TakenIn ready 5 0x01 [] 0 ∧ TakenIn ready 5 0x02 [] 0 ∧ TakenIn ready 5 0x03 [] 0 ∧
    ready.config.mode ≠ .startup ∧ ready.store.activity = .idle ∧
    (placed ready 5 0x03 [] 0).store.restartPending = false ∧
    StoreActivity.repairing ≠ .idle ∧
    (placed { ready with store := { ready.store with restartPending := true } } 5 0x03 [] 0).store.restartPending =
      true :=
  ⟨takenIn_of (by decide +kernel), takenIn_of (by decide +kernel), takenIn_of (by decide +kernel), by decide, rfl,
    by decide +kernel, by decide, by decide +kernel⟩

/-! ### Event delivery -/

/-- Windows 64 and 65. -/
theorem witness_StartEventsOpensASession :
    TakenIn State.reset 5 0x10 [64] 0 ∧ TakenIn inConfig 5 0x10 [64] 0 ∧ TakenIn ready 5 0x10 [65] 0 ∧
    64 < (65 : Byte).toNat ∧ TakenIn delivering 5 0x10 [64] 0 ∧ (64 : Byte).toNat ≤ 64 ∧
    delivering.delivery.state ≠ .off ∧ TakenIn ready 5 0x10 [64] 0 ∧ ready.delivery.state = .off :=
  ⟨takenIn_of (by decide +kernel), takenIn_of (by decide +kernel), takenIn_of (by decide +kernel), by decide,
    takenIn_of (by decide +kernel), by decide, by decide, takenIn_of (by decide +kernel), rfl⟩

/-- Two records in flight: distances 0, 2 and 3 from the base FFFFh; windows 64 and 65. -/
theorem witness_AckEventsRemovesAndSetsTheWindow :
    TakenIn delivering 5 0x11 [0xFF, 0xFF, 64] 0 ∧ TakenIn delivering 5 0x11 [0, 1, 64] 0 ∧
    TakenIn delivering 5 0x11 [0, 2, 64] 0 ∧ TakenIn delivering 5 0x11 [0, 1, 65] 0 ∧
    TakenIn ready 5 0x11 [0, 1, 64] 0 ∧ DeliveryLaws delivering ∧ DeliveryLaws ready ∧
    delivering.queue.next - 1 - BitVec.ofNat 16 delivering.queue.records.length = 0xFFFF ∧
    (half 0xFF 0xFF - 0xFFFF).toNat = 0 ∧ (half 0 1 - 0xFFFF).toNat = 2 ∧ (half 0 2 - 0xFFFF).toNat = 3 ∧
    delivering.delivery.inFlight = 2 :=
  ⟨takenIn_of (by decide +kernel), takenIn_of (by decide +kernel), takenIn_of (by decide +kernel),
    takenIn_of (by decide +kernel), takenIn_of (by decide +kernel), deliveryLaws_of (by decide +kernel),
    deliveryLaws_of (by decide +kernel), by decide +kernel, by decide +kernel, by decide +kernel, by decide +kernel, rfl⟩

theorem witness_StopEventsClosesTheSession :
    TakenIn State.reset 5 0x12 [] 0 ∧ TakenIn ready 5 0x12 [] 0 ∧ TakenIn delivering 5 0x12 [] 0 ∧
    DeliveryLaws State.reset ∧ DeliveryLaws ready ∧ DeliveryLaws delivering ∧ ready.delivery.state = .off ∧
    delivering.delivery.state ≠ .off :=
  ⟨takenIn_of (by decide +kernel), takenIn_of (by decide +kernel), takenIn_of (by decide +kernel),
    deliveryLaws_of (by decide +kernel), deliveryLaws_of (by decide +kernel), deliveryLaws_of (by decide +kernel), rfl,
    by decide⟩

/-- One unsent record in a window with room; a window that is full; the end of the report. -/
theorem witness_ReportsCarryTheOldestUnsentRecords :
    (delivering.link.tx = .idle ∧ delivering.link.replies = [] ∧ delivering.delivery.state = .on ∧
      delivering.delivery.inFlight < delivering.queue.records.length ∧
      delivering.delivery.inFlight < delivering.delivery.window) ∧
    fullQueue.delivery.window ≤ fullQueue.delivery.inFlight ∧
    ({ delivering.link with tx := .report ⟨0, 0xC0, [0]⟩ } : HostLink).tx = .report ⟨0, 0xC0, [0]⟩ := by
  decide +kernel

/-- A count that stays below the limit 8, one that reaches it, and no record in flight. -/
theorem witness_ExpiryGoesBackAndStallsAtTheLimit :
    delivering.delivery.timer = some ⟨800, 200⟩ ∧ (⟨800, 200⟩ : Wait).reached delivering.time.uptime = true ∧
    DeliveryLaws delivering ∧ 0 < delivering.delivery.inFlight ∧
    delivering.delivery.retransmits + 1 < delivering.config.working.retransmitLimit ∧
    DeliveryLaws { delivering with delivery := { delivering.delivery with retransmits := 7 } } ∧
    delivering.config.working.retransmitLimit ≤ 7 + 1 ∧
    DeliveryLaws { delivering with delivery := { delivering.delivery with inFlight := 0 } } :=
  ⟨rfl, by decide +kernel, deliveryLaws_of (by decide +kernel), by decide +kernel, by decide +kernel,
    deliveryLaws_of (by decide +kernel), by decide +kernel, deliveryLaws_of (by decide +kernel)⟩

/-! ### Reads -/

/-- First identifier 511 and 512, counts 0, 1, 32 and 33; groups 31 and 32. -/
theorem witness_ControlsAndGroupsAreRead :
    TakenIn ready 5 0x13 [1, 255, 1] 0 ∧ 511 + (1 : Byte).toNat ≤ 512 ∧ ([511] : List ControlId).map (·.val) =
      List.range' 511 1 ∧
    TakenIn ready 5 0x13 [2, 0, 1] 0 ∧ 511 < (2 : Byte).toNat * 256 + (0 : Byte).toNat ∧
    TakenIn ready 5 0x13 [0, 0, 32] 0 ∧ TakenIn ready 5 0x13 [0, 0, 33] 0 ∧ TakenIn ready 5 0x13 [0, 0, 0] 0 ∧
    TakenIn ready 5 0x14 [31, 1] 0 ∧ ([31] : List GroupId).map (·.val) = List.range' 31 1 ∧
    TakenIn ready 5 0x14 [32, 1] 0 ∧ TakenIn ready 5 0x14 [0, 32] 0 ∧ ready.config.mode ≠ .startup :=
  ⟨takenIn_of (by decide +kernel), by decide, by decide +kernel, takenIn_of (by decide +kernel), by decide,
    takenIn_of (by decide +kernel), takenIn_of (by decide +kernel), takenIn_of (by decide +kernel),
    takenIn_of (by decide +kernel), by decide +kernel, takenIn_of (by decide +kernel), takenIn_of (by decide +kernel),
    by decide⟩

/-- Lanes 7 and 8. -/
theorem witness_LanesAreReadAndTheirFaultsCleared :
    TakenIn ready 5 0x20 [7] 0 ∧ (7 : Byte).toNat = (7 : LaneId).val ∧ TakenIn ready 5 0x20 [8] 0 ∧
    7 < (8 : Byte).toNat ∧ TakenIn inConfig 5 0x24 [7] 0 ∧ TakenIn inConfig 5 0x24 [8] 0 ∧
    TakenIn State.reset 5 0x24 [7] 0 ∧ State.reset.config.mode = .startup ∧ ready.config.mode ≠ .startup :=
  ⟨takenIn_of (by decide +kernel), rfl, takenIn_of (by decide +kernel), by decide, takenIn_of (by decide +kernel),
    takenIn_of (by decide +kernel), takenIn_of (by decide +kernel), rfl, by decide⟩

/-! ### Lane commands and lamps -/

/-- Lane 0 with one and with two host entries, a lane that is down, a lane above 7; the command bytes 03h and FFh. -/
theorem witness_LaneCommandsQueueAHostEntry :
    TakenIn ready 5 0x21 [0, 0] 0 ∧ (ready.lane 0).phase = .running ∧
    (let s := withLane { laneUp with list := [⟨.rescan, some 1⟩] }
    TakenIn s 5 0x21 [0, 1] 0 ∧ (s.lane 0).list.countP (fun e => e.request.isSome) < 2) ∧
    (let s := withLane { laneUp with list := [⟨.rescan, some 1⟩, ⟨.identify, some 2⟩] }
    TakenIn s 5 0x21 [0, 2] 0 ∧ 2 ≤ (s.lane 0).list.countP (fun e => e.request.isSome)) ∧
    TakenIn ready 5 0x21 [7, 0] 0 ∧ (ready.lane 7).phase ≠ .running ∧ TakenIn ready 5 0x21 [8, 0] 0 ∧
    requestOf (.unknownKindRequest 5 0x21 [0, 3]) = some (5, 0x21, [0, 3]) ∧ TakenIn ready 5 0x21 [0, 3] 0 ∧
    2 < (3 : Byte).toNat ∧ TakenIn ready 5 0x21 [0, 0xFF] 0 :=
  ⟨takenIn_of (by decide +kernel), by decide +kernel, ⟨takenIn_of (by decide +kernel), by decide +kernel⟩,
    ⟨takenIn_of (by decide +kernel), by decide +kernel⟩, takenIn_of (by decide +kernel), by decide +kernel,
    takenIn_of (by decide +kernel), rfl, takenIn_of (by decide +kernel), by decide, takenIn_of (by decide +kernel)⟩

/-- A write that changes the image, and one that does not on a lane whose version is acknowledged. -/
theorem witness_SetLampsWritesAndWaits :
    TakenIn ready 5 0x22 [0, 0, 1, 0, 1] 0 ∧ (ready.lane 0).phase = .running ∧
    (∀ n : LampId, (1 : Half).getLsbD n.val =
      if (half 0 1).getLsbD n.val then (half 0 1).getLsbD n.val else (ready.lane 0).desired.getLsbD n.val) ∧
    (ready.lane 0).ackedVersion ≠ (ready.lane 0).desiredVersion + 1 ∧
    TakenIn ready 5 0x22 [0, 0, 1, 0, 0] 0 ∧
    (∀ n : LampId, (0 : Half).getLsbD n.val =
      if (half 0 1).getLsbD n.val then (half 0 0).getLsbD n.val else (ready.lane 0).desired.getLsbD n.val) ∧
    (ready.lane 0).ackedVersion = (ready.lane 0).desiredVersion ∧
    TakenIn ready 5 0x22 [7, 0, 1, 0, 0] 0 ∧ TakenIn ready 5 0x22 [8, 0, 1, 0, 0] 0 :=
  ⟨takenIn_of (by decide +kernel), by decide +kernel, by decide +kernel, by decide +kernel, takenIn_of (by decide +kernel),
    by decide +kernel, by decide +kernel, takenIn_of (by decide +kernel), takenIn_of (by decide +kernel)⟩

/-- Lamp 1 of lane 0 is lit: it shows TOGGLE control 2, OFF, with an INVERTED lamp; lamp 15 shows none. -/
theorem witness_ReleaseLampsReturnsLampsToFollow :
    TakenIn ready 5 0x23 [0, 0, 2] 0 ∧
    (∀ n : LampId, (2 : Half).getLsbD n.val =
      if (half 0 2).getLsbD n.val then ready.litAt ⟨0, n⟩ else (ready.lane 0).desired.getLsbD n.val) ∧
    TakenIn ready 5 0x23 [8, 0, 2] 0 ∧ TakenIn State.reset 5 0x23 [0, 0, 2] 0 ∧ ready.config.working.wf ∧
    (∀ e ∈ ready.config.working.controls, ∀ r ∈ e.2.lamp, r.position ≠ ⟨0, 15⟩) ∧
    ready.definition 2 = some ⟨.toggle, some ⟨0, false, 0x02⟩, some ⟨⟨0, 1⟩, .inverted⟩⟩ :=
  ⟨takenIn_of (by decide +kernel), by decide +kernel, takenIn_of (by decide +kernel), takenIn_of (by decide +kernel),
    by decide +kernel, by decide +kernel, by decide +kernel⟩

/-! ### Configuration -/

theorem witness_EnterConfigMakesEveryControlUnknown :
    TakenIn ready 5 0x30 [] 0 ∧ ControlLaws ready ∧ ready.config.mode = .run ∧ ready.delivery.state = .off ∧
    TakenIn delivering 5 0x30 [] 0 ∧ ControlLaws delivering ∧ delivering.delivery.state ≠ .off ∧
    TakenIn inConfig 5 0x30 [] 0 ∧ ControlLaws inConfig ∧ inConfig.config.mode = .config :=
  ⟨takenIn_of (by decide +kernel), controlLaws_of (by decide +kernel), rfl, rfl, takenIn_of (by decide +kernel),
    controlLaws_of (by decide +kernel), by decide, takenIn_of (by decide +kernel), controlLaws_of (by decide +kernel), rfl⟩

/-- CONFIG mode with a LEARN waiter that slot 15 owes. -/
def learning : State :=
  { withSlot inConfig (.active ⟨9, crc16 [0x38, 0xFF, 1], 0x38⟩) [] with
    translator := { ready.translator with learn := some ⟨none, ⟨1000, 1000⟩, 0⟩ } }

/-- Lamp 1 of lane 0 is the one lit once every control is UP. -/
theorem witness_ExitConfigBringsControlsUp :
    TakenIn learning 5 0x31 [] 1 ∧ ControlLaws learning ∧ learning.config.mode = .config ∧
    TakenIn ready 5 0x31 [] 0 ∧ ControlLaws ready ∧ ready.config.mode = .run ∧
    (∀ n : LampId, (6 : Half).getLsbD n.val =
      if (learning.lane 0).owners.getLsbD n.val then (learning.lane 0).desired.getLsbD n.val
      else ready.litAt ⟨0, n⟩) :=
  ⟨takenIn_of (by decide +kernel), controlLaws_of (by decide +kernel), rfl, takenIn_of (by decide +kernel),
    controlLaws_of (by decide +kernel), rfl, by decide +kernel⟩

/-- A group full of 16 members. -/
def crowded : State :=
  { inConfig with
    config := { inConfig.config with
      working := { image with
        controls := controls ++ (List.range 16).map fun k => (Fin.ofNat 512 (100 + k), ⟨.member 9, none, none⟩) } } }

/-- Fields at the ends of their ranges and beyond them; a held binding, a held lamp, a full group. -/
theorem witness_DefineControlIsRefused :
    TakenIn inConfig 5 0x32 [2, 0, 0, 0, 0, 0, 0, 0, 0, 0, 0, 0] 0 ∧
    definitionOf [2, 0, 0, 0, 0, 0, 0, 0, 0, 0, 0, 0] = none ∧
    definitionOf [1, 255, 2, 31, 1, 7, 1, 0xAF, 1, 7, 15, 1] ≠ none ∧
    definitionOf [1, 255, 2, 32, 0, 0, 0, 0, 0, 0, 0, 0] = none ∧
    definitionOf [1, 255, 1, 32, 1, 7, 1, 0xB0, 0, 0, 0, 0] = none ∧
    definitionOf [1, 255, 1, 32, 0, 8, 2, 0, 0, 8, 16, 2] ≠ none ∧
    (let body : List Byte := [0, 9, 0, 0, 1, 0, 0, 3, 0, 0, 0, 0]
    TakenIn inConfig 5 0x32 body 0 ∧ definitionOf body = some (9, ⟨.momentary, some ⟨0, false, 3⟩, none⟩) ∧
      inConfig.definition 3 = some ⟨.member 0, some ⟨0, false, 3⟩, some ⟨⟨0, 2⟩, .normal⟩⟩) ∧
    (let body : List Byte := [0, 9, 0, 0, 0, 0, 0, 0, 1, 0, 2, 1]
    TakenIn inConfig 5 0x32 body 0 ∧ definitionOf body = some (9, ⟨.momentary, none, some ⟨⟨0, 2⟩, .inverted⟩⟩)) ∧
    (let body : List Byte := [0, 9, 2, 9, 0, 0, 0, 0, 0, 0, 0, 0]
    TakenIn crowded 5 0x32 body 0 ∧ definitionOf body = some (9, ⟨.member 9, none, none⟩) ∧
      crowded.config.working.wf ∧
      16 ≤ crowded.config.working.controls.countP fun e => decide (e.1 ≠ 9 ∧ e.2.kind = .member 9)) :=
  ⟨takenIn_of (by decide +kernel), by decide +kernel, by decide +kernel, by decide +kernel, by decide +kernel,
    by decide +kernel, ⟨takenIn_of (by decide +kernel), by decide +kernel, by decide +kernel⟩,
    ⟨takenIn_of (by decide +kernel), by decide +kernel⟩,
    ⟨takenIn_of (by decide +kernel), by decide +kernel, by decide +kernel, by decide +kernel⟩⟩

/-- What every listed definition but one has, every defined control but one has. -/
theorem each_of {s : State} {c : ControlId} {p : ControlDef → Prop}
    (h : ∀ e ∈ s.config.working.controls, e.1 ≠ c → p e.2) (k : ControlId) (x : ControlDef) (hk : k ≠ c)
    (hx : s.definition k = some x) : p x := h _ (mem_of_lookupKey hx) hk

/-- A new control; the selected member of group 0 moved to group 1; a body whose unused bytes are not 0; the same with
every present byte set. -/
theorem witness_DefineControlSetsTheDefinition :
    (let d : ControlDef := ⟨.toggle, some ⟨1, true, 0x01⟩, none⟩
    TakenIn inConfig 5 0x32 (be16 (BitVec.ofNat 16 (511 : ControlId).val) ++ definitionBytes d) 0 ∧ d.wf ∧
      (∀ k x, k ≠ 511 → inConfig.definition k = some x →
        (d.binding = none ∨ x.binding ≠ d.binding) ∧ (d.lampPosition = none ∨ x.lampPosition ≠ d.lampPosition))) ∧
    (let d : ControlDef := ⟨.member 1, some ⟨0, false, 0x03⟩, none⟩
    TakenIn inConfig 5 0x32 (be16 (BitVec.ofNat 16 (3 : ControlId).val) ++ definitionBytes d) 0 ∧ d.wf ∧
      (∀ k x, k ≠ 3 → inConfig.definition k = some x →
        (d.binding = none ∨ x.binding ≠ d.binding) ∧ (d.lampPosition = none ∨ x.lampPosition ≠ d.lampPosition)) ∧
      (inConfig.config.working.controls.countP fun e => decide (e.1 ≠ 3 ∧ e.2.kind = .member 1)) < 16 ∧
      inConfig.selection 0 = some 3) ∧
    (let body : List Byte := [0, 9, 1, 0xFF, 0, 8, 2, 0, 0, 8, 16, 2]
    definitionOf body = some (9, ⟨.toggle, none, none⟩) ∧ TakenIn inConfig 5 0x32 body 0) ∧
    definitionOf [1, 0xFF, 2, 31, 1, 7, 1, 0xAF, 1, 7, 15, 1] =
      some (511, ⟨.member 31, some ⟨7, true, 0xAF⟩, some ⟨⟨7, 15⟩, .inverted⟩⟩) ∧
    ControlLaws inConfig ∧ inConfig.config.working.wf ∧ inConfig.config.mode = .config :=
  ⟨⟨takenIn_of (by decide +kernel), by decide +kernel, each_of (by decide +kernel)⟩,
    ⟨takenIn_of (by decide +kernel), by decide +kernel, each_of (by decide +kernel), by decide +kernel, by decide +kernel⟩,
    ⟨by decide +kernel, takenIn_of (by decide +kernel)⟩, by decide +kernel,
    controlLaws_of (by decide +kernel), by decide +kernel, rfl⟩

/-- Identifiers 511 (undefined), 512 and 3. -/
theorem witness_DeleteControlUndefines :
    TakenIn inConfig 5 0x33 [1, 255] 0 ∧ inConfig.definition 511 = none ∧ (511 : ControlId).val = 1 * 256 + 255 ∧
    TakenIn inConfig 5 0x33 [2, 0] 0 ∧ TakenIn inConfig 5 0x33 [0, 3] 0 ∧
    inConfig.definition 3 = some ⟨.member 0, some ⟨0, false, 0x03⟩, some ⟨⟨0, 2⟩, .normal⟩⟩ ∧
    ControlLaws inConfig ∧ inConfig.config.working.wf :=
  ⟨takenIn_of (by decide +kernel), by decide +kernel, by decide, takenIn_of (by decide +kernel),
    takenIn_of (by decide +kernel), by decide +kernel, controlLaws_of (by decide +kernel), by decide +kernel⟩

theorem witness_ReadControlDefReturnsTheDefinition :
    TakenIn ready 5 0x34 [1, 255] 0 ∧ ready.definition 511 = none ∧ TakenIn ready 5 0x34 [2, 0] 0 ∧
    TakenIn inConfig 5 0x34 [0, 5] 0 ∧ inConfig.definition 5 = some ⟨.member 1, some ⟨0, true, 0xAF⟩, none⟩ ∧
    TakenIn State.reset 5 0x34 [0, 5] 0 :=
  ⟨takenIn_of (by decide +kernel), by decide +kernel, takenIn_of (by decide +kernel), takenIn_of (by decide +kernel),
    by decide +kernel, takenIn_of (by decide +kernel)⟩

/-- Groups 31 and 32, modes 1 and 2; timeouts 49, 50, 2000 and 2001, limits 0, 1, 15 and 16. -/
theorem witness_GroupModeAndDeliveryParametersAreSet :
    TakenIn inConfig 5 0x35 [31, 1] 0 ∧ TakenIn inConfig 5 0x35 [32, 1] 0 ∧ TakenIn inConfig 5 0x35 [31, 2] 0 ∧
    TakenIn ready 5 0x35 [0, 0] 0 ∧ TakenIn State.reset 5 0x35 [0, 0] 0 ∧
    TakenIn inConfig 5 0x37 [0, 49, 1] 0 ∧ TakenIn inConfig 5 0x37 [0, 50, 1] 0 ∧
    TakenIn inConfig 5 0x37 [7, 0xD0, 15] 0 ∧ (7 : Byte).toNat * 256 + (0xD0 : Byte).toNat = 2000 ∧
    TakenIn inConfig 5 0x37 [7, 0xD1, 15] 0 ∧ TakenIn inConfig 5 0x37 [0, 50, 0] 0 ∧
    TakenIn inConfig 5 0x37 [0, 50, 16] 0 ∧ TakenIn ready 5 0x37 [0, 50, 1] 0 ∧ TakenIn State.reset 5 0x37 [0, 50, 1] 0 :=
  ⟨takenIn_of (by decide +kernel), takenIn_of (by decide +kernel), takenIn_of (by decide +kernel),
    takenIn_of (by decide +kernel), takenIn_of (by decide +kernel), takenIn_of (by decide +kernel),
    takenIn_of (by decide +kernel), takenIn_of (by decide +kernel), by decide, takenIn_of (by decide +kernel),
    takenIn_of (by decide +kernel), takenIn_of (by decide +kernel), takenIn_of (by decide +kernel),
    takenIn_of (by decide +kernel)⟩

/-- Lane 0 in MISMATCH: it wants type 02h of a module of type 01h. -/
def mismatched : State :=
  { inConfig.setLane 0 { laneUp with phase := .mismatch, list := [⟨.disable, none⟩] } with
    config := { inConfig.config with working := { image with lanes := image.lanes.set 0 ⟨true, 2⟩ }, dirty := true } }

/-- Lane 7 (DISABLED) enabled and kept disabled, lane 1 (ABSENT) disabled and left alone, lane 0 (RUNNING) disabled or
given another type; a lane 8, an enable of 2, a type 80h. Types changed with no effect now: on lane 1 ABSENT, on lane 0
RUNNING and STARTING; on lane 0 in MISMATCH with a module of type 01h, to 7Fh, to 01h, and to 00h. -/
theorem witness_SetLaneAppliesTheSetting :
    TakenIn inConfig 5 0x36 [7, 1, 0x7F] 0 ∧ (inConfig.lane 7).phase = .disabled ∧ TakenIn inConfig 5 0x36 [7, 0, 0] 0 ∧
    TakenIn inConfig 5 0x36 [1, 0, 0] 0 ∧ (inConfig.lane 1).phase = .absent ∧ TakenIn inConfig 5 0x36 [1, 1, 1] 0 ∧
    inConfig.config.working.lanes[(1 : LaneId)].expectedType = 1 ∧
    TakenIn inConfig 5 0x36 [8, 1, 0] 0 ∧ TakenIn inConfig 5 0x36 [0, 2, 0] 0 ∧ TakenIn inConfig 5 0x36 [0, 1, 0x80] 0 ∧
    TakenIn inConfig 5 0x36 [0, 0, 0] 0 ∧ TakenIn inConfig 5 0x36 [0, 1, 2] 0 ∧ LaneLaws (inConfig.lane 0) ∧
    (inConfig.lane 0).phase = .running ∧ (inConfig.lane 0).known = some ⟨1, 16⟩ ∧
    inConfig.config.working.lanes[(0 : LaneId)].expectedType ≠ 2 ∧ inConfig.delivery.state = .off ∧
    TakenIn inConfig 5 0x36 [1, 1, 2] 0 ∧ TakenIn inConfig 5 0x36 [0, 1, 1] 0 ∧
    (let s := inConfig.setLane 0 { laneAbsent with phase := .starting, startStep := some .enable, list := [⟨.enable, none⟩] }
    TakenIn s 5 0x36 [0, 1, 3] 0 ∧ (s.lane 0).phase = .starting) ∧
    (let s := mismatched
    TakenIn s 5 0x36 [0, 1, 0x7F] 0 ∧ TakenIn s 5 0x36 [0, 1, 1] 0 ∧ TakenIn s 5 0x36 [0, 1, 0] 0 ∧
      (s.lane 0).phase = .mismatch ∧ (s.lane 0).known = some ⟨1, 16⟩ ∧ LaneLaws (s.lane 0) ∧
      s.config.working.lanes[(0 : LaneId)].expectedType = 2) :=
  ⟨takenIn_of (by decide +kernel), by decide +kernel, takenIn_of (by decide +kernel), takenIn_of (by decide +kernel),
    by decide +kernel, takenIn_of (by decide +kernel), by decide +kernel, takenIn_of (by decide +kernel),
    takenIn_of (by decide +kernel), takenIn_of (by decide +kernel), takenIn_of (by decide +kernel),
    takenIn_of (by decide +kernel), laneLaws_of (by decide +kernel), by decide +kernel, by decide +kernel,
    by decide +kernel, rfl, takenIn_of (by decide +kernel), takenIn_of (by decide +kernel),
    ⟨takenIn_of (by decide +kernel), rfl⟩,
    ⟨takenIn_of (by decide +kernel), takenIn_of (by decide +kernel), takenIn_of (by decide +kernel), rfl, rfl,
      laneLaws_of (by decide +kernel), by decide +kernel⟩⟩

/-- Lane 0 would leave RUNNING: the store copy wants type 02h on it; its lamps and a waiting host command would go. -/
def storeWantsAnother : State :=
  let copy : ConfigImage := { image with lanes := image.lanes.set 0 ⟨true, 2⟩, controls := image.controls.drop 1 }
  { owing (inConfig.setLane 0 { laneUp with list := [⟨.rescan, some 15⟩] }) with
    config := ⟨.config, image, copy, true⟩ }

theorem witness_RevertAndLoadDefaultsReplaceTheImage :
    (TakenIn inConfig 5 0x3A [] 0 ∧ TakenIn inConfig 5 0x3B [] 0 ∧ SafeState inConfig ∧ inConfig.line = .running ∧
      inConfig.config.storeCopy = inConfig.config.working) ∧
    (let s := storeWantsAnother
    TakenIn s 5 0x3A [] 0 ∧ SafeState s ∧ s.line = .running ∧ (s.lane 0).phase = .running ∧
      matchesType s.config.storeCopy.lanes[(0 : LaneId)].expectedType (s.lane 0).known = false ∧
      endedWork (s.lane 0) = [15] ∧ s.definition 1 ≠ lookupKey s.config.storeCopy.controls 1 ∧
      (s.definition 1).bind (·.lampPosition) = some ⟨0, 0⟩) :=
  ⟨⟨takenIn_of (by decide +kernel), takenIn_of (by decide +kernel), witness_SafeState_inConfig, rfl, rfl⟩,
    takenIn_of (by decide +kernel), safeState_of (by decide +kernel), rfl, by decide +kernel, by decide +kernel,
    by decide +kernel, by decide +kernel, by decide +kernel⟩

/-! ### LEARN -/

/-- Lanes 7, 8 and ANY, 0, 1, 60 and 61 seconds; a waiter that has expired. -/
theorem witness_LearnSetsTheWaiterAndTimesOut :
    TakenIn inConfig 5 0x38 [7, 60] 0 ∧ TakenIn inConfig 5 0x38 [0xFF, 1] 0 ∧ TakenIn inConfig 5 0x38 [8, 1] 0 ∧
    TakenIn inConfig 5 0x38 [0, 0] 0 ∧ TakenIn inConfig 5 0x38 [0, 61] 0 ∧ TakenIn learning 5 0x38 [0, 1] 1 ∧
    learning.translator.learn ≠ none ∧ inConfig.translator.learn = none ∧ TakenIn ready 5 0x38 [0, 1] 0 ∧
    TakenIn State.reset 5 0x38 [0, 1] 0 ∧
    (later learning 1000).translator.learn = some ⟨none, ⟨1000, 1000⟩, 0⟩ ∧
    1000#32 ≤ (later learning 1000).time.uptime - 1000 :=
  ⟨takenIn_of (by decide +kernel), takenIn_of (by decide +kernel), takenIn_of (by decide +kernel),
    takenIn_of (by decide +kernel), takenIn_of (by decide +kernel), takenIn_of (by decide +kernel), by decide +kernel, rfl,
    takenIn_of (by decide +kernel), takenIn_of (by decide +kernel), by decide +kernel, by decide +kernel⟩

/-- What every listed definition has, every defined control has. -/
theorem all_of {s : State} {p : ControlDef → Prop} (h : ∀ e ∈ s.config.working.controls, p e.2) (c : ControlId)
    (d : ControlDef) (hd : s.definition c = some d) : p d := h _ (mem_of_lookupKey hd)

/-- The test of `TurnTakes`. -/
def turnOk (s : State) (l : LaneId) (b : Byte) : Bool :=
  decide (s.line = .running ∧ s.config.mode ≠ .startup ∧ s.translator.waiting = none ∧ nextLane s = some l ∧
    (s.lane l).statusWanted = false ∧ (s.lane l).slot = some b ∧ turnHeld s l = false)

theorem turnTakes_of {s : State} {l : LaneId} {b : Byte} (h : turnOk s l b = true) : TurnTakes s l b := by
  simp only [turnOk, decide_eq_true_eq] at h
  exact ⟨h.1, h.2.1, h.2.2.1, h.2.2.2.1, h.2.2.2.2.1, h.2.2.2.2.2.1, h.2.2.2.2.2.2⟩

/-- Codes 01h, bound to control 1, and AFh, bound to none without EXT. -/
theorem witness_LearnIsSatisfiedByAPress :
    (let s := learning.setLane 0 { laneUp with slot := some 0x01, activity := .held }
    TurnTakes s 0 0x01 ∧ s.prefixOf 0 = .none ∧ s.config.working.wf ∧
      ∃ d, s.definition 1 = some d ∧ d.binding = some ⟨0, false, 0x01⟩) ∧
    (let s := learning.setLane 0 { laneUp with slot := some 0xAF, activity := .held }
    TurnTakes s 0 0xAF ∧ s.prefixOf 0 = .none ∧ isKeyCode 0xAF ∧
      ∀ c d, s.definition c = some d → d.binding ≠ some ⟨0, false, 0xAF⟩) :=
  ⟨⟨turnTakes_of (by decide +kernel), by decide +kernel, by decide +kernel,
    ⟨⟨.momentary, some ⟨0, false, 0x01⟩, some ⟨⟨0, 0⟩, .normal⟩⟩, by decide +kernel, rfl⟩⟩,
    ⟨turnTakes_of (by decide +kernel), by decide +kernel, by decide, all_of (by decide +kernel)⟩⟩

/-! ### Configuration Store -/

/-- A COMMIT that is taken, one while committing, one whose generation does not fit; a store to read. -/
theorem witness_CommitTakesItsSnapshot :
    TakenIn ready 5 0x39 [] 0 ∧ ready.store.activity ≠ .committing ∧
    (placed ready 5 0x39 [] 0).store.restartPending = false ∧
    1 + max ready.store.generation.toNat (max 1 (max 1 1)) ≤ 4294967295 ∧
    (let s : State := { ready with store := { ready.store with generation := 0xFFFFFFFF } }
    TakenIn s 5 0x39 [] 0 ∧ 4294967295 < 1 + max s.store.generation.toNat (max 1 (max 1 1))) ∧
    TakenIn { ready with store := { ready.store with activity := .committing } } 5 0x39 [] 0 ∧
    TakenIn ready 5 0x3C [] 0 ∧ ready.store.views.a.standing = some .valid ∧
    ready.store.views.b.standing = some .valid ∧ ready.store.views.c.standing = some .valid :=
  ⟨takenIn_of (by decide +kernel), by decide, by decide +kernel, by decide +kernel,
    ⟨takenIn_of (by decide +kernel), by decide +kernel⟩, takenIn_of (by decide +kernel), takenIn_of (by decide +kernel),
    rfl, rfl, rfl⟩

/-- The vote with the reads of A and B taken, over three banks. -/
def voting (a b c : StoredBank) : State :=
  let view := fun b : StoredBank => (⟨some (if b.readsValid then .valid else .invalid), b.generation⟩ : BankView)
  { State.reset with
    store := { State.reset.store with banks := ⟨a, b, c⟩, views := ⟨view a, view b, ⟨none, 0⟩⟩ } }

/-- A bank that holds the image of the tests. -/
def held (generation : Word) : StoredBank := ⟨generation, image, 0⟩

/-- Three identical banks; two and an older, a newer or an INVALID one; three that differ; two VALID of one generation
and different content; none. -/
theorem witness_VoteReadsTheBanksAndDecides :
    SafeState (voting (held 3) (held 3) (held 3)) ∧ SafeState (voting (held 3) (held 3) (held 2)) ∧
    SafeState (voting (held 3) .erased (held 3)) ∧ SafeState (voting (held 1) (held 2) (held 3)) ∧
    SafeState (voting (held 3) ⟨3, .defaults, 0⟩ .erased) ∧ SafeState (voting .erased .erased .erased) ∧
    (∀ a b c, ∀ n, n ≠ BankName.c → ((voting a b c).store.views.get n).standing =
      some (if ((voting a b c).store.banks.get n).readsValid then .valid else .invalid)) ∧
    State.reset.store.views.a.standing = none ∧ State.reset.store.activity = .voting ∧
    ready.store.activity ≠ .voting :=
  ⟨safeState_of (by decide +kernel),
    safeState_of (by decide +kernel),
    safeState_of (by decide +kernel),
    safeState_of (by decide +kernel),
    safeState_of (by decide +kernel),
    safeState_of (by decide +kernel),
    fun a b c n h => by cases n <;> first | rfl | exact absurd rfl h, rfl, rfl, by decide⟩

/-- A repair's attempt that passes, and one that does not, on both attempts. -/
theorem witness_RepairAttemptsEnd :
    (∀ second : Bool, ({ ready.store with activity := .repairing, write := some ⟨.b, second, .repair⟩ } : Store).write =
      some ⟨.b, second, .repair⟩) ∧ ready.store.commit = none ∧
    StoredBank.erased ≠ ⟨ready.store.generation, ready.store.image, 0⟩ :=
  ⟨fun _ => rfl, rfl, by decide +kernel⟩

/-- A commit's attempt on each bank, and a repair's that it has overtaken; good counts 0 and 2 at bank C. -/
theorem witness_CommitWritesTheBanksAndEnds :
    (∀ n second, ({ ready.store with
        activity := .committing, write := some ⟨n, second, .commit⟩, commit := some ⟨image, 2, 0, 0⟩ } : Store).write =
      some ⟨n, second, .commit⟩) ∧
    ({ ready.store with
        activity := .committing, write := some ⟨.b, false, .repair⟩, commit := some ⟨image, 2, 0, 0⟩ } : Store).commit =
      some ⟨image, 2, 0, 0⟩ ∧
    StoredBank.erased ≠ ⟨2, image, 0⟩ ∧ (0 + 1 ≤ 3 ∧ 2 + 1 ≤ 3) :=
  ⟨fun _ _ => rfl, rfl, by decide +kernel, by decide⟩

/-! ### Code Translator -/

/-- A control is DOWN. -/
def downAt (s : State) (c : ControlId) : State := s.setControl c ⟨.down, false, some 5⟩

/-- A byte in lane 0's slot with a full queue. -/
def fullHolding (b : Byte) : State := fullQueue.setLane 0 { laneUp with slot := some b, activity := .held }

/-- What every byte's clause assumes: a turn of lane 0 with the byte in its slot. -/
def offered (s : State) (b : Byte) : Bool :=
  decide (s.line = .running ∧ s.config.mode ≠ .startup ∧ s.translator.waiting = none ∧ nextLane s = some 0 ∧
    (s.lane 0).statusWanted = false ∧ (s.lane 0).slot = some b ∧ s.config.working.wf)

/-- Starting lane 7 with lane 0 the first eligible one; a prefix that needs no space; with a full queue the illegal
bytes 00h, B1h, B3h, B6h, B7h, B9h, BDh, C0h and FFh, prefixes in and out of order, the code 05h that no control has, presses, repeats and
releases of a MOMENTARY, a TOGGLE and a selected FORCED MEMBER; a code in CONFIG mode. -/
theorem witness_TurnsGoRoundAndWaitForSpace :
    (let s : State := { holding 0xB0 with translator := { ready.translator with start := 7 } }
    s.config.mode ≠ .startup ∧ s.translator.waiting = none ∧
      (∀ j : Nat, j < 1 → (s.lane (s.translator.start + Fin.ofNat 8 j)).statusWanted = false ∧
        (s.lane (s.translator.start + Fin.ofNat 8 j)).slot = none) ∧
      (s.lane (s.translator.start + Fin.ofNat 8 1)).slot ≠ none ∧ nextLane s = some 0 ∧ s.prefixOf 0 = .none) ∧
    (∀ l, (ready.lane l).statusWanted = false ∧ (ready.lane l).slot = none) ∧ State.reset.config.mode = .startup ∧
    (fullQueue.delivery.state ≠ .off ∧ fullQueue.queue.records.length = 128 ∧ fullQueue.config.mode = .run ∧
      ([0x00#8, 0xB1, 0xB3, 0xB6, 0xB7, 0xB9, 0xBD, 0xC0, 0xFF, 0xB0, 0xB8, 0x05].all fun b => offered (fullHolding b) b) = true ∧
      (fullHolding 0xB0).prefixOf 0 = .none ∧
      (let s := (fullHolding 0xB0).setPrefix 0 .ext
      offered s 0xB0 = true ∧ s.prefixOf 0 ≠ .none) ∧
      (let s := (fullHolding 0xB8).setPrefix 0 .rel
      offered s 0xB8 = true ∧ s.prefixOf 0 = .rel) ∧
      (∀ e ∈ fullQueue.config.working.controls, e.2.binding ≠ some ⟨0, false, 0x05⟩)) ∧
    (offered (fullHolding 0x01) 0x01 = true ∧ ((fullHolding 0x01).control 1).physical = .up ∧
      offered (downAt (fullHolding 0x01) 1) 0x01 = true ∧ offered (fullHolding 0x02) 0x02 = true ∧
      offered ((fullHolding 0x02).setPrefix 0 .rel) 0x02 = true ∧ offered (fullHolding 0x03) 0x03 = true ∧
      (fullHolding 0x03).selection 0 = some 3 ∧ (fullHolding 0x03).groupMode 0 = .forced ∧
      offered (fullHolding 0x04) 0x04 = true ∧ offered ((fullHolding 0x04).setPrefix 0 .rel) 0x04 = true) ∧
    (let s := inConfig.setLane 0 { laneUp with slot := some 0xAF, activity := .held }
    offered s 0xAF = true ∧ s.config.mode = .config) ∧
    (holding 0x01).delivery.state = .off ∧ (holding 0x01).config.mode = .run := by decide +kernel

/-- The waiting turn of a lane that leaves RUNNING (R66, log 17): first in turn, and behind a lane before it in the order
that has become eligible (log 35). -/
theorem witness_LeftRunning_waiting :
    (let s : State := { fullHolding 0xB9 with translator := { ready.translator with waiting := some 0 } }
    s.translator.waiting = some 0 ∧ nextLane s = some 0 ∧ turnHeld s 0 = true ∧ 128 ≤ s.queue.records.length ∧
      s.delivery.state ≠ .off ∧ (s.lane 0).phase = .running) ∧
    (let s : State := { (fullHolding 0xB9).setLane 1 { laneUp with slot := some 0xB9, activity := .held } with
      translator := { ready.translator with waiting := some 0, start := 1 } }
    s.translator.waiting = some 0 ∧ nextLane s = some 1 ∧ turnHeld s 1 = true) := by decide +kernel

theorem witness_StatusTurnAppendsALaneStatus :
    (let s := delivering.setLane 0 { laneUp with statusWanted := true }
    s.config.mode ≠ .startup ∧ s.translator.waiting = none ∧ nextLane s = some 0 ∧ (s.lane 0).statusWanted = true ∧
      s.delivery.state ≠ .off ∧ s.queue.records.length < 128) ∧
    (let s := fullQueue.setLane 0 { laneUp with statusWanted := true }
    nextLane s = some 0 ∧ (s.lane 0).statusWanted = true ∧ s.queue.records.length = 128) := by decide +kernel

/-- Prefixes in and out of order, the illegal bytes 00h, B7h, B9h and FFh, the key codes 05h without a binding in RUN and
AFh in CONFIG. -/
theorem witness_PrefixTableClassifiesEachByte :
    TurnTakes (holding 0xB0) 0 0xB0 ∧ (holding 0xB0).prefixOf 0 = .none ∧ TurnTakes (holding 0xB8) 0 0xB8 ∧
    TurnTakes ((holding 0xB8).setPrefix 0 .ext) 0 0xB8 ∧ ((holding 0xB8).setPrefix 0 .ext).prefixOf 0 = .ext ∧
    TurnTakes ((holding 0xB8).setPrefix 0 .rel) 0 0xB8 ∧ TurnTakes (holding 0x00) 0 0x00 ∧
    TurnTakes (holding 0xB7) 0 0xB7 ∧ TurnTakes (holding 0xB9) 0 0xB9 ∧ TurnTakes (holding 0xFF) 0 0xFF ∧
    TurnTakes (holding 0x05) 0 0x05 ∧
    (∀ e ∈ (holding 0x05).config.working.controls, e.2.binding ≠ some ⟨0, false, 0x05⟩) ∧
    (let s := inConfig.setLane 0 { laneUp with slot := some 0xAF, activity := .held }
    TurnTakes s 0 0xAF ∧ s.config.mode = .config ∧ s.translator.learn = none) :=
  ⟨turnTakes_of (by decide +kernel), by decide +kernel, turnTakes_of (by decide +kernel), turnTakes_of (by decide +kernel),
    by decide +kernel, turnTakes_of (by decide +kernel), turnTakes_of (by decide +kernel), turnTakes_of (by decide +kernel),
    turnTakes_of (by decide +kernel), turnTakes_of (by decide +kernel), turnTakes_of (by decide +kernel),
    by decide +kernel, ⟨turnTakes_of (by decide +kernel), rfl, rfl⟩⟩

/-- A key turn of a lane that holds the byte, in a state whose laws evaluate. -/
theorem keyTurn_of {s : State} {l : LaneId} {b : Byte} {c : ControlId} {d : ControlDef} {release : Bool}
    (takes : turnOk s l b = true) (laws : controlsOk s = true)
    (h : s.config.mode = .run ∧ s.config.working.wf ∧ s.definition c = some d ∧
      d.binding = some ⟨l, decide (s.prefixOf l = .ext ∨ s.prefixOf l = .extRel), b⟩ ∧
      release = decide (s.prefixOf l = .rel ∨ s.prefixOf l = .extRel)) : KeyTurn s l b c d release :=
  ⟨turnTakes_of takes, h.1, h.2.1, controlLaws_of laws, h.2.2.1, h.2.2.2.1, h.2.2.2.2⟩

theorem witness_MomentaryAndToggleFollowTheirKeys :
    KeyTurn (holding 0x01) 0 0x01 1 ⟨.momentary, some ⟨0, false, 0x01⟩, some ⟨⟨0, 0⟩, .normal⟩⟩ false ∧
    KeyTurn ((downAt (holding 0x01) 1).setPrefix 0 .rel) 0 0x01 1
      ⟨.momentary, some ⟨0, false, 0x01⟩, some ⟨⟨0, 0⟩, .normal⟩⟩ true ∧
    KeyTurn (holding 0x02) 0 0x02 2 ⟨.toggle, some ⟨0, false, 0x02⟩, some ⟨⟨0, 1⟩, .inverted⟩⟩ false ∧
    KeyTurn ((downAt (holding 0x02) 2).setPrefix 0 .rel) 0 0x02 2
      ⟨.toggle, some ⟨0, false, 0x02⟩, some ⟨⟨0, 1⟩, .inverted⟩⟩ true :=
  ⟨keyTurn_of (by decide +kernel) (by decide +kernel) (by decide +kernel),
    keyTurn_of (by decide +kernel) (by decide +kernel) (by decide +kernel),
    keyTurn_of (by decide +kernel) (by decide +kernel) (by decide +kernel),
    keyTurn_of (by decide +kernel) (by decide +kernel) (by decide +kernel)⟩

/-- Group 0 is FORCED with member 3 selected, group 1 OPTIONAL: a repeat, the selected member, another member, the
selected member of group 1, no member selected, a release. -/
theorem witness_MemberPressMovesTheSelection :
    (KeyTurn (downAt (holding 0x03) 3) 0 0x03 3 ⟨.member 0, some ⟨0, false, 0x03⟩, some ⟨⟨0, 2⟩, .normal⟩⟩ false ∧
      ((downAt (holding 0x03) 3).control 3).physical = .down) ∧
    (KeyTurn (holding 0x03) 0 0x03 3 ⟨.member 0, some ⟨0, false, 0x03⟩, some ⟨⟨0, 2⟩, .normal⟩⟩ false ∧
      (holding 0x03).selection 0 = some 3 ∧ (holding 0x03).groupMode 0 = .forced) ∧
    (KeyTurn (holding 0x04) 0 0x04 4 ⟨.member 0, some ⟨0, false, 0x04⟩, none⟩ false ∧
      (holding 0x04).definition 3 = some ⟨.member 0, some ⟨0, false, 0x03⟩, some ⟨⟨0, 2⟩, .normal⟩⟩) ∧
    (let s := ((holding 0xAF).setPrefix 0 .ext).setSelection 1 (some 5)
    KeyTurn s 0 0xAF 5 ⟨.member 1, some ⟨0, true, 0xAF⟩, none⟩ false ∧ s.selection 1 = some 5 ∧
      s.groupMode 1 = .optional) ∧
    (let s := (holding 0xAF).setPrefix 0 .ext
    KeyTurn s 0 0xAF 5 ⟨.member 1, some ⟨0, true, 0xAF⟩, none⟩ false ∧ s.selection 1 = none ∧
      (s.control 5).physical ≠ .down) ∧
    KeyTurn ((downAt (holding 0xAF) 5).setPrefix 0 .extRel) 0 0xAF 5 ⟨.member 1, some ⟨0, true, 0xAF⟩, none⟩ true :=
  ⟨⟨keyTurn_of (by decide +kernel) (by decide +kernel) (by decide +kernel), by decide +kernel⟩,
    ⟨keyTurn_of (by decide +kernel) (by decide +kernel) (by decide +kernel), by decide +kernel, by decide +kernel⟩,
    ⟨keyTurn_of (by decide +kernel) (by decide +kernel) (by decide +kernel), by decide +kernel⟩,
    ⟨keyTurn_of (by decide +kernel) (by decide +kernel) (by decide +kernel), by decide +kernel, by decide +kernel⟩,
    ⟨keyTurn_of (by decide +kernel) (by decide +kernel) (by decide +kernel), by decide +kernel, by decide +kernel⟩,
    keyTurn_of (by decide +kernel) (by decide +kernel) (by decide +kernel)⟩

/-! ### The lane link -/

/-- Lanes at rest, off, receiving, sending and awaiting; the last byte of each command that has one. -/
theorem witness_FramesAndCommandBytesRun :
    laneUp.activity = .idle ∧
    (let x := inExchange laneUp (some ⟨.rescan, none⟩) .scanEnable .awaiting [.ack]
    x.activity = .awaiting ∧ x.frame = none) ∧
    ({ laneUp with activity := .held, slot := some 1 } : Lane).activity ∈
      [Activity.off, .receiving, .held, .sending] ∧
    (let x := inExchange laneUp (some ⟨.rescan, none⟩) .scanEnable .sending []
    x.activity = .sending ∧ x.exchange = some ⟨.scanEnable, 1, 0, false, [], 1, ⟨1000, 25⟩⟩) ∧
    (⟨.scanEnable, 1, 0, true, [], 1, ⟨1000, 3⟩⟩ : Exchange).clocked = true ∧ Lane.reset.activity = .off ∧
    ([(⟨.setLamps 1 2, 1, 2, true, [], 1, ⟨1000, 3⟩⟩ : Exchange), ⟨.identify, 1, 0, true, [], 1, ⟨1000, 3⟩⟩].all fun ex =>
      dataLine { laneUp with activity := .sending, exchange := some ex } =
        .sending (partFrame (if ex.byteIndex = 2 then 0x02 else 0x60))) = true := by decide +kernel

/-- A head entry that fits its phase, and one that does not. -/
theorem witness_ExchangeStartsWithTheHeadEntry :
    (let x : Lane := { laneUp with list := [⟨.lamp, none⟩, ⟨.rescan, some 1⟩] }
    x.list = ⟨.lamp, none⟩ :: [⟨.rescan, some 1⟩] ∧ x.activity = .idle ∧ x.slot = none ∧ x.phase = .running) ∧
    (let x : Lane := { laneAbsent with list := [⟨.lamp, none⟩] }
    x.list = ⟨.lamp, none⟩ :: [] ∧ x.phase ≠ .running) ∧
    laneAbsent.list = ⟨.probeIdentify, none⟩ :: [] ∧ laneAbsent.activity = .idle ∧ laneAbsent.phase = .absent := by
  decide +kernel

/-- Bytes 00h, B3h, B6h and FFh and the three discarded ones; a lane with an empty slot, with a full one, in each phase;
a frame 2 ms old. -/
theorem witness_FramesOutsideAnExchange :
    ((0x00 : Byte) ∉ [0xB4#8, 0xB5, 0xBE, 0xBF] ∧ (0xB3 : Byte) ∉ [0xB4#8, 0xB5, 0xBE, 0xBF] ∧
      (0xB6 : Byte) ∉ [0xB4#8, 0xB5, 0xBE, 0xBF] ∧ (0xFF : Byte) ∉ [0xB4#8, 0xB5, 0xBE, 0xBF] ∧
      (0xBF : Byte) ∈ [0xB4#8, 0xBE, 0xBF]) ∧
    (let x : Lane := { laneUp with activity := .receiving, frame := some 998 }
    x.activity = .receiving ∧ x.phase = .running ∧ x.slot = none ∧ ({ x with slot := some 1 } : Lane).slot ≠ none ∧
      x.frame = some 998 ∧ 2#32 ≤ ready.time.uptime - 998) ∧
    ({ laneAbsent with activity := .receiving, frame := some 998 } : Lane).phase = .absent ∧
    (let x : Lane := { Lane.reset with activity := .receiving, frame := some 998 }
    x.phase = .disabled ∧ x.activity = .receiving ∧ x.frame = some 998) := by decide +kernel

/-- An IDENTIFY at each of its positions, module types 01h and 7Fh; a SET-LAMPS at its first byte; a RESEND; first and
second attempts; parity counts 1 and 2. -/
theorem witness_RepliesAreTakenOrAskedAgain :
    (let x := inExchange laneUp (some ⟨.identify, some 1⟩) .identify .awaiting [.ack, .moduleType, .lampCount]
    ∃ ex, Awaits x ex .ack [.moduleType, .lampCount] ∧ ex.attempt < 3) ∧
    (let x := inExchange laneUp (some ⟨.identify, some 1⟩) .identify .awaiting [.moduleType, .lampCount]
    ∃ ex, Awaits x ex .moduleType [.lampCount]) ∧ (0x01#8 ≤ (0x7F : Byte) ∧ (0x7F : Byte) ≤ 0x7F#8) ∧
    (let x := inExchange laneUp (some ⟨.lamp, none⟩) (.setLamps 1 0) .awaiting [.ack]
    ∃ ex, Awaits x ex .ack [] ∧ ex.command = .setLamps 1 0 ∧ ex.byteIndex < 2) ∧
    (let x := inExchange laneUp none .resend .awaiting [.resent]
    ∃ ex, Awaits x ex .resent [] ∧ x.parityCount = some 1 ∧ x.slot = none) ∧
    (isKeyCode 0xAF ∧ ¬isKeyCode 0x00) :=
  ⟨⟨_, ⟨rfl, rfl, rfl⟩, by decide⟩, ⟨_, ⟨rfl, rfl, rfl⟩⟩, by decide, ⟨_, ⟨rfl, rfl, rfl⟩, rfl, by decide⟩,
    ⟨_, ⟨rfl, rfl, rfl⟩, rfl, rfl⟩, by decide⟩

/-- Lane 0 sends or awaits in an exchange. -/
def failing (x : Lane) (e : Option Entry) (c : ModuleCommand) (a : Activity) (due : List ReplyPosition) : State :=
  later (withLane (inExchange x e c a due)) 25

/-- Failures of an internal RESCAN, a host IDENTIFY, a LAMP entry and a RESEND in RUNNING; of a probe in ABSENT and of a
start-up entry in STARTING. -/
theorem witness_FailuresAreCountedOrGoToAbsent :
    (let s := failing laneUp (some ⟨.rescan, none⟩) .scanEnable .sending []
    FailsNow s 0 (.noClock 0) .noClock (s.lane 0) ∧ (s.lane 0).failuresAfter .noClock < 3) ∧
    (let s := failing laneUp (some ⟨.identify, some 1⟩) .identify .awaiting [.ack, .moduleType, .lampCount]
    FailsNow s 0 (.noReply 0) .noReply (s.lane 0) ∧
      FailsNow s 0 (.goodFrame 0 0xBF) .moduleError { s.lane 0 with frame := none } ∧
      FailsNow s 0 (.goodFrame 0 0xC0) .badReply { s.lane 0 with frame := none }) ∧
    (let s := failing laneUp (some ⟨.lamp, none⟩) (.setLamps 0 0) .awaiting [.ack]
    FailsNow s 0 (.noReply 0) .noReply (s.lane 0) ∧ (s.lane 0).inProgress = some ⟨.lamp, none⟩) ∧
    (let s := failing laneUp none .resend .awaiting [.resent]
    FailsNow s 0 (.noReply 0) .noReply (s.lane 0) ∧ (s.lane 0).inProgress = none) ∧
    (let s := failing { laneAbsent with list := [] } (some ⟨.probeIdentify, none⟩) .identify .awaiting
      [.moduleType, .lampCount]
    FailsNow s 0 (.goodFrame 0 0x80) .badReply { s.lane 0 with frame := none } ∧ LaneLaws (s.lane 0)) ∧
    (let s := failing { laneAbsent with phase := .starting, startStep := some .identify, list := [] }
      (some ⟨.probeIdentify, none⟩) .identify .awaiting [.lampCount]
    FailsNow s 0 (.goodFrame 0 0x11) .badReply { s.lane 0 with frame := none } ∧ LaneLaws (s.lane 0)) := by
  refine ⟨⟨.noClock _ rfl rfl rfl (by decide +kernel), by decide⟩,
    ⟨.noReply _ rfl rfl (by decide +kernel), .moduleError _ .ack _ ⟨rfl, rfl, rfl⟩ (.inl rfl),
      .illegal _ _ _ ⟨rfl, rfl, rfl⟩ (by decide)⟩,
    ⟨.noReply _ rfl rfl (by decide +kernel), rfl⟩, ⟨.noReply _ rfl rfl (by decide +kernel), rfl⟩,
    ⟨.badType _ _ _ ⟨rfl, rfl, rfl⟩ (by decide) (by decide), laneLaws_of (by decide +kernel)⟩,
    ⟨.badCount _ _ _ ⟨rfl, rfl, rfl⟩ (by decide) (by decide), laneLaws_of (by decide +kernel)⟩⟩

/-- Every other way an exchange fails: the byte limit, a frame 2 ms old in a reply position, a stray byte that finds the
slot full, the end of a third attempt. -/
theorem witness_FailsNow :
    (let s := later (withLane { inExchange laneUp (some ⟨.rescan, none⟩) .scanEnable .sending [] with
      exchange := some ⟨.scanEnable, 1, 0, true, [], 0, ⟨1000, 3⟩⟩ }) 3
    FailsNow s 0 (.txTimeout 0) .txTimeout (s.lane 0)) ∧
    (let s := later (withLane { inExchange laneUp (some ⟨.rescan, none⟩) .scanEnable .awaiting [.ack] with
      frame := some 1000 }) 2
    FailsNow s 0 (.frameLimitBreach 0) .noReply { s.lane 0 with frame := none }) ∧
    (let s := failing { laneUp with slot := some 1 } (some ⟨.rescan, none⟩) .scanEnable .awaiting [.ack]
    FailsNow s 0 (.goodFrame 0 0xB8) .badReply { s.lane 0 with frame := none }) ∧
    (let s := withLane { inExchange laneUp (some ⟨.rescan, none⟩) .scanEnable .awaiting [.ack] with
      exchange := some ⟨.scanEnable, 3, 0, true, [.ack], 0, ⟨1000, 25⟩⟩ }
    FailsNow s 0 (.badFrame 0) .resendLimit { s.lane 0 with frame := none } ∧
      FailsNow s 0 (.goodFrame 0 0xBE) .resendLimit { s.lane 0 with frame := none }) :=
  ⟨.txTimeout _ rfl rfl rfl (by decide +kernel), .breach _ rfl rfl (by decide +kernel),
    .stray _ _ _ ⟨rfl, rfl, rfl⟩ rfl rfl (by decide),
    .badThird _ .ack _ ⟨rfl, rfl, rfl⟩ (by decide) rfl, .askedThird _ .ack _ ⟨rfl, rfl, rfl⟩ (.inl rfl) rfl⟩

/-- The third failure of a host RESCAN, of a LAMP entry with a waiter, and of a RESEND with a waiter and a host entry. -/
theorem witness_ThirdFailureLosesTheModule :
    (let s := failing { laneUp with failures := 2 } (some ⟨.rescan, some 1⟩) .scanEnable .awaiting [.ack]
    FailsNow s 0 (.noReply 0) .noReply (s.lane 0) ∧ (s.lane 0).failures = 2 ∧ LaneLaws (s.lane 0)) ∧
    (let s := failing { laneUp with failures := 2, sent := some (0, 0), waiters := [⟨1, 3⟩], list := [⟨.lamp, none⟩] }
      (some ⟨.lamp, none⟩) (.setLamps 0 0) .awaiting [.ack]
    FailsNow s 0 (.noReply 0) .noReply (s.lane 0) ∧ (s.lane 0).failures = 2 ∧ LaneLaws (s.lane 0)) ∧
    (let s := failing { laneUp with failures := 2, waiters := [⟨1, 1⟩], list := [⟨.lamp, none⟩, ⟨.rescan, some 2⟩] }
      none .resend .awaiting [.resent]
    FailsNow s 0 (.noReply 0) .noReply (s.lane 0) ∧ (s.lane 0).failures = 2 ∧ LaneLaws (s.lane 0) ∧
      (s.lane 0).inProgress = none) :=
  ⟨⟨.noReply _ rfl rfl (by decide +kernel), rfl, laneLaws_of (by decide +kernel)⟩,
    ⟨.noReply _ rfl rfl (by decide +kernel), rfl, laneLaws_of (by decide +kernel)⟩,
    ⟨.noReply _ rfl rfl (by decide +kernel), rfl, laneLaws_of (by decide +kernel), rfl⟩⟩

/-- A probe due and a hello deadline, each at its last millisecond. -/
theorem witness_ProbesAndDeadlinesFallDue :
    (let x : Lane := { laneAbsent with list := [], probeDue := some ⟨500, 500⟩ }
    LaneLaws x ∧ x.probeDue = some ⟨500, 500⟩ ∧ 500#32 ≤ ready.time.uptime - 500) ∧
    (let x : Lane := { laneAbsent with
      phase := .starting, startStep := some .waitHello, list := [], helloDeadline := some ⟨0, 1000⟩ }
    LaneLaws x ∧ x.helloDeadline = some ⟨0, 1000⟩ ∧ 1000#32 ≤ ready.time.uptime - 0) :=
  ⟨⟨laneLaws_of (by decide +kernel), rfl, by decide +kernel⟩, ⟨laneLaws_of (by decide +kernel), rfl, by decide +kernel⟩⟩

/-- HELLO outside an exchange in RUNNING, ABSENT, WAIT_HELLO and MISMATCH, and in a reply position. -/
theorem witness_HelloRestartsTheLane :
    (let x : Lane := { laneUp with activity := .receiving, frame := some 1000 }
    LaneLaws x ∧ x.phase = .running ∧ x.activity = .receiving) ∧
    LaneLaws { laneAbsent with activity := .receiving, frame := some 1000 } ∧
    LaneLaws { laneAbsent with
      activity := .receiving, frame := some 1000, phase := .starting, startStep := some .waitHello, list := []
      helloDeadline := some ⟨0, 1000⟩ } ∧
    LaneLaws { laneAbsent with
      activity := .receiving, frame := some 1000, phase := .mismatch, known := some ⟨1, 0⟩, list := [] } ∧
    (let x := inExchange { laneAbsent with list := [] } (some ⟨.probeIdentify, none⟩) .identify .awaiting
      [.moduleType, .lampCount]
    LaneLaws x ∧ ∃ ex, Awaits x ex .moduleType [.lampCount]) :=
  ⟨⟨laneLaws_of (by decide +kernel), rfl, rfl⟩, laneLaws_of (by decide +kernel), laneLaws_of (by decide +kernel),
    laneLaws_of (by decide +kernel), ⟨laneLaws_of (by decide +kernel), ⟨_, ⟨rfl, rfl, rfl⟩⟩⟩⟩

/-- Lane 1 wants type 01h: a probe told of type 01h and of 02h, lamp counts 0 and 16; SCAN-ENABLE awaited in step
ENABLE, in RUN and in CONFIG mode, of a module that fits and of one that does not; a DISABLE awaited in MISMATCH. -/
theorem witness_StartUpExchangesSucceed :
    (let x := inExchange { laneAbsent with list := [] } (some ⟨.probeIdentify, none⟩) .identify .awaiting [.lampCount]
    LaneLaws x ∧ (∃ ex, Awaits x ex .lampCount [] ∧ ex.typeTaken = 1) ∧ (0 : Byte) ≤ 0x10#8 ∧ (0x10 : Byte) ≤ 0x10#8) ∧
    ready.config.working.lanes[(1 : LaneId)].expectedType = 1 ∧ ready.config.working.lanes[(0 : LaneId)].expectedType = 0 ∧
    (let x := inExchange { laneAbsent with
      phase := .starting, startStep := some .enable, known := some ⟨1, 16⟩, list := [] }
      (some ⟨.enable, none⟩) .scanEnable .awaiting [.ack]
    LaneLaws x ∧ ControlLaws (ready.setLane 1 x) ∧ ControlLaws (inConfig.setLane 1 x) ∧
      (∃ ex, Awaits x ex .ack []) ∧ matchesType (ready.expectedType 1) x.known = true ∧
      matchesType (mismatched.expectedType 0) x.known = false) ∧
    (let x := inExchange { laneAbsent with phase := .mismatch, known := some ⟨1, 16⟩, list := [] }
      (some ⟨.disable, none⟩) .scanDisable .awaiting [.ack]
    LaneLaws x ∧ ∃ ex, Awaits x ex .ack []) :=
  ⟨⟨laneLaws_of (by decide +kernel), ⟨_, ⟨rfl, rfl, rfl⟩, rfl⟩, by decide, by decide⟩, by decide +kernel, by decide +kernel,
    ⟨laneLaws_of (by decide +kernel), controlLaws_of (by decide +kernel), controlLaws_of (by decide +kernel),
      ⟨_, ⟨rfl, rfl, rfl⟩⟩, by decide +kernel, by decide +kernel⟩,
    ⟨laneLaws_of (by decide +kernel), ⟨_, ⟨rfl, rfl, rfl⟩⟩⟩⟩

/-- An internal RESCAN, a host RESCAN and IDENTIFY, and the last byte of a LAMP exchange with a waiter that is reached and
one that is not. -/
theorem witness_HostCommandsAndLampUpdatesSucceed :
    (let x := inExchange laneUp (some ⟨.rescan, none⟩) .scanEnable .awaiting [.ack]
    LaneLaws x ∧ (∃ ex, Awaits x ex .ack []) ∧ x.inProgress = some ⟨.rescan, none⟩) ∧
    (let x := inExchange laneUp (some ⟨.rescan, some 1⟩) .scanEnable .awaiting [.ack]
    LaneLaws x ∧ ∃ ex, Awaits x ex .ack []) ∧
    (let x := inExchange laneUp (some ⟨.identify, some 1⟩) .identify .awaiting [.lampCount]
    LaneLaws x ∧ (∃ ex, Awaits x ex .lampCount [] ∧ ex.typeTaken = 1) ∧
      matchesType (ready.expectedType 0) (some ⟨1, 16⟩) = true) ∧
    (let x : Lane := { inExchange { laneUp with
      desired := 3, desiredVersion := 2, sent := some (1, 1), waiters := [⟨1, 1⟩, ⟨2, 2⟩], list := [⟨.lamp, none⟩] }
      (some ⟨.lamp, none⟩) (.setLamps 1 0) .awaiting [.ack] with
      exchange := some ⟨.setLamps 1 0, 1, 2, true, [.ack], 0, ⟨1000, 25⟩⟩ }
    LaneLaws x ∧ (∃ ex, Awaits x ex .ack [] ∧ ex.byteIndex = 2) ∧ x.sent = some (1, 1)) :=
  ⟨⟨laneLaws_of (by decide +kernel), ⟨_, ⟨rfl, rfl, rfl⟩⟩, rfl⟩,
    ⟨laneLaws_of (by decide +kernel), ⟨_, ⟨rfl, rfl, rfl⟩⟩⟩,
    ⟨laneLaws_of (by decide +kernel), ⟨_, ⟨rfl, rfl, rfl⟩, rfl⟩, by decide +kernel⟩,
    ⟨laneLaws_of (by decide +kernel), ⟨_, ⟨rfl, rfl, rfl⟩, rfl⟩, rfl⟩⟩

/-- A host RESET-MODULE, and on lane 1, which wants type 01h, a host IDENTIFY told of type 02h. -/
theorem witness_HostCommandEndsTheStay :
    (let x := inExchange laneUp (some ⟨.resetModule, some 1⟩) .resetModule .awaiting [.ack]
    LaneLaws x ∧ ∃ ex, Awaits x ex .ack []) ∧
    (let x := inExchange laneUp (some ⟨.identify, some 1⟩) .identify .awaiting [.lampCount]
    LaneLaws x ∧ (∃ ex, Awaits x ex .lampCount []) ∧ (0x10 : Byte) ≤ 0x10#8) ∧
    matchesType (ready.expectedType 1) (some ⟨2, 16⟩) = false :=
  ⟨⟨laneLaws_of (by decide +kernel), ⟨_, ⟨rfl, rfl, rfl⟩⟩⟩,
    ⟨laneLaws_of (by decide +kernel), ⟨_, ⟨rfl, rfl, rfl⟩⟩, by decide⟩, by decide +kernel⟩

/-! ### Invariants: lawful states with a command in front -/

/-- What every invariant statement assumes of a state and a step. -/
def MeetsInvariantHypotheses : Prop := ∃ s t : State, pendingWf s ∧ SafeState s ∧ step s = .next t

/-- A lawful state with commands that wait, and the step from it. -/
theorem witness_StepsKeepTheLaws :
    pendingWf { delivering with pending := [.reportFrameStart, .getStatus 9 []] } ∧
    SafeState { delivering with pending := [.reportFrameStart, .getStatus 9 []] } ∧
    ∃ t, step { delivering with pending := [.reportFrameStart, .getStatus 9 []] } = .next t :=
  ⟨fun c h => by
      simp only [List.mem_cons, List.not_mem_nil, or_false] at h
      rcases h with rfl | rfl <;> decide +kernel,
    safeState_of (by decide +kernel), ⟨_, rfl⟩⟩

theorem witness_StepsKeepTheDeliveryLaws : MeetsInvariantHypotheses :=
  let ⟨h, k, t, e⟩ := witness_StepsKeepTheLaws; ⟨_, t, h, k, e⟩

theorem witness_StepsForgetNoRequest : MeetsInvariantHypotheses :=
  let ⟨h, k, t, e⟩ := witness_StepsKeepTheLaws; ⟨_, t, h, k, e⟩

theorem witness_StepsKeepTheLaneLaws : MeetsInvariantHypotheses :=
  let ⟨h, k, t, e⟩ := witness_StepsKeepTheLaws; ⟨_, t, h, k, e⟩

theorem witness_StepsKeepImagesStoreAndControlsLawful : MeetsInvariantHypotheses :=
  let ⟨h, k, t, e⟩ := witness_StepsKeepTheLaws; ⟨_, t, h, k, e⟩

theorem witness_StepsKeepTheLanesAsSet : MeetsInvariantHypotheses :=
  let ⟨h, k, t, e⟩ := witness_StepsKeepTheLaws; ⟨_, t, h, k, e⟩

end Sys2Proof.Tests
end

section
/-! A Translator turn that takes a byte (R63 to R67), and what it means for the key of a bound control (R71):
the turn is the action of R8 on the Control Table with the parts of `ByteTaken` around it. -/

namespace Sys2Proof.Machine

/-! ## Control Table reads after updates -/

theorem State.control_setControl (s : State) (c k : ControlId) (x : ControlState) :
    (s.setControl c x).control k = if c = k then x else s.control k := by
  unfold State.control State.setControl
  rw [lookupKey_insertKey]
  split <;> rfl

@[simp] theorem State.control_setControl_self (s : State) (c : ControlId) (x : ControlState) :
    (s.setControl c x).control c = x := by
  rw [State.control_setControl, if_pos rfl]

theorem State.control_setControl_ne (s : State) {c k : ControlId} (h : k ≠ c) (x : ControlState) :
    (s.setControl c x).control k = s.control k := by
  rw [State.control_setControl, if_neg h.symm]

@[simp] theorem State.control_setSelection (s : State) (g : GroupId) (o : Option ControlId) (k : ControlId) :
    (s.setSelection g o).control k = s.control k := rfl

@[simp] theorem State.selection_setControl (s : State) (c : ControlId) (x : ControlState) (g : GroupId) :
    (s.setControl c x).selection g = s.selection g := rfl

@[simp] theorem State.selection_setSelection_self (s : State) (g : GroupId) (o : Option ControlId) :
    (s.setSelection g o).selection g = o := by
  rw [State.selection_setSelection, if_pos rfl]

@[simp] theorem State.definition_setControl (s : State) (c : ControlId) (x : ControlState) (k : ControlId) :
    (s.setControl c x).definition k = s.definition k := rfl

@[simp] theorem State.definition_setSelection (s : State) (g : GroupId) (o : Option ControlId) (k : ControlId) :
    (s.setSelection g o).definition k = s.definition k := rfl

@[simp] theorem State.selections_setControl (s : State) (c : ControlId) (x : ControlState) :
    (s.setControl c x).table.selections = s.table.selections := rfl

@[simp] theorem State.selections_setSelection (s : State) (g : GroupId) (o : Option ControlId) :
    (s.setSelection g o).table.selections = s.table.selections.set g o := rfl

/-! ## Lit values and handed lamps (R17, R18) -/

@[simp] theorem litOf_momentary (x : ControlState) (selected : Bool) :
    litOf .momentary .normal x selected = decide (x.physical = .down) := rfl

@[simp] theorem litOf_toggle (x : ControlState) (selected : Bool) : litOf .toggle .normal x selected = x.latched := rfl

@[simp] theorem litOf_member (g : GroupId) (x : ControlState) (selected : Bool) :
    litOf (.member g) .normal x selected = selected := rfl

/-- An INVERTED sense reverses the value that a NORMAL lamp shows (R17). -/
theorem litOf_sense (kind : ControlKind) (sense : Sense) (x : ControlState) (selected : Bool) :
    litOf kind sense x selected =
      if sense = .inverted then !litOf kind .normal x selected else litOf kind .normal x selected := by
  cases sense <;> rfl

theorem State.isSelected_member (s : State) (c : ControlId) {d : ControlDef} {g : GroupId} (h : d.kind = .member g) :
    s.isSelected c d = decide (s.selection g = some c) := by
  simp [State.isSelected, h]

/-- What a defined control hands is the value its NORMAL lamp would show, put through its sense. -/
theorem State.handedLamp_of_definition (s : State) {c : ControlId} {d : ControlDef} (h : s.definition c = some d) :
    s.handedLamp c = lampValue d (litOf d.kind .normal (s.control c) (s.isSelected c d)) := by
  simp only [State.handedLamp, lampValue, h]
  cases d.lamp with
  | none => rfl
  | some r => exact congrArg (fun lit => [(r.position, lit)]) (litOf_sense d.kind r.sense _ _)

@[simp] theorem State.handedLamps_nil (s : State) : s.handedLamps [] = [] := rfl

@[simp] theorem State.handedLamps_cons (s : State) (c : ControlId) (cs : List ControlId) :
    s.handedLamps (c :: cs) = s.handedLamp c ++ s.handedLamps cs := List.flatMap_cons

/-! ## Records, lanes and lamps of a turn (R31, R67, R123) -/

/-- Placing a record touches the queue only, as `queueWith` says. -/
theorem placeRecord_eq (s : State) (e : Option Event) : placeRecord s e = { s with queue := queueWith s e } := by
  cases e with
  | none => rfl
  | some e => cases h : s.delivery.state <;> simp [placeRecord, queueWith, appendRecord, h]

/-- Settling a lane that stayed in its phase and was handed a desired image is `withDesired` (R123). -/
theorem settleLane_desired {before x : Lane} (image : Half) (phase : x.phase = before.phase)
    (desired : x.desired = before.desired) :
    settleLane before { x with desired := image } = x.withDesired image := by
  have started : ¬(before.phase ≠ .running ∧ x.phase = .running) := fun ⟨hb, hx⟩ => hb (phase ▸ hx)
  have kept : image = x.desired → { x with desired := image } = x := fun h => by rw [h]
  simp only [settleLane, if_neg started, Lane.withDesired, ← desired]
  split
  · next h => exact kept h
  · rfl

/-! ## The turn -/

theorem exec_translatorTurn (s : State) : exec .translatorTurn s = execTranslatorTurn s := rfl

/-- A turn that takes a byte is served to its end, and the lamps of the happening are settled (R63 to R65). -/
theorem TurnTakes.exec_eq {s : State} {l : LaneId} {b : Byte} (h : TurnTakes s l b) :
    exec .translatorTurn s = .next (settleLamps s (advanceStart (takeByte s l b) l)) := by
  obtain ⟨running, started, free, chosen, noStatus, byte, served⟩ := h
  have turn : takeTurn s = advanceStart (takeByte s l b) l := by
    cases mode : s.config.mode with
    | startup => exact absurd mode started
    | run => simp [takeTurn, serveLane, mode, free, chosen, noStatus, byte, served]
    | config => simp [takeTurn, serveLane, mode, free, chosen, noStatus, byte, served]
  rw [exec_translatorTurn, execTranslatorTurn, whenRunning_running running, turn]

/-- Where no two controls share a binding, the lookup of a bound key finds its control (R71, R140). -/
theorem State.boundControl_of_binding {s : State} {l : LaneId} {ext : Bool} {b : Byte} {c : ControlId} {d : ControlDef}
    (distinct : s.config.working.distinctBindings) (defined : s.definition c = some d)
    (bound : d.binding = some ⟨l, ext, b⟩) : s.boundControl l ext b = some (c, d) := by
  have mem : (c, d) ∈ s.config.working.controls := mem_of_lookupKey defined
  obtain ⟨before, after, listed⟩ := List.append_of_mem mem
  have unmatched : ∀ e ∈ before, e.2.binding ≠ some ⟨l, ext, b⟩ := by
    intro e he same
    have pairs := distinct
    unfold ConfigImage.distinctBindings at pairs
    rw [listed, List.pairwise_append] at pairs
    obtain ⟨-, -, apart⟩ := pairs
    rcases apart e he (c, d) (by simp) with absent | different
    · rw [same] at absent; cases absent
    · exact different (same.trans bound.symm)
  unfold State.boundControl
  rw [listed, List.find?_append, List.find?_eq_none.mpr (by simpa using unmatched)]
  simp [bound]

/-- A key code is neither EXT nor REL, so it completes with the flags that the lane holds (R69). -/
theorem classifyByte_keyCode {b : Byte} (h : isKeyCode b) (p : PrefixState) :
    classifyByte p b = .completed p.isExtended p.isRelease := by
  obtain ⟨low, high⟩ := h
  have notExt : b ≠ extByte := by rintro rfl; exact absurd high (by decide)
  have notRel : b ≠ relByte := by rintro rfl; exact absurd high (by decide)
  unfold classifyByte
  rw [if_neg notExt, if_neg notRel, if_pos ⟨low, high⟩]

theorem PrefixState.isExtended_eq (p : PrefixState) : p.isExtended = decide (p = .ext ∨ p = .extRel) := by
  cases p <;> rfl

theorem PrefixState.isRelease_eq (p : PrefixState) : p.isRelease = decide (p = .rel ∨ p = .extRel) := by
  cases p <;> rfl

/-! ## The turn of a bound key (R8, R71) -/

/-- What an action changes in the Control Table is all it changes, lamps aside (R8). -/
theorem actionState_frame (s : State) (c : ControlId) (d : ControlDef) (release : Bool) :
    ∃ table, actionState s c d release = { s with table := table } := by
  unfold actionState pressState
  repeat' split
  all_goals exact ⟨_, rfl⟩

section

variable {s : State} {l : LaneId} {b : Byte} {c : ControlId} {d : ControlDef} {release : Bool}

/-- The byte of a key turn completes the code of the key of its control. -/
theorem KeyTurn.classify (h : KeyTurn s l b c d release) :
    classifyByte (s.prefixOf l) b = .completed (s.prefixOf l).isExtended release := by
  obtain ⟨-, definitions, -⟩ := h.image
  have code : isKeyCode b := definitions (c, d) (mem_of_lookupKey h.defined) _ h.bound
  rw [classifyByte_keyCode code, (s.prefixOf l).isRelease_eq, h.released]

/-- The lookup of a key turn finds its control (R71). -/
theorem KeyTurn.boundControl (h : KeyTurn s l b c d release) :
    s.boundControl l (s.prefixOf l).isExtended b = some (c, d) := by
  obtain ⟨-, -, distinct, -⟩ := h.image
  refine State.boundControl_of_binding distinct h.defined ?_
  rw [h.bound, (s.prefixOf l).isExtended_eq]

/-- Taking the byte of a key turn: the action whole, its record, the lane's flags and the slot (R67, R71). -/
theorem KeyTurn.takeByte_eq (h : KeyTurn s l b c d release) :
    takeByte s l b =
      (placeRecord ((takeAction s c d release).setPrefix l .none) (actionEvent s c d release)).modLane l
        Lane.slotTaken := by
  have event : byteEvent s l b = actionEvent s c d release := by
    simp only [byteEvent, h.classify, h.mode, h.boundControl]
  have routed : routeCode s l (s.prefixOf l).isExtended release b = takeAction s c d release := by
    simp only [routeCode, h.mode, h.boundControl]
  simp only [takeByte, h.classify, event, routed, Taken.nextPrefix]

end

/-- Where the turn of an action ends that left the table as `u` has it: the lamps handed, the lane's flags cleared, the
record placed, the slot emptied, the starting lane moved (R67). -/
def turnEnd (u : State) (l : LaneId) (event : Option Event) (handed : List (LampPosition × Bool)) : State :=
  advanceStart ((placeRecord ((u.writeLamps handed).setPrefix l .none) event).modLane l Lane.slotTaken) l

/-- Beside the lanes, the end of a turn changes the queue and the Translator. -/
theorem turnEnd_frame (u : State) (l : LaneId) (event : Option Event) (handed : List (LampPosition × Bool)) :
    ∃ lanes, turnEnd u l event handed =
      { u with
        lanes := lanes
        queue := queueWith u event
        translator := { u.translator with prefixes := u.translator.prefixes.set l .none, start := l + 1 } } := by
  unfold turnEnd
  rw [placeRecord_eq]
  exact ⟨_, rfl⟩

/-- A lane at the end of a turn: the slot of lane `l` is taken, and every lane has the image handed to it. -/
theorem lane_turnEnd (u : State) (l k : LaneId) (event : Option Event) (handed : List (LampPosition × Bool)) :
    (turnEnd u l event handed).lane k =
      { (if k = l then (u.lane l).slotTaken else u.lane k) with desired := handedImage k (u.lane k) handed } := by
  have moved : (turnEnd u l event handed).lane k =
      if k = l then ((u.writeLamps handed).lane k).slotTaken else (u.writeLamps handed).lane k := by
    unfold turnEnd
    rw [placeRecord_eq]
    exact State.lane_modLane _ l k _
  rw [moved, State.lane_writeLamps]
  split
  · next same => subst same; rfl
  · rfl

/-- A turn's end over a changed table, with its lamps settled, is what `ByteTaken` says. -/
theorem byteTaken_turnEnd (s : State) (table : ControlTable) (l : LaneId) (event : Option Event)
    (handed : List (LampPosition × Bool)) :
    ByteTaken s (settleLamps s (turnEnd { s with table := table } l event handed)) l event handed := by
  have lanes : ∀ k, (settleLamps s (turnEnd { s with table := table } l event handed)).lane k =
      (if k = l then (s.lane l).slotTaken else s.lane k).withDesired (handedImage k (s.lane k) handed) := by
    intro k
    rw [lane_settleLamps, lane_turnEnd]
    split
    · next same => subst same; exact settleLane_desired _ rfl rfl
    · exact settleLane_desired _ rfl rfl
  obtain ⟨_, frame⟩ := turnEnd_frame { s with table := table } l event handed
  rw [frame] at lanes ⊢
  exact {
    time := rfl, line := rfl, delivery := rfl, link := rfl, requests := rfl, config := rfl, store := rfl
    pending := rfl, queue := rfl, translator := rfl, lanes := lanes }

section

variable {s : State} {l : LaneId} {b : Byte} {c : ControlId} {d : ControlDef} {release : Bool}

/-- A key turn is its action on the Control Table, with the record and the lamps that the action gives (R8, R67). -/
theorem KeyTurn.acts (h : KeyTurn s l b c d release) {u : State} {event : Option Event}
    {handed : List (LampPosition × Bool)}
    (state : actionState s c d release = u) (record : actionEvent s c d release = event)
    (lamps : u.handedLamps (c :: previousMember event) = handed) :
    ∃ t, exec .translatorTurn s = .next t ∧ (∀ k, t.control k = u.control k) ∧
      t.table.selections = u.table.selections ∧ ByteTaken s t l event handed := by
  have action : takeAction s c d release = u.writeLamps handed := by
    simp only [takeAction, state, record, lamps]
  have ending : advanceStart (takeByte s l b) l = turnEnd u l event handed := by
    rw [h.takeByte_eq, record, action]
    rfl
  have kept : (turnEnd u l event handed).table = u.table := by
    obtain ⟨_, frame⟩ := turnEnd_frame u l event handed
    rw [frame]
  refine ⟨_, h.takes.exec_eq, ?_⟩
  rw [ending]
  refine ⟨fun k => ?_, ?_, ?_⟩
  · simp only [State.control, settleLamps_table, kept]
  · rw [settleLamps_table, kept]
  · obtain ⟨table, frame⟩ := actionState_frame s c d release
    rw [← state, frame]
    exact byteTaken_turnEnd s table l event handed

/-- A key turn whose action sets its own control only hands that control's lamp (R8). -/
theorem KeyTurn.acts_control (h : KeyTurn s l b c d release) {x : ControlState} {event : Option Event}
    (state : actionState s c d release = s.setControl c x) (record : actionEvent s c d release = event)
    (alone : previousMember event = []) :
    ∃ t, exec .translatorTurn s = .next t ∧ t.control c = x ∧ (∀ k, k ≠ c → t.control k = s.control k) ∧
      t.table.selections = s.table.selections ∧
      ByteTaken s t l event (lampValue d (litOf d.kind .normal x (s.isSelected c d))) := by
  have lamps : (s.setControl c x).handedLamps (c :: previousMember event) =
      lampValue d (litOf d.kind .normal x (s.isSelected c d)) := by
    rw [alone, State.handedLamps_cons, (s.setControl c x).handedLamp_of_definition h.defined,
      State.control_setControl_self]
    exact List.append_nil _
  obtain ⟨t, turn, control, selections, taken⟩ := h.acts state record lamps
  refine ⟨t, turn, ?_, fun k other => ?_, selections, taken⟩
  · rw [control, State.control_setControl_self]
  · rw [control, State.control_setControl_ne s other]

/-- A key turn whose action sets a MEMBER control and its group's selection, where no other member loses it
(R11). -/
theorem KeyTurn.acts_selection (h : KeyTurn s l b c d release) {g : GroupId} (kind : d.kind = .member g)
    {x : ControlState} {chosen : Option ControlId} {event : Option Event}
    (state : actionState s c d release = (s.setControl c x).setSelection g chosen)
    (record : actionEvent s c d release = event) (alone : previousMember event = []) :
    ∃ t, exec .translatorTurn s = .next t ∧ t.control c = x ∧ (∀ k, k ≠ c → t.control k = s.control k) ∧
      t.table.selections = s.table.selections.set g chosen ∧
      ByteTaken s t l event (lampValue d (decide (chosen = some c))) := by
  have lamps : ((s.setControl c x).setSelection g chosen).handedLamps (c :: previousMember event) =
      lampValue d (decide (chosen = some c)) := by
    rw [alone, State.handedLamps_cons, ((s.setControl c x).setSelection g chosen).handedLamp_of_definition h.defined,
      State.isSelected_member _ c kind, kind, litOf_member, State.selection_setSelection_self]
    exact List.append_nil _
  obtain ⟨t, turn, control, selections, taken⟩ := h.acts state record lamps
  refine ⟨t, turn, ?_, fun k other => ?_, selections, taken⟩
  · rw [control, State.control_setSelection, State.control_setControl_self]
  · rw [control, State.control_setSelection, State.control_setControl_ne s other]

end

/-! ## Releases and repeats, of every kind (R9 to R12) -/

@[simp] theorem ControlState.withPhysical_physical (now : Word) (p : Physical) (x : ControlState) :
    (x.withPhysical now p).physical = p := by
  unfold ControlState.withPhysical
  split
  · next h => exact h
  · rfl

@[simp] theorem ControlState.withPhysical_latched (now : Word) (p : Physical) (x : ControlState) :
    (x.withPhysical now p).latched = x.latched := by
  unfold ControlState.withPhysical
  split <;> rfl

theorem actionEvent_release_momentary (s : State) (c : ControlId) {d : ControlDef} (kind : d.kind = .momentary) :
    actionEvent s c d true = if (s.control c).physical = .down then some (.release c) else none := by
  simp [actionEvent, kind]

theorem actionEvent_release_of_ne (s : State) (c : ControlId) {d : ControlDef} (kind : d.kind ≠ .momentary) :
    actionEvent s c d true = none := by
  unfold actionEvent
  split <;> simp_all

/-- A repeat yields no record, whatever the kind. -/
theorem actionEvent_repeat {s : State} {c : ControlId} (d : ControlDef) (down : (s.control c).physical = .down) :
    actionEvent s c d false = none := by
  cases kind : d.kind <;> simp [actionEvent, kind, down]

/-- No release names a previous member. -/
theorem previousMember_release (s : State) (c : ControlId) (d : ControlDef) :
    previousMember (actionEvent s c d true) = [] := by
  by_cases kind : d.kind = .momentary
  · rw [actionEvent_release_momentary s c kind]
    split <;> rfl
  · rw [actionEvent_release_of_ne s c kind]
    rfl

section

variable {s : State} {l : LaneId} {b : Byte} {c : ControlId} {d : ControlDef}

/-- A release makes the control UP and keeps every selection; last change is set if it was not UP (R4). -/
theorem KeyTurn.released_up (h : KeyTurn s l b c d true) :
    ∃ t, exec .translatorTurn s = .next t ∧ t.control c = (s.control c).withPhysical s.time.uptime .up ∧
      (∀ k, k ≠ c → t.control k = s.control k) ∧ t.table.selections = s.table.selections ∧
      ByteTaken s t l (actionEvent s c d true)
        (lampValue d
          (litOf d.kind .normal ((s.control c).withPhysical s.time.uptime .up) (s.isSelected c d))) :=
  h.acts_control rfl rfl (previousMember_release s c d)

/-- A press that finds the control DOWN changes nothing of the Control Table; its lamp is handed. -/
theorem KeyTurn.repeated (h : KeyTurn s l b c d false) (down : (s.control c).physical = .down) :
    ∃ t, exec .translatorTurn s = .next t ∧ (∀ k, t.control k = s.control k) ∧
      t.table.selections = s.table.selections ∧
      ByteTaken s t l none (lampValue d (litOf d.kind .normal (s.control c) (s.isSelected c d))) := by
  refine h.acts (by simp [actionState, down]) (actionEvent_repeat d down) ?_
  rw [State.handedLamps_cons, s.handedLamp_of_definition h.defined]
  exact List.append_nil _

end

/-- A control that a press found UP or UNKNOWN (R4, R9 to R11). -/
def ControlState.pressed (now : Word) (x : ControlState) : ControlState :=
  { x with physical := .down, lastChange := some now }

@[simp] theorem ControlState.pressed_physical (now : Word) (x : ControlState) :
    (x.pressed now).physical = .down := rfl

/-- A press that finds the control UP or UNKNOWN is taken by the control's kind. -/
theorem actionState_press {s : State} {c : ControlId} (d : ControlDef) (fresh : (s.control c).physical ≠ .down) :
    actionState s c d false = pressState s c d := by
  simp [actionState, fresh]

end Sys2Proof.Machine
end

section
/-! MOMENTARY and TOGGLE controls (R9, R10). -/

namespace Sys2Proof.Machine

section

variable {s : State} {l : LaneId} {b : Byte} {c : ControlId} {d : ControlDef}

/-- A MOMENTARY press that finds the key not DOWN (R9). -/
theorem KeyTurn.pressed_momentary (h : KeyTurn s l b c d false) (kind : d.kind = .momentary)
    (fresh : (s.control c).physical ≠ .down) :
    ∃ t, exec .translatorTurn s = .next t ∧ t.control c = (s.control c).pressed s.time.uptime ∧
      (∀ k, k ≠ c → t.control k = s.control k) ∧ t.table.selections = s.table.selections ∧
      ByteTaken s t l (some (.press c)) (lampValue d true) := by
  have state : actionState s c d false = s.setControl c ((s.control c).pressed s.time.uptime) := by
    simp [actionState_press d fresh, pressState, ControlState.pressed, kind]
  have record : actionEvent s c d false = some (.press c) := by simp [actionEvent, kind, fresh]
  simpa [kind] using h.acts_control state record rfl

/-- A TOGGLE press that finds the key not DOWN flips the latched value (R10). -/
theorem KeyTurn.pressed_toggle (h : KeyTurn s l b c d false) (kind : d.kind = .toggle)
    (fresh : (s.control c).physical ≠ .down) :
    ∃ t, exec .translatorTurn s = .next t ∧
      t.control c = ⟨.down, !(s.control c).latched, some s.time.uptime⟩ ∧
      (∀ k, k ≠ c → t.control k = s.control k) ∧ t.table.selections = s.table.selections ∧
      ByteTaken s t l (some (.toggled c (!(s.control c).latched))) (lampValue d (!(s.control c).latched)) := by
  have state : actionState s c d false = s.setControl c ⟨.down, !(s.control c).latched, some s.time.uptime⟩ := by
    simp [actionState_press d fresh, pressState, kind]
  have record : actionEvent s c d false = some (.toggled c (!(s.control c).latched)) := by
    simp [actionEvent, kind, fresh]
  simpa [kind] using h.acts_control state record rfl

end

/-- Settles O42, by release, repeat and fresh press of each kind. -/
theorem momentaryAndToggleFollowTheirKeys : Obligations.MomentaryAndToggleFollowTheirKeys := by
  unfold Obligations.MomentaryAndToggleFollowTheirKeys
  refine ⟨fun s l b c d release h kind => ?_, fun s l b c d release h kind => ?_⟩
  · cases release with
    | true =>
      obtain ⟨t, turn, control, others, selections, taken⟩ := h.released_up
      refine ⟨t, turn, selections, others, ?_, control⟩
      simpa [actionEvent_release_momentary s c kind, kind] using taken
    | false =>
      by_cases down : (s.control c).physical = .down
      · obtain ⟨t, turn, controls, selections, taken⟩ := h.repeated down
        exact ⟨t, turn, selections, fun k _ => controls k, by simpa [kind, down] using taken,
          by simpa [down] using controls c⟩
      · obtain ⟨t, turn, control, others, selections, taken⟩ := h.pressed_momentary kind down
        exact ⟨t, turn, selections, others, by simpa [down] using taken,
          by simpa [ControlState.pressed, down] using control⟩
  · cases release with
    | true =>
      obtain ⟨t, turn, control, others, selections, taken⟩ := h.released_up
      refine ⟨t, turn, selections, others, ?_, control⟩
      simpa [actionEvent_release_of_ne s c, kind] using taken
    | false =>
      by_cases down : (s.control c).physical = .down
      · obtain ⟨t, turn, controls, selections, taken⟩ := h.repeated down
        exact ⟨t, turn, selections, fun k _ => controls k, by simpa [kind, down] using taken,
          by simpa [down] using controls c⟩
      · obtain ⟨t, turn, control, others, selections, taken⟩ := h.pressed_toggle kind down
        exact ⟨t, turn, selections, others, by simpa [down] using taken, by simpa [down] using control⟩

end Sys2Proof.Machine
end

section
/-! MEMBER controls (R11, R12). -/

namespace Sys2Proof.Machine

section

variable {s : State} {l : LaneId} {b : Byte} {c : ControlId} {d : ControlDef} {g : GroupId}

/-- A press of the selected member of a FORCED group only makes it DOWN (R11). -/
theorem KeyTurn.pressed_forced (h : KeyTurn s l b c d false) (kind : d.kind = .member g)
    (fresh : (s.control c).physical ≠ .down)
    (selected : s.selection g = some c) (mode : s.groupMode g = .forced) :
    ∃ t, exec .translatorTurn s = .next t ∧ t.control c = (s.control c).pressed s.time.uptime ∧
      (∀ k, k ≠ c → t.control k = s.control k) ∧ t.table.selections = s.table.selections ∧
      ByteTaken s t l none (lampValue d true) := by
  have state : actionState s c d false = s.setControl c ((s.control c).pressed s.time.uptime) := by
    simp [actionState_press d fresh, pressState, ControlState.pressed, kind, selected, mode]
  have record : actionEvent s c d false = none := by simp [actionEvent, kind, fresh, selected, mode]
  simpa [kind, State.isSelected_member s c kind, selected] using h.acts_control state record rfl

/-- A press of the selected member of an OPTIONAL group deselects it (R11). -/
theorem KeyTurn.pressed_optional (h : KeyTurn s l b c d false) (kind : d.kind = .member g)
    (fresh : (s.control c).physical ≠ .down)
    (selected : s.selection g = some c) (mode : s.groupMode g = .optional) :
    ∃ t, exec .translatorTurn s = .next t ∧ t.control c = (s.control c).pressed s.time.uptime ∧
      (∀ k, k ≠ c → t.control k = s.control k) ∧ t.table.selections = s.table.selections.set g none ∧
      ByteTaken s t l (some (.deselected g c)) (lampValue d false) := by
  have state : actionState s c d false =
      (s.setControl c ((s.control c).pressed s.time.uptime)).setSelection g none := by
    simp [actionState_press d fresh, pressState, ControlState.pressed, kind, selected, mode]
  have record : actionEvent s c d false = some (.deselected g c) := by
    simp [actionEvent, kind, fresh, selected, mode]
  simpa using h.acts_selection kind state record rfl

/-- A press of a member of a group without a selection selects it (R11). -/
theorem KeyTurn.pressed_first (h : KeyTurn s l b c d false) (kind : d.kind = .member g)
    (fresh : (s.control c).physical ≠ .down)
    (unselected : s.selection g = none) :
    ∃ t, exec .translatorTurn s = .next t ∧ t.control c = (s.control c).pressed s.time.uptime ∧
      (∀ k, k ≠ c → t.control k = s.control k) ∧ t.table.selections = s.table.selections.set g (some c) ∧
      ByteTaken s t l (some (.selected g c none)) (lampValue d true) := by
  have state : actionState s c d false =
      (s.setControl c ((s.control c).pressed s.time.uptime)).setSelection g (some c) := by
    simp [actionState_press d fresh, pressState, ControlState.pressed, kind, unselected]
  have record : actionEvent s c d false = some (.selected g c none) := by
    simp [actionEvent, kind, fresh, unselected]
  simpa using h.acts_selection kind state record rfl

/-- The table after the selection of a group moves from a member `p` to a pressed member `c` (R4, R11). -/
def movedSelection (s : State) (g : GroupId) (c p : ControlId) : State :=
  ((s.setControl p ((s.control p).touched s.time.uptime)).setControl c
    ((s.control c).pressed s.time.uptime)).setSelection g (some c)

/-- `movedSelection` is what the model makes of a press of another member than the selected one. -/
theorem actionState_moved {s : State} {c p : ControlId} {d : ControlDef} {g : GroupId} (kind : d.kind = .member g)
    (fresh : (s.control c).physical ≠ .down) (previous : s.selection g = some p) (other : p ≠ c) :
    actionState s c d false = movedSelection s g c p := by
  simp [actionState_press d fresh, pressState, movedSelection, ControlState.pressed, kind, previous, other]

/-- Both members hand their lamps when the selection moves: the new one lit, the previous one not (R11, R18). -/
theorem handedLamps_movedSelection {s : State} {c p : ControlId} {d o : ControlDef} {g : GroupId}
    (defined : s.definition c = some d) (kind : d.kind = .member g) (previous : s.definition p = some o)
    (previousKind : o.kind = .member g) (other : p ≠ c) :
    (movedSelection s g c p).handedLamps [c, p] = lampValue d true ++ lampValue o false := by
  have selection : (movedSelection s g c p).selection g = some c := State.selection_setSelection_self _ g _
  have new : (movedSelection s g c p).handedLamp c = lampValue d true := by
    rw [(movedSelection s g c p).handedLamp_of_definition defined, State.isSelected_member _ c kind, kind,
      litOf_member, selection]
    simp
  have old : (movedSelection s g c p).handedLamp p = lampValue o false := by
    rw [(movedSelection s g c p).handedLamp_of_definition previous, State.isSelected_member _ p previousKind,
      previousKind, litOf_member, selection]
    simp [other.symm]
  simp [new, old]

/-- A press of another member than the selected one moves the selection to it (R11). -/
theorem KeyTurn.pressed_other {p : ControlId} {o : ControlDef}
    (h : KeyTurn s l b c d false) (kind : d.kind = .member g) (fresh : (s.control c).physical ≠ .down)
    (previous : s.selection g = some p) (other : p ≠ c) (defined : s.definition p = some o) :
    ∃ t, exec .translatorTurn s = .next t ∧ t.control c = (s.control c).pressed s.time.uptime ∧
      t.control p = { s.control p with lastChange := some s.time.uptime } ∧
      (∀ k, k ≠ c → k ≠ p → t.control k = s.control k) ∧
      t.table.selections = s.table.selections.set g (some c) ∧
      ByteTaken s t l (some (.selected g c (some p))) (lampValue d true ++ lampValue o false) := by
  have previousKind : o.kind = .member g := by
    obtain ⟨o', defined', kind'⟩ := h.controls.selected g p previous
    cases defined.symm.trans defined'
    exact kind'
  have record : actionEvent s c d false = some (.selected g c (some p)) := by
    simp [actionEvent, kind, fresh, previous, other]
  obtain ⟨t, turn, control, selections, taken⟩ := h.acts (actionState_moved kind fresh previous other) record
    (handedLamps_movedSelection h.defined kind defined previousKind other)
  refine ⟨t, turn, ?_, ?_, fun k notNew notOld => ?_, selections, taken⟩
  · rw [control]
    simp [movedSelection]
  · rw [control]
    simp [movedSelection, State.control_setControl_ne _ other, ControlState.touched]
  · rw [control]
    simp [movedSelection, State.control_setControl_ne _ notNew, State.control_setControl_ne _ notOld]

end

/-- Settles O43, by the rows of R11 and the release of R12. -/
theorem memberPressMovesTheSelection : Obligations.MemberPressMovesTheSelection := by
  unfold Obligations.MemberPressMovesTheSelection
  refine ⟨fun s l b c d g h kind => ⟨fun down => ?_, h.pressed_forced kind, h.pressed_optional kind,
    h.pressed_first kind, fun fresh p o previous other defined => h.pressed_other kind fresh previous other defined⟩,
    fun s l b c d g h kind => ?_⟩
  · simpa [kind, State.isSelected_member s c kind] using h.repeated down
  · obtain ⟨t, turn, control, others, selections, taken⟩ := h.released_up
    refine ⟨t, turn, selections, others, ?_, control⟩
    simpa [actionEvent_release_of_ne s c, kind, State.isSelected_member s c kind] using taken

end Sys2Proof.Machine
end

section
/-! Event delivery (03): the session START-EVENTS opens (R42) and STOP-EVENTS closes (R47), and the expiry of the
retransmission timer (R53, R54). -/

namespace Sys2Proof.Machine

/-! ## The length and mode checks (R182) -/

section

variable {c : Instr} {s : State} {tag : Byte} {body : List Byte} {i : SlotId} {status : Status} (k : RequestKind)
  (row : requestOf c = some (tag, k.code, body)) (taken : TakenIn s tag k.code body i)
  (length : body.length = k.bodyLength)

include row taken length

/-- A taken request of its kind's length that the mode check refuses. -/
theorem exec_taken_refused (mode : modeRefusal k.modeClass s.config.mode = some status) :
    exec c s = .next (complete (placed s tag k.code body i) i (bare status)) := by
  rw [exec_taken_kind k row taken, validateKind_mode (p := placed ..) length mode]

/-- A taken request of its kind's length that passes the mode check. -/
theorem exec_taken_carried (mode : modeRefusal k.modeClass s.config.mode = none) :
    exec c s = .next (carryOut k i body (placed s tag k.code body i)) := by
  rw [exec_taken_kind k row taken, validateKind_pass (p := placed ..) length mode]

end

/-- Outside STARTUP the mode check refuses no request of the class served in RUN and CONFIG. -/
theorem modeRefusal_ready {m : Mode} (h : m ≠ .startup) : modeRefusal .ready m = none := by
  cases m with
  | startup => exact absurd rfl h
  | run => rfl
  | config => rfl

/-! ## The status-wanted flags (R42, R47) -/

/-- One change made to every lane alike is a map over the lanes. -/
theorem State.mapLanes_const (s : State) (f : Lane → Lane) :
    (s.mapLanes fun _ x => f x) = { s with lanes := s.lanes.map f } := by
  have lanes : (s.mapLanes fun _ x => f x).lanes = s.lanes.map f := by
    apply State.lanes_ext
    intro l
    simp [State.mapLanes]
  exact congrArg (fun lanes => { s with lanes := lanes }) lanes

theorem State.setAllWanted_eq (s : State) (v : Bool) :
    s.setAllWanted v = { s with lanes := s.lanes.map fun x => { x with statusWanted := v } } :=
  s.mapLanes_const _

/-! ## START-EVENTS (R42) -/

section

variable {s : State} {w : Byte} (i : SlotId)

theorem startEvents_badField (window : 64 < w.toNat) : startEvents i [w] s = complete s i (bare .badField) := by
  simp [startEvents, window]

theorem startEvents_wrongState (window : w.toNat ≤ 64) (state : s.delivery.state ≠ .off) :
    startEvents i [w] s = complete s i (bare .wrongState) := by
  simp [startEvents, window.not_gt, state]

theorem startEvents_opens (window : w.toNat ≤ 64) (state : s.delivery.state = .off) :
    startEvents i [w] s = complete (openSession s w.toNat) i ⟨.ok, [0, 0, w]⟩ := by
  have reply : be16 0 ++ [w] = [0, 0, w] := rfl
  simp only [startEvents, window.not_gt, state, reply, if_false, ne_eq, not_true]

end

theorem openSession_eq (s : State) (window : Nat) :
    openSession s window =
      { s with
        queue := { s.queue with next := 0 }
        delivery := ⟨.on, window, 0, none, 0⟩
        lanes := s.lanes.map fun x => { x with statusWanted := true } } :=
  State.setAllWanted_eq _ true

/-- Settles O14: the mode check of R182, then the window and the delivery state in the order of R42. -/
theorem startEventsOpensASession : Obligations.StartEventsOpensASession := by
  intro s tag w i taken p
  refine ⟨fun startup => exec_taken_refused .startEvents rfl taken rfl (by rw [startup]; rfl),
    fun config => exec_taken_refused .startEvents rfl taken rfl (by rw [config]; rfl), fun run => ?_⟩
  have carried : exec (.startEvents tag [w]) s = .next (startEvents i [w] p) :=
    exec_taken_carried .startEvents rfl taken rfl (by rw [run]; rfl)
  rw [carried]
  refine ⟨fun window => ?_, fun window state => ?_, fun window state => ?_⟩
  · rw [startEvents_badField (s := p) i window]
  · rw [startEvents_wrongState (s := p) i window state]
  · rw [startEvents_opens (s := p) i window state, openSession_eq]
    rfl

/-! ## STOP-EVENTS (R47) -/

/-- With delivery OFF no turn waits for queue space (R65). -/
theorem heldLane_of_off {s : State} (state : s.delivery.state = .off) : heldLane s = none := by
  have served (l : LaneId) : turnHeld s l = false := by simp [turnHeld, state]
  unfold heldLane
  split <;> simp [served]

/-- With delivery OFF a waiting turn, considered anew, waits no longer (R66). -/
theorem reconsider_of_off {s : State} (state : s.delivery.state = .off) :
    reconsider s = { s with translator := { s.translator with waiting := none } } := by
  unfold reconsider
  split
  · next free => rw [← free]
  · rw [heldLane_of_off state]

theorem closeSession_eq (s : State) :
    closeSession s =
      { s with
        queue := ⟨[], s.queue.next⟩
        delivery := ⟨.off, 0, 0, none, 0⟩
        lanes := s.lanes.map fun x => { x with statusWanted := false }
        translator := { s.translator with waiting := none } } := by
  rw [closeSession, reconsider_of_off rfl, State.setAllWanted_eq]

theorem stopEvents_off {s : State} (i : SlotId) (state : s.delivery.state = .off) (empty : s.queue.records = []) :
    stopEvents i [] s = complete s i ⟨.ok, 0 :: be16 s.queue.next⟩ := by
  simp [stopEvents, State.occupancy, state, empty, byteOf]

theorem stopEvents_closes {s : State} (i : SlotId) (state : s.delivery.state ≠ .off) :
    stopEvents i [] s =
      complete (closeSession s) i ⟨.ok, byteOf s.queue.records.length :: be16 s.queue.next⟩ := by
  simp [stopEvents, State.occupancy, state]

/-- Settles O16: the mode check of R182, then the two cases of R47; with delivery OFF the queue is empty. -/
theorem stopEventsClosesTheSession : Obligations.StopEventsClosesTheSession := by
  intro s tag i taken laws p
  refine ⟨fun startup => exec_taken_refused .stopEvents rfl taken rfl (by rw [startup]; rfl), fun ready => ?_⟩
  have carried : exec (.stopEvents tag []) s = .next (stopEvents i [] p) :=
    exec_taken_carried .stopEvents rfl taken rfl (modeRefusal_ready ready)
  rw [carried]
  refine ⟨fun state => ?_, fun state => ?_⟩
  · obtain ⟨empty, -⟩ := laws.whileOff state
    rw [stopEvents_off (s := p) i state empty]
    rfl
  · rw [stopEvents_closes (s := p) i state, closeSession_eq]
    rfl

/-! ## The retransmission timer expires (R53, R54) -/

/-- The retransmission timer runs only while delivery is ON (R38, R55). -/
theorem DeliveryLaws.on_of_timer {s : State} (laws : DeliveryLaws s) {w : Wait} (timer : s.delivery.timer = some w) :
    s.delivery.state = .on := by
  cases state : s.delivery.state with
  | on => rfl
  | off =>
    obtain ⟨-, -, stopped, -⟩ := laws.whileOff state
    rw [timer] at stopped
    cases stopped
  | stalled =>
    obtain ⟨-, stopped, -⟩ := laws.whileStalled state
    rw [timer] at stopped
    cases stopped

section

variable {s : State} {w : Wait}

/-- An expiry with nothing in flight only stops the timer (R54). -/
theorem timerExpires_stops (timer : s.delivery.timer = some w) (reached : w.reached s.time.uptime = true)
    (empty : s.delivery.inFlight = 0) :
    timerExpires s = { s with delivery := { s.delivery with timer := none } } := by
  simp [timerExpires, timer, reached, empty]

/-- An expiry with records in flight goes back (R53). -/
theorem timerExpires_retransmits (timer : s.delivery.timer = some w) (reached : w.reached s.time.uptime = true)
    (flying : 0 < s.delivery.inFlight) : timerExpires s = retransmit s := by
  simp [timerExpires, timer, reached, flying.ne']

theorem retransmit_stalls (limit : s.config.working.retransmitLimit ≤ s.delivery.retransmits + 1) :
    retransmit s =
      { s with
        delivery := { s.delivery with
          state := .stalled, inFlight := 0, retransmits := s.delivery.retransmits + 1, timer := none } } := by
  simp [retransmit, limit]

theorem retransmit_restarts (limit : s.delivery.retransmits + 1 < s.config.working.retransmitLimit) :
    retransmit s =
      { s with
        delivery := { s.delivery with
          inFlight := 0
          retransmits := s.delivery.retransmits + 1
          timer := some ⟨s.time.uptime, BitVec.ofNat 32 s.config.working.retransmitTimeout⟩ } } := by
  simp [retransmit, limit.not_ge, State.freshTimer, startWait]

end

/-- Settles O18, by the two cases of the in-flight count and the limit; the laws give the report offered at once. -/
theorem expiryGoesBackAndStallsAtTheLimit : Obligations.ExpiryGoesBackAndStallsAtTheLimit := by
  intro s w running timer reached laws
  have row : exec .retransmissionTimerExpires s = .next (timerExpires s) :=
    congrArg Host.Outcome.next (whenRunning_running running timerExpires)
  rw [row]
  refine ⟨fun empty => ?_, fun flying limit => ?_, fun flying limit => ?_⟩
  · rw [timerExpires_stops timer reached empty]
  · rw [timerExpires_retransmits timer reached flying, retransmit_stalls limit]
  · rw [timerExpires_retransmits timer reached flying, retransmit_restarts limit]
    have held : 0 < s.queue.records.length := flying.trans_le laws.inFlightHeld
    have room : 0 < s.delivery.window := flying.trans_le laws.inFlightWindow
    exact ⟨_, rfl, rfl, laws.on_of_timer timer, held, room⟩

end Sys2Proof.Machine
end

section
/-! A byte that reaches no control and no LEARN waiter: EXT and REL, CODE_ERROR, UNMAPPED, and codes discarded in CONFIG
(R69 to R72). Such a turn changes the EXT/REL state, the queue, the starting lane and the slot. -/

namespace Sys2Proof.Machine

/-! ## Classes of bytes (R68, R69) -/

theorem classifyByte_ext_none : classifyByte .none 0xB0 = .moved .ext := rfl

theorem classifyByte_rel_none : classifyByte .none 0xB8 = .moved .rel := rfl

theorem classifyByte_rel_ext : classifyByte .ext 0xB8 = .moved .extRel := rfl

/-- EXT comes first of a code's bytes. -/
theorem classifyByte_ext_late {p : PrefixState} (late : p ≠ .none) : classifyByte p 0xB0 = .offending := by
  cases p with
  | none => exact absurd rfl late
  | ext | rel | extRel => rfl

/-- REL comes at most once in a code. -/
theorem classifyByte_rel_again {p : PrefixState} (again : p = .rel ∨ p = .extRel) :
    classifyByte p 0xB8 = .offending := by
  obtain rfl | rfl := again <;> rfl

/-- A byte that is neither EXT, REL nor a key code is offending in every EXT/REL state. -/
theorem classifyByte_illegal {b : Byte} (p : PrefixState) (notExt : b ≠ extByte) (notRel : b ≠ relByte)
    (notKey : ¬isKeyCode b) : classifyByte p b = .offending := by
  unfold classifyByte
  rw [if_neg notExt, if_neg notRel, if_neg notKey]

/-- The illegal bytes below C0h, as R68 lists them. -/
theorem classifyByte_illegal_listed {b : Byte} (p : PrefixState)
    (listed : b ∈ [0x00#8, 0xB1, 0xB2, 0xB3, 0xB6, 0xB7, 0xB9, 0xBA, 0xBB, 0xBC, 0xBD]) :
    classifyByte p b = .offending := by
  have classes : ∀ x ∈ [0x00#8, 0xB1, 0xB2, 0xB3, 0xB6, 0xB7, 0xB9, 0xBA, 0xBB, 0xBC, 0xBD],
      x ≠ extByte ∧ x ≠ relByte ∧ ¬isKeyCode x := by decide
  obtain ⟨notExt, notRel, notKey⟩ := classes b listed
  exact classifyByte_illegal p notExt notRel notKey

/-- The illegal bytes from C0h up. -/
theorem classifyByte_illegal_high {b : Byte} (p : PrefixState) (high : 0xC0#8 ≤ b) :
    classifyByte p b = .offending := by
  have notExt : b ≠ extByte := by rintro rfl; exact absurd high (by decide)
  have notRel : b ≠ relByte := by rintro rfl; exact absurd high (by decide)
  have notKey : ¬isKeyCode b := fun ⟨_, low⟩ => absurd (BitVec.le_trans high low) (by decide)
  exact classifyByte_illegal p notExt notRel notKey

/-! ## The turn of a byte that reaches nothing -/

/-- The state after a turn that only moves the EXT/REL state of lane `l` to `q`, places the record `e` and takes the
slot. -/
def bareTurn (s : State) (l : LaneId) (q : PrefixState) (e : Option Event) : State :=
  ({ s with
    queue := queueWith s e
    translator :=
      { s.translator with prefixes := s.translator.prefixes.set l q, start := l + 1 } } : State).setLane l
    (s.lane l).slotTaken

/-- No binding of the working configuration is the key (R71). -/
theorem State.boundControl_eq_none {s : State} {l : LaneId} {ext : Bool} {b : Byte}
    (unbound : ∀ e ∈ s.config.working.controls, e.2.binding ≠ some ⟨l, ext, b⟩) :
    s.boundControl l ext b = none := by
  unfold State.boundControl
  exact List.find?_eq_none.mpr (by simpa using unbound)

/-- LEARN takes no release code, and no code of a lane that its waiter does not hear (R72). -/
theorem learnCode_discards {s : State} {l : LaneId} {release : Bool} (ext : Bool) (b : Byte)
    (unheard : release = true ∨ ∀ w, s.translator.learn = some w → w.hears l = false) :
    learnCode s l ext release b = s := by
  unfold learnCode
  split
  · next w waiting =>
    obtain released | deaf := unheard
    · simp [released]
    · simp [deaf w waiting]
  · rfl

/-- A waiter for one lane does not hear another. -/
theorem LearnWaiter.hears_other {w : LearnWaiter} {k l : LaneId} (lane : w.lane = some k) (other : k ≠ l) :
    w.hears l = false := by
  simp [LearnWaiter.hears, lane, other]

section

variable {s : State} {l : LaneId} {b : Byte}

/-- A turn whose byte is routed nowhere is its class's EXT/REL state and its record. -/
theorem TurnTakes.unrouted (h : TurnTakes s l b) {taken : Taken} {e : Option Event}
    (classified : classifyByte (s.prefixOf l) b = taken) (record : byteEvent s l b = e)
    (kept : ∀ ext rel, taken = .completed ext rel → routeCode s l ext rel b = s) :
    exec .translatorTurn s = .next (bareTurn s l taken.nextPrefix e) := by
  have taking : takeByte s l b = (placeRecord (s.setPrefix l taken.nextPrefix) e).modLane l Lane.slotTaken := by
    cases taken with
    | moved q => simp only [takeByte, classified, record]
    | offending => simp only [takeByte, classified, record]
    | completed ext rel => simp only [takeByte, classified, record, kept ext rel rfl]
  have ending : advanceStart (takeByte s l b) l = bareTurn s l taken.nextPrefix e := by
    rw [taking, placeRecord_eq]
    rfl
  rw [h.exec_eq, ending, bareTurn, settleLamps_same]
  intro k
  rw [State.lane_setLane]
  split
  · next same => subst same; exact ⟨rfl, rfl⟩
  · exact ⟨rfl, rfl⟩

/-- An EXT or REL in its order moves the EXT/REL state (R69). -/
theorem TurnTakes.moves (h : TurnTakes s l b) {q : PrefixState}
    (moved : classifyByte (s.prefixOf l) b = .moved q) :
    exec .translatorTurn s = .next (bareTurn s l q none) :=
  h.unrouted moved (by simp only [byteEvent, moved]) nofun

/-- An offending byte is a CODE_ERROR with the EXT/REL state it found (R70). -/
theorem TurnTakes.offends (h : TurnTakes s l b) (offending : classifyByte (s.prefixOf l) b = .offending) :
    exec .translatorTurn s = .next (bareTurn s l .none (some (.codeError l b (s.prefixOf l)))) :=
  h.unrouted offending (by simp only [byteEvent, offending]) nofun

/-- In RUN mode a key code that no control is bound to is UNMAPPED (R71). -/
theorem TurnTakes.unmapped (h : TurnTakes s l b) (code : isKeyCode b) (mode : s.config.mode = .run)
    (unbound : s.boundControl l (s.prefixOf l).isExtended b = none) :
    exec .translatorTurn s =
      .next (bareTurn s l .none
        (some (.unmapped l (s.prefixOf l).isExtended (s.prefixOf l).isRelease b))) := by
  have completed := classifyByte_keyCode code (s.prefixOf l)
  refine h.unrouted completed (by simp only [byteEvent, completed, mode, unbound]) fun ext rel flags => ?_
  obtain ⟨rfl, rfl⟩ := Taken.completed.inj flags
  simp only [routeCode, mode, unbound]

/-- In CONFIG mode a key code that LEARN does not take is discarded (R72). -/
theorem TurnTakes.discards (h : TurnTakes s l b) (code : isKeyCode b) (mode : s.config.mode = .config)
    (unheard : (s.prefixOf l).isRelease = true ∨ ∀ w, s.translator.learn = some w → w.hears l = false) :
    exec .translatorTurn s = .next (bareTurn s l .none none) := by
  have completed := classifyByte_keyCode code (s.prefixOf l)
  refine h.unrouted completed (by simp only [byteEvent, completed, mode]) fun ext rel flags => ?_
  obtain ⟨rfl, rfl⟩ := Taken.completed.inj flags
  simp only [routeCode, mode, learnCode_discards _ b unheard]

end

/-- The flags that the table of R69 gives a completed code are those of the EXT/REL state. -/
theorem PrefixState.flags_of_row {p : PrefixState} {ext rel : Bool}
    (row : (p, ext, rel) ∈ [(PrefixState.none, false, false), (.ext, true, false), (.rel, false, true),
      (.extRel, true, true)]) : p.isExtended = ext ∧ p.isRelease = rel := by
  simp only [List.mem_cons, List.not_mem_nil, or_false, Prod.mk.injEq] at row
  obtain ⟨rfl, rfl, rfl⟩ | ⟨rfl, rfl, rfl⟩ | ⟨rfl, rfl, rfl⟩ | ⟨rfl, rfl, rfl⟩ := row <;> exact ⟨rfl, rfl⟩

/-- Settles O41, by what `classifyByte` makes of each class of bytes (R68, R69) and by the mode for a completed
code. -/
theorem prefixTableClassifiesEachByte : Obligations.PrefixTableClassifiesEachByte := by
  unfold Obligations.PrefixTableClassifiesEachByte
  intro s l b p takes found base
  refine ⟨fun byte state => ?_, fun byte state => ?_, fun byte state => ?_, fun wrong => ?_,
    fun low high mode ext rel row unbound => ?_, fun low high mode unheard => ?_⟩
  · exact takes.moves (by rw [found, byte, state, classifyByte_ext_none])
  · exact takes.moves (by rw [found, byte, state, classifyByte_rel_none])
  · exact takes.moves (by rw [found, byte, state, classifyByte_rel_ext])
  · have offending : classifyByte p b = .offending := by
      obtain ⟨rfl, late⟩ | ⟨rfl, again⟩ | listed | high := wrong
      · exact classifyByte_ext_late late
      · exact classifyByte_rel_again again
      · exact classifyByte_illegal_listed p listed
      · exact classifyByte_illegal_high p high
    subst found
    exact takes.offends offending
  · subst found
    obtain ⟨rfl, rfl⟩ := PrefixState.flags_of_row row
    exact takes.unmapped ⟨low, high⟩ mode (State.boundControl_eq_none unbound)
  · refine takes.discards ⟨low, high⟩ mode ?_
    rw [found]
    obtain rfl | rfl | idle | ⟨w, k, waiting, lane, other⟩ := unheard
    · exact .inl rfl
    · exact .inl rfl
    · exact .inr fun w waiting => by rw [idle] at waiting; cases waiting
    · refine .inr fun v hears => ?_
      cases waiting.symm.trans hears
      exact LearnWaiter.hears_other lane other

end Sys2Proof.Machine
end

section
/-! LEARN (R74) and its timeout (R76). -/

namespace Sys2Proof.Machine

/-! ## The lane field (R74) -/

theorem finOf_of_val {n k : Nat} {x : Fin n} (h : k = x.val) : finOf n k = some x := by
  subst h
  exact dif_pos x.isLt

theorem finOf_eq_none {n k : Nat} (h : n ≤ k) : finOf n k = none := dif_neg h.not_gt

theorem learnLaneOf_any : learnLaneOf 0xFF = some none := rfl

theorem learnLaneOf_lane {b : Byte} {l : LaneId} (h : b.toNat = l.val) : learnLaneOf b = some (some l) := by
  have notAny : b ≠ 0xFF := by
    rintro rfl
    exact absurd l.isLt (by rw [← h]; decide)
  rw [learnLaneOf, if_neg notAny, laneOf, finOf_of_val h]
  rfl

theorem learnLaneOf_eq_none {b : Byte} (high : 7 < b.toNat) (notAny : b ≠ 0xFF) : learnLaneOf b = none := by
  rw [learnLaneOf, if_neg notAny, laneOf, finOf_eq_none high]
  rfl

/-! ## The request and its timeout (R74, R76) -/

section

variable {s : State} {i : SlotId} {b n : Byte} {target : Option LaneId}

/-- A lane or a timeout out of its range is refused first. -/
theorem learnRequest_badField
    (bad : learnLaneOf b = none ∨ n.toNat < 1 ∨ 60 < n.toNat) :
    learnRequest i [b, n] s = complete s i (bare .badField) := by
  cases lane : learnLaneOf b with
  | none => simp only [learnRequest, lane]
  | some target =>
    have range : n.toNat < 1 ∨ 60 < n.toNat := bad.resolve_left (by rw [lane]; nofun)
    simp only [learnRequest, lane, if_pos range]

/-- One LEARN at a time. -/
theorem learnRequest_wrongState (lane : learnLaneOf b = some target) (least : 1 ≤ n.toNat) (most : n.toNat ≤ 60)
    (waiting : s.translator.learn ≠ none) : learnRequest i [b, n] s = complete s i (bare .wrongState) := by
  have range : ¬(n.toNat < 1 ∨ 60 < n.toNat) := not_or.mpr ⟨least.not_gt, most.not_gt⟩
  simp only [learnRequest, lane, if_neg range, if_pos (Option.isSome_iff_ne_none.mpr waiting)]

/-- An admitted LEARN sets the waiter and leaves its slot ACTIVE. -/
theorem learnRequest_waits (lane : learnLaneOf b = some target) (least : 1 ≤ n.toNat) (most : n.toNat ≤ 60)
    (free : s.translator.learn = none) :
    learnRequest i [b, n] s =
      { s with
        translator :=
          { s.translator with learn := some ⟨target, startWait s.time.uptime (n.toNat * 1000), i⟩ } } := by
  have range : ¬(n.toNat < 1 ∨ 60 < n.toNat) := not_or.mpr ⟨least.not_gt, most.not_gt⟩
  simp only [learnRequest, lane, if_neg range, free, Option.isSome_none, Bool.false_eq_true, if_false]

theorem learnExpires_ends {w : LearnWaiter} (waiting : s.translator.learn = some w)
    (reached : w.expiry.reached s.time.uptime = true) :
    learnExpires s = complete (clearLearn s) w.slot (bare .timeout) := by
  simp only [learnExpires, waiting, reached, if_true]

end

/-- Settles O33: the mode check of R182, then the refusals in the order of R74; the timeout is `learnExpires`. -/
theorem learnSetsTheWaiterAndTimesOut : Obligations.LearnSetsTheWaiterAndTimesOut := by
  unfold Obligations.LearnSetsTheWaiterAndTimesOut
  constructor
  · intro s tag b n i taken p
    refine ⟨fun startup => exec_taken_refused .learn rfl taken rfl (by rw [startup]; rfl),
      fun run => exec_taken_refused .learn rfl taken rfl (by rw [run]; rfl), fun config => ?_⟩
    have carried : exec (.learn tag [b, n]) s = .next (learnRequest i [b, n] p) :=
      exec_taken_carried .learn rfl taken rfl (by rw [config]; rfl)
    rw [carried]
    refine ⟨fun bad => ?_, fun target field least most => ?_⟩
    · rw [learnRequest_badField (bad.imp_left fun ⟨high, notAny⟩ => learnLaneOf_eq_none high notAny)]
    · have lane : learnLaneOf b = some target := by
        cases target with
        | none => exact field ▸ learnLaneOf_any
        | some l => exact learnLaneOf_lane field
      refine ⟨fun waiting => ?_, fun free => ?_⟩
      · rw [learnRequest_wrongState (s := p) lane least most waiting]
      · rw [learnRequest_waits (s := p) lane least most free]
        rfl
  · intro s w running waiting reached
    have row : exec .learnTimeout s = .next (learnExpires s) :=
      congrArg Host.Outcome.next (whenRunning_running running learnExpires)
    rw [row, learnExpires_ends waiting (decide_eq_true reached)]
    rfl

end Sys2Proof.Machine
end

section
/-! Indicator lamps (07): RELEASE-LAMPS (R132), and the lit value of a lamp position (R17). -/

namespace Sys2Proof.Machine

/-! ## Images, lamp by lamp -/

/-- Images that agree on every lamp are equal. -/
theorem image_ext {x y : Half} (h : ∀ n : LampId, x.getLsbD n.val = y.getLsbD n.val) : x = y :=
  BitVec.eq_of_getLsbD_eq fun k hk => h ⟨k, hk⟩

theorem getLsbD_lampBit (n m : LampId) : (lampBit n).getLsbD m.val = decide (m = n) := by
  revert n m
  decide

/-- Setting one lamp sets its bit and leaves the others. -/
theorem getLsbD_setLamp (image : Half) (n m : LampId) (on : Bool) :
    (setLamp image n on).getLsbD m.val = if m = n then on else image.getLsbD m.val := by
  cases on <;> by_cases same : m = n <;> simp [-BitVec.getLsbD_eq_getElem, setLamp, getLsbD_lampBit, same]

/-- Setting some lamps to the values of `f` sets those and leaves the others. -/
theorem getLsbD_foldl_setLamp (f : LampId → Bool) (m : LampId) (ns : List LampId) (image : Half) :
    (ns.foldl (fun image n => setLamp image n (f n)) image).getLsbD m.val =
      if m ∈ ns then f m else image.getLsbD m.val := by
  induction ns generalizing image with
  | nil => rfl
  | cons n ns ih =>
    rw [List.foldl_cons, ih, getLsbD_setLamp]
    by_cases same : m = n
    · subst same
      simp
    · simp [same]

/-- Every lamp of a lane's lit image shows its lit value. -/
theorem getLsbD_litImage (s : State) (l : LaneId) (n : LampId) :
    (litImage s l).getLsbD n.val = s.litAt ⟨l, n⟩ := by
  rw [litImage, getLsbD_foldl_setLamp, if_pos (List.mem_finRange n)]

/-- A masked write takes the mask's lamps from the new values and the others from the old image. -/
theorem getLsbD_maskedWrite (old mask values : Half) (n : LampId) :
    ((old &&& ~~~mask) ||| (values &&& mask)).getLsbD n.val =
      if mask.getLsbD n.val then values.getLsbD n.val else old.getLsbD n.val := by
  cases masked : mask.getLsbD n.val <;> simp [-BitVec.getLsbD_eq_getElem, masked]

/-! ## A lane with a new image (R123) -/

theorem Lane.hasLampEntry_iff (x : Lane) : x.hasLampEntry = true ↔ ∃ e ∈ x.list, e.kind = .lamp := by
  simp [Lane.hasLampEntry]

/-- The list after `queueLamp`, the one field it writes. -/
theorem Lane.queueLamp_eq (x : Lane) :
    x.queueLamp =
      { x with
        list := if x.phase ≠ .running ∨ (∃ e ∈ x.list, e.kind = .lamp) then x.list
          else x.list ++ [⟨.lamp, none⟩] } := by
  have keeps : x.phase ≠ .running ∨ (∃ e ∈ x.list, e.kind = .lamp) ↔
      ¬(x.phase = .running ∧ x.hasLampEntry = false) := by
    rw [← x.hasLampEntry_iff, not_and_or, Bool.not_eq_false]
  simp only [Lane.queueLamp, keeps, ite_not]
  split <;> rfl

/-- A desired image handed to a lane, its version and its LAMP entry, each as a field. -/
theorem Lane.withDesired_eq (x : Lane) (image : Half) :
    x.withDesired image =
      { x with
        desired := image
        desiredVersion := if image = x.desired then x.desiredVersion else x.desiredVersion + 1
        list := if image = x.desired ∨ x.phase ≠ .running ∨ (∃ e ∈ x.list, e.kind = .lamp) then x.list
          else x.list ++ [⟨.lamp, none⟩] } := by
  unfold Lane.withDesired
  by_cases same : image = x.desired
  · simp [same]
  · simp [same, Lane.queueLamp_eq]

/-! ## RELEASE-LAMPS (R132) -/

section

variable {i : SlotId} {b mh ml : Byte} {s : State}

theorem releaseLampsRequest_badField (bad : laneOf b = none) :
    releaseLampsRequest i [b, mh, ml] s = complete s i (bare .badField) := by
  simp only [releaseLampsRequest, bad]

/-- On a lane, the request hands the image whose masked lamps are lit as the table computes them. -/
theorem releaseLampsRequest_lane {l : LaneId} {image : Half} (lane : laneOf b = some l)
    (shows : ∀ n : LampId, image.getLsbD n.val =
      if (half mh ml).getLsbD n.val then s.litAt ⟨l, n⟩ else (s.lane l).desired.getLsbD n.val) :
    releaseLampsRequest i [b, mh, ml] s =
      let y := ({ s.lane l with owners := (s.lane l).owners &&& ~~~half mh ml } : Lane).withDesired image
      complete (s.setLane l y) i ⟨.ok, be32 y.desiredVersion⟩ := by
  have written : ((s.lane l).desired &&& ~~~half mh ml) ||| (litImage s l &&& half mh ml) = image :=
    image_ext fun n => by rw [getLsbD_maskedWrite, getLsbD_litImage, shows n]
  simp only [releaseLampsRequest, lane, State.modLane, State.lane_setLane_self, Lane.releaseLamps, written]

end

/-! ## Lit values (R17) -/

/-- Where no two elements satisfy a test, a search finds the one that does. -/
theorem find?_of_apart {α : Type} {p : α → Bool} {a : α} {xs : List α} (mem : a ∈ xs) (hit : p a = true)
    (apart : xs.Pairwise fun x y => p x = true → p y = false) : xs.find? p = some a := by
  induction xs with
  | nil => cases mem
  | cons x xs ih =>
    obtain ⟨misses, rest⟩ := List.pairwise_cons.mp apart
    obtain rfl | later := List.mem_cons.mp mem
    · exact List.find?_cons_of_pos hit
    · have miss : ¬p x = true := fun first => by simp [misses a later first] at hit
      rw [List.find?_cons_of_neg miss, ih later rest]

/-- A lamp that no definition references is OFF. -/
theorem State.litAt_unreferenced {s : State} {q : LampPosition}
    (free : ∀ e ∈ s.config.working.controls, ∀ r ∈ e.2.lamp, r.position ≠ q) : s.litAt q = false := by
  have unfound : (s.config.working.controls.find? fun e => decide (e.2.lampPosition = some q)) = none := by
    refine List.find?_eq_none.mpr fun e he found => ?_
    obtain ⟨r, lamp, position⟩ := Option.map_eq_some_iff.mp (of_decide_eq_true found)
    exact free e he r lamp position
  simp only [State.litAt, unfound]

/-- Where no two controls share a lamp, a referenced lamp shows the control that references it (R17, R140). -/
theorem State.litAt_of_definition {s : State} {c : ControlId} {d : ControlDef} {r : LampRef}
    (distinct : s.config.working.distinctLamps) (defined : s.definition c = some d) (lamp : d.lamp = some r) :
    s.litAt r.position = litOf d.kind r.sense (s.control c) (s.isSelected c d) := by
  have mem : (c, d) ∈ s.config.working.controls := mem_of_lookupKey defined
  have references : d.lampPosition = some r.position := by rw [ControlDef.lampPosition, lamp]; rfl
  have found : (s.config.working.controls.find? fun e => decide (e.2.lampPosition = some r.position)) =
      some (c, d) := by
    refine find?_of_apart mem (decide_eq_true references) (distinct.imp fun apart hit => ?_)
    have referenced := of_decide_eq_true hit
    exact decide_eq_false fun other => apart.elim (by simp [referenced]) (· (referenced.trans other.symm))
  simp only [State.litAt, found, lamp]

/-- When a NORMAL lamp of a control is lit: DOWN, latched or selected, by its kind (R17). -/
theorem State.litOf_normal_iff (s : State) (c : ControlId) (d : ControlDef) :
    litOf d.kind .normal (s.control c) (s.isSelected c d) = true ↔
      (d.kind = .momentary ∧ (s.control c).physical = .down) ∨ (d.kind = .toggle ∧ (s.control c).latched = true) ∨
        (∃ g, d.kind = .member g ∧ s.selection g = some c) := by
  cases kind : d.kind with
  | momentary => simp
  | toggle => simp
  | member g => simp [s.isSelected_member c kind]

/-- Settles O23: the mode check of R182 and the lane field, then the lane's image lamp by lamp; R17 by the control that
the table finds for the position, unique by R140. -/
theorem releaseLampsReturnsLampsToFollow : Obligations.ReleaseLampsReturnsLampsToFollow := by
  unfold Obligations.ReleaseLampsReturnsLampsToFollow
  constructor
  · intro s tag b mh ml i image taken p
    refine ⟨fun startup => exec_taken_refused .releaseLamps rfl taken rfl (by rw [startup]; rfl), fun ready => ?_⟩
    have carried : exec (.releaseLamps tag [b, mh, ml]) s = .next (releaseLampsRequest i [b, mh, ml] p) :=
      exec_taken_carried .releaseLamps rfl taken rfl (modeRefusal_ready ready)
    rw [carried]
    refine ⟨fun high => ?_, fun l lane shows => ?_⟩
    · rw [releaseLampsRequest_badField (s := p) (finOf_eq_none high)]
    · rw [releaseLampsRequest_lane (s := p) (finOf_of_val lane) shows, Lane.withDesired_eq]
      rfl
  · intro s q wf
    obtain ⟨-, -, -, distinct, -⟩ := wf
    refine ⟨State.litAt_unreferenced, fun c d r defined lamp position lit value => ?_⟩
    subst position
    have normal : litOf d.kind .normal (s.control c) (s.isSelected c d) = lit :=
      Bool.eq_iff_iff.mpr ((s.litOf_normal_iff c d).trans value.symm)
    rw [State.litAt_of_definition distinct defined lamp, litOf_sense, normal]

end Sys2Proof.Machine
end

section
/-! The working configuration (08): the replies of an edit, SET-GROUP and SET-DELIVERY (R144, R146), and READ-CONTROL-DEF
(R143). -/

namespace Sys2Proof.Machine

/-! ## Fields of two bytes (12, opening) -/

theorem half_toNat (high low : Byte) : (half high low).toNat = high.toNat * 256 + low.toNat := by
  rw [half, BitVec.toNat_append, ← Nat.shiftLeft_add_eq_or_of_lt low.isLt, Nat.shiftLeft_eq]

theorem controlOf_of_val {high low : Byte} {c : ControlId} (h : c.val = high.toNat * 256 + low.toNat) :
    controlOf high low = some c :=
  finOf_of_val ((half_toNat high low).trans h.symm)

theorem controlOf_eq_none {high low : Byte} (h : 511 < high.toNat * 256 + low.toNat) : controlOf high low = none :=
  finOf_eq_none (by rw [half_toNat]; exact h)

/-! ## Edits and the dirty flag (R135) -/

theorem setWorking_eq (s : State) (image : ConfigImage) :
    setWorking s image =
      { s with config := { s.config with working := image, dirty := decide (image ≠ s.config.storeCopy) } } := rfl

/-- Where the dirty flag compares the two images, so does the reply of an edit. -/
theorem dirtyReply_of_dirty {s : State} {image other : ConfigImage} (dirty : s.config.dirty = decide (image ≠ other)) :
    dirtyReply s = ⟨.ok, [if image = other then 0 else 1]⟩ := by
  by_cases same : image = other <;> simp [dirtyReply, flagCode, dirty, same]

/-! ## SET-GROUP (R144) -/

section

variable {s : State} (i : SlotId) {b m : Byte}

theorem groupModeOf_eq_none (high : 1 < m.toNat) : groupModeOf m = none := by
  have notForced : m ≠ 0 := by rintro rfl; exact absurd high (by decide)
  have notOptional : m ≠ 1 := by rintro rfl; exact absurd high (by decide)
  rw [groupModeOf, if_neg notForced, if_neg notOptional]

theorem groupModeOf_of_code {mode : GroupMode} (code : m = 0 ∧ mode = .forced ∨ m = 1 ∧ mode = .optional) :
    groupModeOf m = some mode := by
  obtain ⟨rfl, rfl⟩ | ⟨rfl, rfl⟩ := code <;> rfl

theorem setGroup_badField (bad : groupOf b = none ∨ groupModeOf m = none) :
    setGroup i [b, m] s = complete s i (bare .badField) := by
  obtain group | mode := bad
  · simp only [setGroup, group]
  · cases group : groupOf b <;> simp only [setGroup, group, mode]

theorem setGroup_sets {g : GroupId} {mode : GroupMode} {image : ConfigImage} (group : groupOf b = some g)
    (code : groupModeOf m = some mode)
    (edited : image = { s.config.working with groupModes := s.config.working.groupModes.set g mode }) :
    setGroup i [b, m] s = complete (setWorking s image) i ⟨.ok, [if image = s.config.storeCopy then 0 else 1]⟩ := by
  subst edited
  simp only [setGroup, group, code]
  rw [dirtyReply_of_dirty rfl]

end

/-! ## SET-DELIVERY (R146) -/

section

variable {s : State} (i : SlotId) {th tl n : Byte} {ms : Nat} (timeout : ms = th.toNat * 256 + tl.toNat)

include timeout

theorem setDelivery_badField (bad : ms < 50 ∨ 2000 < ms ∨ n.toNat < 1 ∨ 15 < n.toNat) :
    setDelivery i [th, tl, n] s = complete s i (bare .badField) := by
  subst timeout
  simp only [setDelivery, half_toNat, if_pos bad]

theorem setDelivery_sets {image : ConfigImage} (good : ¬(ms < 50 ∨ 2000 < ms ∨ n.toNat < 1 ∨ 15 < n.toNat))
    (edited : image = { s.config.working with retransmitTimeout := ms, retransmitLimit := n.toNat }) :
    setDelivery i [th, tl, n] s =
      complete (setWorking s image) i ⟨.ok, [if image = s.config.storeCopy then 0 else 1]⟩ := by
  subst timeout edited
  simp only [setDelivery, half_toNat, if_neg good]
  rw [dirtyReply_of_dirty rfl]

end

/-- Settles O30: the mode check of R182, then the fields and the edit, once for each of the two requests. -/
theorem groupModeAndDeliveryParametersAreSet : Obligations.GroupModeAndDeliveryParametersAreSet := by
  unfold Obligations.GroupModeAndDeliveryParametersAreSet
  constructor
  · intro s tag b m i taken p
    refine ⟨fun startup => exec_taken_refused .setGroup rfl taken rfl (by rw [startup]; rfl),
      fun run => exec_taken_refused .setGroup rfl taken rfl (by rw [run]; rfl), fun config => ?_⟩
    have carried : exec (.setGroup tag [b, m]) s = .next (setGroup i [b, m] p) :=
      exec_taken_carried .setGroup rfl taken rfl (by rw [config]; rfl)
    rw [carried]
    refine ⟨fun bad => ?_, fun g mode image group code edited => ?_⟩
    · rw [setGroup_badField i (bad.imp finOf_eq_none groupModeOf_eq_none)]
    · rw [setGroup_sets (s := p) i (finOf_of_val group) (groupModeOf_of_code code) edited, setWorking_eq]
      rfl
  · intro s tag th tl n i ms taken timeout p
    refine ⟨fun startup => exec_taken_refused .setDelivery rfl taken rfl (by rw [startup]; rfl),
      fun run => exec_taken_refused .setDelivery rfl taken rfl (by rw [run]; rfl), fun config => ?_⟩
    have carried : exec (.setDelivery tag [th, tl, n]) s = .next (setDelivery i [th, tl, n] p) :=
      exec_taken_carried .setDelivery rfl taken rfl (by rw [config]; rfl)
    rw [carried]
    refine ⟨fun bad => ?_, fun image low high least most edited => ?_⟩
    · rw [setDelivery_badField i timeout bad]
    · rw [setDelivery_sets (s := p) i timeout (by omega) edited, setWorking_eq]
      rfl

/-! ## READ-CONTROL-DEF (R143) -/

section

variable {s : State} (i : SlotId) {h l : Byte}

theorem readControlDef_badField (bad : controlOf h l = none) :
    readControlDef i [h, l] s = complete s i (bare .badField) := by
  simp only [readControlDef, bad]

theorem readControlDef_reads {c : ControlId} (id : controlOf h l = some c) :
    readControlDef i [h, l] s = complete s i ⟨.ok, definedBytes (s.definition c)⟩ := by
  simp only [readControlDef, id]

end

/-- The eleven bytes of a defined control, field by field (12.3). -/
theorem definedBytes_some (d : ControlDef) :
    definedBytes (some d) =
      [1] ++
      (match d.kind with | .momentary => [0, 0] | .toggle => [1, 0] | .member g => [2, byteOf g.val]) ++
      (match d.binding with
        | some b => [1, byteOf b.lane.val, (if b.extended then 1 else 0), b.code]
        | none => [0, 0, 0, 0]) ++
      (match d.lamp with
        | some r => [1, byteOf r.position.lane.val, byteOf r.position.lamp.val,
            (if r.sense = .inverted then 1 else 0)]
        | none => [0, 0, 0, 0]) := by
  have sense (v : Sense) : senseCode v = if v = .inverted then 1 else 0 := by cases v <;> rfl
  have kind : [kindCode d.kind, match d.kind with | .member g => byteOf g.val | _ => 0] =
      (match d.kind with | .momentary => [0, 0] | .toggle => [1, 0] | .member g => [2, byteOf g.val]) := by
    cases d.kind <;> rfl
  rw [← kind]
  simp only [← sense]
  rfl

/-- Settles O29: the mode check of R182, the identifier, then the bytes of the definition. -/
theorem readControlDefReturnsTheDefinition : Obligations.ReadControlDefReturnsTheDefinition := by
  unfold Obligations.ReadControlDefReturnsTheDefinition
  intro s tag ih il i taken p
  refine ⟨fun startup => exec_taken_refused .readControlDef rfl taken rfl (by rw [startup]; rfl), fun ready => ?_⟩
  have carried : exec (.readControlDef tag [ih, il]) s = .next (readControlDef i [ih, il] p) :=
    exec_taken_carried .readControlDef rfl taken rfl (modeRefusal_ready ready)
  rw [carried]
  refine ⟨fun high => ?_, fun c id => ?_⟩
  · rw [readControlDef_badField i (controlOf_eq_none high)]
  · rw [readControlDef_reads i (controlOf_of_val id)]
    have kept : p.definition c = s.definition c := rfl
    refine ⟨fun absent => ?_, fun d defined => ?_⟩
    · rw [kept, absent]
      rfl
    · rw [kept, defined]
      exact congrArg (fun bytes => Host.Outcome.next (complete p i ⟨.ok, bytes⟩)) (definedBytes_some d)

end Sys2Proof.Machine
end

section
/-! ENTER-CONFIG and EXIT-CONFIG (R138, R139): the Control Table changed as a whole, and the lamps of such a happening. -/

namespace Sys2Proof.Machine

/-! ## Tables changed as a whole -/

/-- What a lookup reads after every value of a table is changed. -/
theorem lookupKey_map {n : Nat} {α β : Type} (t : List (Fin n × α)) (f : Fin n → α → β) (k : Fin n) :
    lookupKey (t.map fun e => (e.1, f e.1 e.2)) k = (lookupKey t k).map (f k) := by
  induction t with
  | nil => rfl
  | cons e t ih =>
    obtain ⟨j, v⟩ := e
    rw [List.map_cons, lookupKey_cons, lookupKey_cons, ih]
    split
    · next same => subst same; rfl
    · rfl

theorem lookupKey_eq_none_iff {n : Nat} {α : Type} {t : List (Fin n × α)} {k : Fin n} :
    lookupKey t k = none ↔ k ∉ t.map (·.1) := by
  induction t with
  | nil => simp [lookupKey]
  | cons e t ih =>
    obtain ⟨j, v⟩ := e
    rw [lookupKey_cons, List.map_cons, List.mem_cons, not_or, ← ih]
    by_cases same : j = k
    · simp [same]
    · simp [same, Ne.symm same]

/-- The table lists a dynamic part for exactly the defined controls (R1, R2). -/
theorem ControlLaws.unlisted_iff {s : State} (laws : ControlLaws s) {c : ControlId} :
    lookupKey s.table.entries c = none ↔ s.definition c = none := by
  rw [lookupKey_eq_none_iff, laws.keys]
  exact lookupKey_eq_none_iff.symm

theorem State.control_of_unlisted {s : State} {c : ControlId} (unlisted : lookupKey s.table.entries c = none) :
    s.control c = .fresh := by
  rw [State.control, unlisted]
  rfl

/-- Every dynamic part is changed by `f`, where `f` leaves the controls that the table does not list. -/
theorem State.control_mapControls (s : State) (f : ControlId → ControlState → ControlState) (c : ControlId)
    (unlisted : lookupKey s.table.entries c = none → f c .fresh = .fresh) :
    (s.mapControls f).control c = f c (s.control c) := by
  have read : lookupKey (s.mapControls f).table.entries c = (lookupKey s.table.entries c).map (f c) :=
    lookupKey_map _ f c
  rw [State.control, State.control, read]
  cases listed : lookupKey s.table.entries c with
  | none => exact (unlisted listed).symm
  | some x => rfl

/-! ## The lamps of a happening (R18, R123) -/

/-- Where a happening leaves the lanes but hands them lamps, each lane ends with the image handed to it. -/
theorem lane_settleLamps_writeLamps {s t : State} (kept : t.lanes = s.lanes) (handed : List (LampPosition × Bool))
    (k : LaneId) :
    (settleLamps s (t.writeLamps handed)).lane k = (s.lane k).withDesired (handedImage k (s.lane k) handed) := by
  have same : t.lane k = s.lane k := by rw [State.lane, State.lane, kept]
  rw [lane_settleLamps, State.lane_writeLamps, same]
  exact settleLane_desired _ rfl rfl

/-- The lamps of all defined controls, definition by definition. -/
theorem State.handedLamps_definedControls {s : State} (rising : sortedKeys s.config.working.controls) :
    s.handedLamps s.definedControls =
      s.config.working.controls.flatMap fun e =>
        lampValue e.2 (litOf e.2.kind .normal (s.control e.1) (s.isSelected e.1 e.2)) := by
  rw [State.handedLamps, State.definedControls, List.flatMap_map]
  exact List.flatMap_congr fun e listed => s.handedLamp_of_definition (lookupKey_of_mem rising listed)

/-- The value a NORMAL lamp of a control shows while its key is not DOWN (R17). -/
theorem State.litOf_not_down {s : State} {c : ControlId} (d : ControlDef) (up : (s.control c).physical ≠ .down) :
    litOf d.kind .normal (s.control c) (s.isSelected c d) =
      (match d.kind with
        | .momentary => false
        | .toggle => (s.control c).latched
        | .member g => decide (s.selection g = some c)) := by
  cases kind : d.kind with
  | momentary => simp [up]
  | toggle => rfl
  | member g => rw [litOf_member, s.isSelected_member c kind]

/-! ## ENTER-CONFIG (R138, R15) -/

section

variable {s : State} (i : SlotId)

theorem enterConfig_refused (state : s.config.mode = .config ∨ s.delivery.state ≠ .off) :
    enterConfig i [] s = complete s i (bare .wrongState) := if_pos state

theorem enterConfig_enters (state : ¬(s.config.mode = .config ∨ s.delivery.state ≠ .off)) :
    enterConfig i [] s = complete (settleLamps s (allUnknown (setMode s .config))) i (bare .ok) := if_neg state

end

theorem ControlState.withPhysical_eq (now : Word) (p : Physical) (x : ControlState) :
    x.withPhysical now p = if x.physical = p then x else { x with physical := p, lastChange := some now } := rfl

/-- The Control Table with every control UNKNOWN, before its lamps are handed (R15). -/
def unknownTable (s : State) : State := s.mapControls fun _ x => x.withPhysical s.time.uptime .unknown

theorem allUnknown_eq (s : State) :
    allUnknown s = (unknownTable s).writeLamps ((unknownTable s).handedLamps (unknownTable s).definedControls) := rfl

theorem control_unknownTable (s : State) (c : ControlId) :
    (unknownTable s).control c = (s.control c).withPhysical s.time.uptime .unknown :=
  s.control_mapControls _ c fun _ => rfl

/-- ENTER-CONFIG hands every defined control's lamp as it shows while no key is DOWN. -/
theorem handedLamps_unknownTable {s : State} (rising : sortedKeys s.config.working.controls) :
    (unknownTable s).handedLamps (unknownTable s).definedControls =
      s.config.working.controls.flatMap fun e =>
        lampValue e.2 (match e.2.kind with
          | .momentary => false
          | .toggle => (s.control e.1).latched
          | .member g => decide (s.selection g = some e.1)) := by
  rw [State.handedLamps_definedControls (s := unknownTable s) rising]
  refine List.flatMap_congr fun e _ => congrArg (lampValue e.2) ?_
  have up : ((unknownTable s).control e.1).physical ≠ .down := by
    rw [control_unknownTable, ControlState.withPhysical_physical]
    nofun
  rw [State.litOf_not_down e.2 up, control_unknownTable, ControlState.withPhysical_latched]
  rfl

/-- Settles O24: the mode check of R182, the two refusals of R138, then the table and the lamps of R15. -/
theorem enterConfigMakesEveryControlUnknown : Obligations.EnterConfigMakesEveryControlUnknown := by
  unfold Obligations.EnterConfigMakesEveryControlUnknown
  intro s tag i taken ready laws p
  have carried : exec (.enterConfig tag []) s = .next (enterConfig i [] p) :=
    exec_taken_carried .enterConfig rfl taken rfl (modeRefusal_ready ready)
  rw [carried]
  refine ⟨fun refused => ?_, fun run off => ?_⟩
  · rw [enterConfig_refused (s := p) i refused]
  · have admitted : ¬(s.config.mode = .config ∨ s.delivery.state ≠ .off) := by simp [run, off]
    refine ⟨settleLamps p (allUnknown (setMode p .config)), ?_, rfl, rfl, fun c => ?_, fun k => ?_⟩
    · rw [enterConfig_enters (s := p) i admitted]
    · exact control_unknownTable (setMode p .config) c
    · rw [allUnknown_eq, lane_settleLamps_writeLamps (s := p) (t := unknownTable (setMode p .config)) rfl,
        handedLamps_unknownTable (s := setMode p .config) laws.rising]
      rfl

/-! ## Every lamp position recomputed (R18) -/

/-- One value handed to a lane sets its lamp if the lamp FOLLOWs (R123). -/
theorem getLsbD_followWrite (l : LaneId) (owners image : Half) (q : LampPosition) (lit : Bool) (n : LampId) :
    (followWrite l owners image (q, lit)).getLsbD n.val =
      if q = ⟨l, n⟩ ∧ owners.getLsbD n.val = false then lit else image.getLsbD n.val := by
  obtain ⟨k, m⟩ := q
  by_cases lane : k = l
  · by_cases lamp : m = n
    · subst lane lamp
      cases owner : owners.getLsbD m.val <;>
        simp [-BitVec.getLsbD_eq_getElem, followWrite, owner, getLsbD_setLamp]
    · simp only [followWrite, LampPosition.mk.injEq, lamp, and_false, false_and, if_false]
      split
      · rw [getLsbD_setLamp, if_neg (Ne.symm lamp)]
      · rfl
  · simp [followWrite, lane]

/-- A lamp that FOLLOWs ends with the value handed for its position; every other lamp is left. -/
theorem getLsbD_foldl_followWrite (l : LaneId) (owners image : Half) (f : LampPosition → Bool)
    (ps : List LampPosition) (n : LampId) :
    ((ps.map fun q => (q, f q)).foldl (followWrite l owners) image).getLsbD n.val =
      if ⟨l, n⟩ ∈ ps ∧ owners.getLsbD n.val = false then f ⟨l, n⟩ else image.getLsbD n.val := by
  induction ps generalizing image with
  | nil => simp
  | cons q ps ih =>
    rw [List.map_cons, List.foldl_cons, ih, getLsbD_followWrite]
    by_cases first : q = ⟨l, n⟩
    · subst first
      cases owners.getLsbD n.val <;> simp [-BitVec.getLsbD_eq_getElem]
    · simp [-BitVec.getLsbD_eq_getElem, first, Ne.symm first]

theorem mem_allPositions (q : LampPosition) : q ∈ allPositions := by
  obtain ⟨l, n⟩ := q
  simp [allPositions]

/-- With every position handed, a lane's image shows the values handed on the lamps that FOLLOW. -/
theorem handedImage_allPositions {k : LaneId} {x : Lane} {image : Half} {f : LampPosition → Bool}
    (shows : ∀ n : LampId, image.getLsbD n.val =
      if x.owners.getLsbD n.val then x.desired.getLsbD n.val else f ⟨k, n⟩) :
    handedImage k x (allPositions.map fun q => (q, f q)) = image := by
  refine image_ext fun n => ?_
  rw [handedImage, getLsbD_foldl_followWrite, shows n]
  cases x.owners.getLsbD n.val <;> simp [mem_allPositions]

/-! ## RESCAN entries (R116) -/

theorem Lane.queueRescan_eq (x : Lane) :
    x.queueRescan =
      { x with
        list := x.list ++
          (if x.phase = .running ∧ ⟨.rescan, none⟩ ∉ x.list then [⟨.rescan, none⟩] else []) } := by
  have waits : (x.list.any fun e => decide (e = ⟨.rescan, none⟩)) = false ↔ (⟨.rescan, none⟩ : Entry) ∉ x.list := by
    rw [← Bool.not_eq_true]
    exact not_congr (by simp)
  simp only [Lane.queueRescan, waits]
  split
  · rfl
  · simp

theorem Lane.withDesired_phase (x : Lane) (image : Half) : (x.withDesired image).phase = x.phase := by
  rw [x.withDesired_eq image]

/-- A new desired image queues LAMP entries only. -/
theorem Lane.mem_withDesired_list (x : Lane) {image : Half} {e : Entry} (other : e.kind ≠ .lamp) :
    e ∈ (x.withDesired image).list ↔ e ∈ x.list := by
  have notLamp : e ≠ ⟨.lamp, none⟩ := by rintro rfl; exact other rfl
  rw [x.withDesired_eq image]
  dsimp only
  split
  · rfl
  · simp [notLamp]

/-- A lane that takes a new image and then a RESCAN entry: what the image queues does not bear on the entry. -/
theorem Lane.queueRescan_withDesired (x : Lane) (image : Half) :
    (x.withDesired image).queueRescan =
      { x.withDesired image with
        list := (x.withDesired image).list ++
          (if x.phase = .running ∧ ⟨.rescan, none⟩ ∉ x.list then [⟨.rescan, none⟩] else []) } := by
  have rescan : (⟨.rescan, none⟩ : Entry) ∈ (x.withDesired image).list ↔ ⟨.rescan, none⟩ ∈ x.list :=
    x.mem_withDesired_list (by decide)
  simp only [Lane.queueRescan_eq, Lane.withDesired_phase, rescan]

/-! ## EXIT-CONFIG (R139, R16, R76) -/

/-- A completion does not look at the Translator. -/
theorem complete_withTranslator (s : State) (translator : Translator) (i : SlotId) (r : Reply) :
    complete { s with translator := translator } i r = { complete s i r with translator := translator } := by
  unfold complete
  have same : ({ s with translator := translator } : State).slot i = s.slot i := rfl
  rw [same]
  split <;> rfl

/-- LEARN aborted: `u` is what the completion of its request leaves, and the waiter is gone. -/
theorem abortLearn_ends {s u : State} (idle : s.translator.learn = none → u = s)
    (waiting : ∀ w, s.translator.learn = some w → u = complete s w.slot (bare .aborted)) :
    (∃ requests replies, u = { s with requests := requests, link := { s.link with replies := replies } }) ∧
      abortLearn s = { u with translator := { s.translator with learn := none } } := by
  cases waiter : s.translator.learn with
  | none =>
    rw [idle waiter]
    refine ⟨⟨s.requests, s.link.replies, rfl⟩, ?_⟩
    simp only [abortLearn, waiter]
    rw [← waiter]
  | some w =>
    rw [waiting w waiter]
    refine ⟨complete_frame s w.slot _, ?_⟩
    simp only [abortLearn, waiter]
    exact complete_withTranslator s _ w.slot _

/-- The Control Table with the bound controls of RUNNING lanes UP, before the lamps are recomputed (R16). -/
def upTable (s : State) : State :=
  s.mapControls fun c x => if s.boundRunning c then x.withPhysical s.time.uptime .up else x

theorem exitUp_eq (s : State) :
    exitUp s = (upTable s).writeLamps (allPositions.map fun q => (q, (upTable s).litAt q)) := rfl

theorem State.boundRunning_defined {s : State} {c : ControlId} (bound : s.boundRunning c = true) :
    s.definition c ≠ none := by
  intro undefined
  simp [State.boundRunning, undefined] at bound

theorem control_upTable {s : State} {c : ControlId}
    (unlisted : lookupKey s.table.entries c = none → s.definition c = none) :
    (upTable s).control c =
      if s.boundRunning c = true ∧ (s.control c).physical ≠ .up then
        { s.control c with physical := .up, lastChange := some s.time.uptime }
      else s.control c := by
  have changed : (upTable s).control c =
      if s.boundRunning c then (s.control c).withPhysical s.time.uptime .up else s.control c :=
    s.control_mapControls _ c fun absent => if_neg fun bound => State.boundRunning_defined bound (unlisted absent)
  rw [changed, ControlState.withPhysical_eq]
  by_cases up : (s.control c).physical = .up <;> simp [up]

/-- The state in which EXIT-CONFIG completes, from the state `a` in which LEARN is aborted and the mode is RUN. -/
def leftConfig (a : State) : State := (settleLamps a (exitUp a)).mapLanes fun _ x => x.queueRescan

theorem exitConfig_refused {s : State} (i : SlotId) (mode : s.config.mode ≠ .config) :
    exitConfig i [] s = complete s i (bare .wrongState) := if_pos mode

theorem exitConfig_leaves {s : State} (i : SlotId) (mode : s.config.mode = .config) :
    exitConfig i [] s =
      complete (leftConfig (setMode (abortLearn s) .run)) i (dirtyReply (leftConfig (setMode (abortLearn s) .run))) :=
  if_neg (not_not_intro mode)

/-- Beside the lanes and the table, leaving CONFIG is done in the state `a`. -/
theorem leftConfig_frame (a : State) :
    leftConfig a = { a with table := (leftConfig a).table, lanes := (leftConfig a).lanes } := rfl

theorem control_leftConfig {a : State} {c : ControlId}
    (unlisted : lookupKey a.table.entries c = none → a.definition c = none) :
    (leftConfig a).control c =
      if a.boundRunning c = true ∧ (a.control c).physical ≠ .up then
        { a.control c with physical := .up, lastChange := some a.time.uptime }
      else a.control c :=
  control_upTable (s := a) unlisted

/-- A lane when CONFIG is left: the image recomputed, then the RESCAN entry. -/
theorem lane_leftConfig {a : State} {k : LaneId} {image : Half}
    (shows : ∀ n : LampId, image.getLsbD n.val =
      if (a.lane k).owners.getLsbD n.val then (a.lane k).desired.getLsbD n.val else (leftConfig a).litAt ⟨k, n⟩) :
    (leftConfig a).lane k = ((a.lane k).withDesired image).queueRescan := by
  rw [leftConfig, State.lane_mapLanes, exitUp_eq, lane_settleLamps_writeLamps (s := a) (t := upTable a) rfl,
    handedImage_allPositions (f := (upTable a).litAt) shows]

/-- `boundRunning` reads the definitions and the phases. -/
theorem State.boundRunning_congr {s t : State} (lanes : t.lanes = s.lanes)
    (working : t.config.working = s.config.working) (c : ControlId) : t.boundRunning c = s.boundRunning c := by
  have lane (l : LaneId) : t.lane l = s.lane l := by rw [State.lane, State.lane, lanes]
  simp only [State.boundRunning, State.definition, working, lane]

/-- Settles O25: LEARN is aborted, then the table, the lamps and the RESCAN entries of R139. -/
theorem exitConfigBringsControlsUp : Obligations.ExitConfigBringsControlsUp := by
  unfold Obligations.ExitConfigBringsControlsUp
  intro s u tag i taken ready laws p
  have carried : exec (.exitConfig tag []) s = .next (exitConfig i [] p) :=
    exec_taken_carried .exitConfig rfl taken rfl (modeRefusal_ready ready)
  rw [carried]
  refine ⟨fun run => ?_, fun config learnt => ?_⟩
  · have mode : p.config.mode ≠ .config := by simp [p, run]
    rw [exitConfig_refused i mode]
  · obtain ⟨⟨requests, replies, frame⟩, aborted⟩ := abortLearn_ends (s := p) (u := u)
      (fun idle => by rwa [show s.translator.learn = none from idle] at learnt)
      (fun w waiting => by rwa [show s.translator.learn = some w from waiting] at learnt)
    obtain ⟨a, entered⟩ : ∃ a, a = setMode (abortLearn p) .run := ⟨_, rfl⟩
    have whole : a =
        { u with config := { s.config with mode := .run }, translator := { s.translator with learn := none } } := by
      rw [entered, aborted, frame]
      rfl
    obtain ⟨time, lanes, table, unit⟩ : a.time = s.time ∧ a.lanes = s.lanes ∧ a.table = s.table ∧
        a.config = { s.config with mode := .run } := by
      rw [whole, frame]
      exact ⟨rfl, rfl, rfl, rfl⟩
    have working : a.config.working = s.config.working := by rw [unit]
    have control (c : ControlId) : a.control c = s.control c := by rw [State.control, State.control, table]
    rw [exitConfig_leaves (s := p) i config, ← entered]
    refine ⟨leftConfig a, ?_, ?_, ?_, fun c => ?_, fun k image shows => ?_⟩
    · have reply : dirtyReply (leftConfig a) = ⟨.ok, [if a.config.dirty then 1 else 0]⟩ := rfl
      rw [reply, unit]
    · exact (leftConfig_frame a).trans (congrArg
        (fun b : State => { b with table := (leftConfig a).table, lanes := (leftConfig a).lanes }) whole)
    · rw [← table]
      rfl
    · have unlisted : lookupKey a.table.entries c = none → a.definition c = none := by
        rw [table, State.definition, working]
        exact laws.unlisted_iff.mp
      rw [control_leftConfig unlisted, control, time, State.boundRunning_congr lanes working]
    · have lane : a.lane k = s.lane k := by rw [State.lane, State.lane, lanes]
      rw [← lane] at shows ⊢
      rw [lane_leftConfig shows, Lane.queueRescan_withDesired]
      exact ⟨_, rfl, rfl⟩

end Sys2Proof.Machine
end

section
/-! The fields of DEFINE-CONTROL with their ranges (R140, R188), and its refusals (R140). -/

namespace Sys2Proof.Machine

/-! ## Fields and their ranges (R188) -/

theorem finOf_eq_none_iff {n k : Nat} : finOf n k = none ↔ n ≤ k := by
  rw [finOf, dite_eq_right_iff]
  simp

theorem finOf_eq_some_iff {n k : Nat} {x : Fin n} : finOf n k = some x ↔ x.val = k := by
  refine ⟨fun read => ?_, fun value => finOf_of_val value.symm⟩
  rw [finOf, Option.dite_none_right_eq_some] at read
  obtain ⟨_, value⟩ := read
  rw [← Option.some.inj value]

/-- A byte of a yes/no field is 00h, 01h or out of range. -/
theorem flag_cases (b : Byte) : b = 0 ∨ b = 1 ∨ 1 < b.toNat := by bv_omega

theorem not_flag {b : Byte} (high : 1 < b.toNat) : b ≠ 0 ∧ b ≠ 1 := by bv_omega

theorem flagOf_high {b : Byte} (high : 1 < b.toNat) : flagOf b = none := by
  obtain ⟨notNo, notYes⟩ := not_flag high
  rw [flagOf, if_neg notNo, if_neg notYes]

theorem flagOf_eq_none_iff {b : Byte} : flagOf b = none ↔ 1 < b.toNat := by
  obtain rfl | rfl | high := flag_cases b
  · decide
  · decide
  · exact iff_of_true (flagOf_high high) high

theorem senseOf_eq_none_iff {b : Byte} : senseOf b = none ↔ 1 < b.toNat := by
  obtain rfl | rfl | high := flag_cases b
  · decide
  · decide
  · obtain ⟨notNormal, notInverted⟩ := not_flag high
    exact iff_of_true (by rw [senseOf, if_neg notNormal, if_neg notInverted]) high

theorem flagOf_eq_some {b : Byte} {v : Bool} (read : flagOf b = some v) : v = decide (b = 1) := by
  obtain rfl | rfl | high := flag_cases b
  · exact (Option.some.inj read).symm
  · exact (Option.some.inj read).symm
  · rw [flagOf_high high] at read
    cases read

theorem senseOf_eq_some {b : Byte} {v : Sense} (read : senseOf b = some v) :
    v = if b = 1 then .inverted else .normal := by
  obtain rfl | rfl | high := flag_cases b
  · exact (Option.some.inj read).symm
  · exact (Option.some.inj read).symm
  · rw [senseOf_eq_none_iff.mpr high] at read
    cases read

theorem keyCodeOf_eq_none_iff {b : Byte} : keyCodeOf b = none ↔ b = 0 ∨ 0xAF < b.toNat := by
  rw [keyCodeOf, ite_eq_right_iff]
  simp only [reduceCtorEq, imp_false]
  bv_omega

theorem keyCodeOf_eq_some_iff {b c : Byte} : keyCodeOf b = some c ↔ isKeyCode b ∧ b = c := by
  simp only [keyCodeOf, Option.ite_none_right_eq_some, Option.some.injEq]

theorem controlOf_eq_none_iff {high low : Byte} :
    controlOf high low = none ↔ 511 < high.toNat * 256 + low.toNat := by
  rw [controlOf, finOf_eq_none_iff, half_toNat]
  rfl

theorem controlOf_eq_some_iff {high low : Byte} {c : ControlId} :
    controlOf high low = some c ↔ c.val = high.toNat * 256 + low.toNat := by
  rw [controlOf, finOf_eq_some_iff, half_toNat]

/-! ## Kind, binding and lamp (12.2) -/

theorem kindOf_member (group : Byte) : kindOf 2 group = (groupOf group).map .member := rfl

theorem kindOf_eq_none_iff {kind group : Byte} :
    kindOf kind group = none ↔ 2 < kind.toNat ∨ (kind = 2 ∧ 31 < group.toNat) := by
  have codes : kind = 0 ∨ kind = 1 ∨ kind = 2 ∨ 2 < kind.toNat := by bv_omega
  obtain rfl | rfl | rfl | high := codes
  · exact iff_of_false nofun (by simp)
  · exact iff_of_false nofun (by simp)
  · rw [kindOf_member, Option.map_eq_none_iff, groupOf, finOf_eq_none_iff]
    exact ⟨fun group => .inr ⟨rfl, group⟩, fun bad => bad.elim (absurd · (by decide)) And.right⟩
  · have others : kind ≠ 0 ∧ kind ≠ 1 ∧ kind ≠ 2 := by bv_omega
    obtain ⟨notMomentary, notToggle, notMember⟩ := others
    exact iff_of_true (by rw [kindOf, if_neg notMomentary, if_neg notToggle, if_neg notMember]) (.inl high)

theorem bindingOf_present (lane extended code : Byte) :
    bindingOf 1 lane extended code =
      (laneOf lane).bind fun l => (flagOf extended).bind fun e => (keyCodeOf code).bind fun c =>
        some (some ⟨l, e, c⟩) := rfl

theorem bindingOf_high {present : Byte} (high : 1 < present.toNat) (lane extended code : Byte) :
    bindingOf present lane extended code = none := by
  rw [bindingOf, flagOf_high high]
  rfl

theorem lampOf_present (lane lamp sense : Byte) :
    lampOf 1 lane lamp sense =
      (laneOf lane).bind fun l => (finOf 16 lamp.toNat).bind fun n => (senseOf sense).bind fun v =>
        some (some ⟨⟨l, n⟩, v⟩) := rfl

theorem lampOf_high {present : Byte} (high : 1 < present.toNat) (lane lamp sense : Byte) :
    lampOf present lane lamp sense = none := by
  rw [lampOf, flagOf_high high]
  rfl

/-- Fields read in a row fail where the first fails or the rest does. -/
theorem bind_eq_none_iff_or {α β : Type} {x : Option α} {f : α → Option β} {rest : Prop}
    (fails : ∀ a, f a = none ↔ rest) : x.bind f = none ↔ x = none ∨ rest := by
  cases x <;> simp [fails]

theorem bind_some_eq_none_iff {α β : Type} {x : Option α} {f : α → β} :
    (x.bind fun a => some (f a)) = none ↔ x = none := by
  cases x <;> simp

theorem bindingOf_eq_none_iff {present lane extended code : Byte} :
    bindingOf present lane extended code = none ↔
      1 < present.toNat ∨
        (present = 1 ∧ (7 < lane.toNat ∨ 1 < extended.toNat ∨ code = 0 ∨ 0xAF < code.toNat)) := by
  obtain rfl | rfl | high := flag_cases present
  · exact iff_of_false nofun (by simp)
  · rw [bindingOf_present,
      bind_eq_none_iff_or fun _ => bind_eq_none_iff_or fun _ => bind_some_eq_none_iff,
      laneOf, finOf_eq_none_iff, flagOf_eq_none_iff, keyCodeOf_eq_none_iff]
    simp [Nat.succ_le_iff]
  · exact iff_of_true (bindingOf_high high ..) (.inl high)

theorem lampOf_eq_none_iff {present lane lamp sense : Byte} :
    lampOf present lane lamp sense = none ↔
      1 < present.toNat ∨ (present = 1 ∧ (7 < lane.toNat ∨ 15 < lamp.toNat ∨ 1 < sense.toNat)) := by
  obtain rfl | rfl | high := flag_cases present
  · exact iff_of_false nofun (by simp)
  · rw [lampOf_present,
      bind_eq_none_iff_or fun _ => bind_eq_none_iff_or fun _ => bind_some_eq_none_iff,
      laneOf, finOf_eq_none_iff, finOf_eq_none_iff, senseOf_eq_none_iff]
    simp [Nat.succ_le_iff]
  · exact iff_of_true (lampOf_high high ..) (.inl high)

/-! ## The body (12.2) -/

section

variable {ih il kind group bp bl be bc lp ll ln ls : Byte}

theorem definitionOf_eq :
    definitionOf [ih, il, kind, group, bp, bl, be, bc, lp, ll, ln, ls] =
      (controlOf ih il).bind fun c => (kindOf kind group).bind fun k => (bindingOf bp bl be bc).bind fun b =>
        (lampOf lp ll ln ls).bind fun r => some (c, ⟨k, b, r⟩) := rfl

theorem definitionOf_eq_none_iff :
    definitionOf [ih, il, kind, group, bp, bl, be, bc, lp, ll, ln, ls] = none ↔
      controlOf ih il = none ∨ kindOf kind group = none ∨ bindingOf bp bl be bc = none ∨ lampOf lp ll ln ls = none :=
  bind_eq_none_iff_or fun _ => bind_eq_none_iff_or fun _ => bind_eq_none_iff_or fun _ => bind_some_eq_none_iff

theorem definitionOf_eq_some_iff {c : ControlId} {d : ControlDef} :
    definitionOf [ih, il, kind, group, bp, bl, be, bc, lp, ll, ln, ls] = some (c, d) ↔
      controlOf ih il = some c ∧ kindOf kind group = some d.kind ∧ bindingOf bp bl be bc = some d.binding ∧
        lampOf lp ll ln ls = some d.lamp := by
  obtain ⟨k, b, r⟩ := d
  simp [definitionOf_eq, Option.bind_eq_some_iff]

end

/-! ## Holders of a binding or a lamp (R140) -/

section

variable {α : Type} [DecidableEq α] {controls : List (ControlId × ControlDef)} {c : ControlId}

/-- What no two definitions share is found at the one that has it. -/
theorem find?_holder {f : ControlDef → Option α} {v : Option α} (present : v ≠ none)
    (apart : controls.Pairwise fun x y => f x.2 = none ∨ f x.2 ≠ f y.2) {h : ControlId} {o : ControlDef}
    (other : h ≠ c) (defined : lookupKey controls h = some o) (holds : f o = v) :
    (controls.find? fun e => decide (e.1 ≠ c ∧ f e.2 = v)) = some (h, o) := by
  refine find?_of_apart (mem_of_lookupKey defined) (decide_eq_true ⟨other, holds⟩) (apart.imp fun differ hit => ?_)
  obtain ⟨-, held⟩ := of_decide_eq_true hit
  refine decide_eq_false fun ⟨_, again⟩ => differ.elim (fun absent => present ?_) fun ne => ne ?_
  · rw [← held, absent]
  · rw [held, again]

theorem find?_free {f : ControlDef → Option α} {v : Option α} (rising : sortedKeys controls) (present : v ≠ none)
    (free : ∀ k x, k ≠ c → lookupKey controls k = some x → v = none ∨ f x ≠ v) :
    (controls.find? fun e => decide (e.1 ≠ c ∧ f e.2 = v)) = none := by
  refine List.find?_eq_none.mpr fun e listed found => ?_
  obtain ⟨other, holds⟩ := of_decide_eq_true found
  exact (free e.1 e.2 other (lookupKey_of_mem rising listed)).elim present (· holds)

end

section

variable {image : ConfigImage} {c h : ControlId} {d o : ControlDef}

theorem bindingHolder_eq :
    bindingHolder image c d.binding =
      if d.binding = none then none
      else (image.controls.find? fun e => decide (e.1 ≠ c ∧ e.2.binding = d.binding)).map (·.1) := by
  simp only [bindingHolder, Option.isNone_iff_eq_none]

theorem lampHolder_eq :
    lampHolder image c d.lamp =
      if d.lampPosition = none then none
      else (image.controls.find? fun e => decide (e.1 ≠ c ∧ e.2.lampPosition = d.lampPosition)).map (·.1) := by
  cases lamp : d.lamp <;> simp [lampHolder, ControlDef.lampPosition, lamp]

theorem bindingHolder_held (distinct : image.distinctBindings) (other : h ≠ c)
    (defined : lookupKey image.controls h = some o) (present : d.binding ≠ none) (same : o.binding = d.binding) :
    bindingHolder image c d.binding = some h := by
  rw [bindingHolder_eq, if_neg present, find?_holder (f := ControlDef.binding) present distinct other defined same]
  rfl

theorem lampHolder_held (distinct : image.distinctLamps) (other : h ≠ c)
    (defined : lookupKey image.controls h = some o) (present : d.lampPosition ≠ none)
    (same : o.lampPosition = d.lampPosition) : lampHolder image c d.lamp = some h := by
  rw [lampHolder_eq, if_neg present,
    find?_holder (f := ControlDef.lampPosition) present distinct other defined same]
  rfl

theorem bindingHolder_free (rising : sortedKeys image.controls)
    (free : ∀ k x, k ≠ c → lookupKey image.controls k = some x → d.binding = none ∨ x.binding ≠ d.binding) :
    bindingHolder image c d.binding = none := by
  rw [bindingHolder_eq]
  split
  · rfl
  · next present =>
    rw [find?_free (f := ControlDef.binding) rising present free]
    rfl

theorem lampHolder_free (rising : sortedKeys image.controls)
    (free : ∀ k x, k ≠ c → lookupKey image.controls k = some x →
      d.lampPosition = none ∨ x.lampPosition ≠ d.lampPosition) :
    lampHolder image c d.lamp = none := by
  rw [lampHolder_eq]
  split
  · rfl
  · next present =>
    rw [find?_free (f := ControlDef.lampPosition) rising present free]
    rfl

end

/-! ## The checks in order (R140) -/

section

variable {s : State} (i : SlotId) {body : List Byte} {c h : ControlId} {d : ControlDef}

theorem defineControl_badField (bad : definitionOf body = none) :
    defineControl i body s = complete s i (bare .badField) := by
  simp only [defineControl, bad]

variable (fields : definitionOf body = some (c, d))

include fields

theorem defineControl_duplicateBinding (held : bindingHolder s.config.working c d.binding = some h) :
    defineControl i body s = complete s i (holderReply .duplicateBinding h) := by
  simp only [defineControl, fields, defineControlAs, held]

variable (unbound : bindingHolder s.config.working c d.binding = none)

include unbound

theorem defineControl_lampInUse (held : lampHolder s.config.working c d.lamp = some h) :
    defineControl i body s = complete s i (holderReply .lampInUse h) := by
  simp only [defineControl, fields, defineControlAs, unbound, held]

variable (unlit : lampHolder s.config.working c d.lamp = none)

include unlit

theorem defineControl_groupFull (full : groupIsFull s.config.working c d.kind = true) :
    defineControl i body s = complete s i (bare .groupFull) := by
  simp only [defineControl, fields, defineControlAs, unbound, unlit, full, if_true]

theorem defineControl_defines (room : groupIsFull s.config.working c d.kind = false) :
    defineControl i body s =
      complete (editDefinitions s (withDefinition s.config.working c (some d))) i
        (dirtyReply (editDefinitions s (withDefinition s.config.working c (some d)))) := by
  simp only [defineControl, fields, defineControlAs, unbound, unlit, room, Bool.false_eq_true, if_false]

end

/-- Settles O26: the field ranges one by one, then the holders that R140's uniqueness makes the ones found. -/
theorem defineControlIsRefused : Obligations.DefineControlIsRefused := by
  unfold Obligations.DefineControlIsRefused
  constructor
  · intro s tag ih il kind group bp bl be bc lp ll ln ls i taken config
    have carried : exec (.defineControl tag [ih, il, kind, group, bp, bl, be, bc, lp, ll, ln, ls]) s =
        .next (defineControl i [ih, il, kind, group, bp, bl, be, bc, lp, ll, ln, ls] (placed s tag 0x32 _ i)) :=
      exec_taken_carried .defineControl rfl taken rfl (by rw [config]; rfl)
    refine ⟨?_, fun bad => by rw [carried, defineControl_badField i bad]⟩
    rw [definitionOf_eq_none_iff, controlOf_eq_none_iff, kindOf_eq_none_iff, bindingOf_eq_none_iff,
      lampOf_eq_none_iff]
    simp only [or_assoc]
  · intro s tag body i c h d o taken config wf length fields p others
    obtain ⟨rising, -, bindings, lamps, -⟩ := wf
    have carried : exec (.defineControl tag body) s = .next (defineControl i body p) :=
      exec_taken_carried .defineControl rfl taken length (by rw [config]; rfl)
    rw [carried]
    have unbound (free : d.binding = none ∨ others fun x => x.binding = d.binding) :
        bindingHolder p.config.working c d.binding = none :=
      bindingHolder_free rising fun k x other defined => free.imp_right fun apart => apart k x other defined
    refine ⟨fun other defined present same => ?_, fun free other defined present same => ?_,
      fun free dark g kind full => ?_⟩
    · rw [defineControl_duplicateBinding (s := p) i fields (bindingHolder_held bindings other defined present same)]
      rfl
    · rw [defineControl_lampInUse i fields (unbound free) (lampHolder_held lamps other defined present same)]
      rfl
    · have unlit : lampHolder p.config.working c d.lamp = none :=
        lampHolder_free rising fun k x other defined => dark.imp_right fun apart => apart k x other defined
      have crowded : groupIsFull p.config.working c d.kind = true := by
        rw [kind]
        exact decide_eq_true full
      rw [defineControl_groupFull i fields (unbound free) unlit crowded]

end Sys2Proof.Machine
end

section
/-! One definition set or removed (R141, R142): the table brought into line (R5, R7), the lamps handed (R18). -/

namespace Sys2Proof.Machine

/-! ## The new image -/

theorem lookupKey_withDefinition (image : ConfigImage) (c k : ControlId) (o : Option ControlDef) :
    lookupKey (withDefinition image c o).controls k = if c = k then o else lookupKey image.controls k := by
  cases o with
  | none => exact lookupKey_eraseKey image.controls c k
  | some d => exact lookupKey_insertKey image.controls c k d

theorem rising_withDefinition {image : ConfigImage} (rising : sortedKeys image.controls) (c : ControlId)
    (o : Option ControlDef) : sortedKeys (withDefinition image c o).controls := by
  cases o with
  | none => exact sortedKeys_eraseKey rising c
  | some d => exact sortedKeys_insertKey rising c d

/-- A listed entry and the table without it make up the table. -/
theorem perm_eraseKey {n : Nat} {α : Type} {t : List (Fin n × α)} (rising : sortedKeys t) {k : Fin n} {v : α}
    (listed : lookupKey t k = some v) : t.Perm ((k, v) :: eraseKey t k) := by
  induction t with
  | nil => cases listed
  | cons e t ih =>
    obtain ⟨j, w⟩ := e
    obtain ⟨above, rest⟩ := List.pairwise_cons.mp rising
    rw [lookupKey_cons] at listed
    split at listed
    · next same =>
      subst same
      cases listed
      have kept : eraseKey ((j, v) :: t) j = t := by
        have others : ∀ e ∈ t, decide (e.1 ≠ j) = true := fun e he => decide_eq_true (above e he).ne'
        rw [eraseKey, List.filter_cons_of_neg (by simp), List.filter_eq_self.mpr others]
      rw [kept]
    · next other =>
      have kept : eraseKey ((j, w) :: t) k = (j, w) :: eraseKey t k := by
        rw [eraseKey, List.filter_cons_of_pos (by simpa using other)]
        rfl
      rw [kept]
      exact ((ih rest listed).cons _).trans (.swap ..)

/-- A deleted control is no longer counted in its group (R6). -/
theorem memberCount_withoutDefinition {image : ConfigImage} (rising : sortedKeys image.controls) {c : ControlId}
    {d : ControlDef} (defined : lookupKey image.controls c = some d) (g : GroupId) :
    (withDefinition image c none).memberCount g = image.memberCount g - (if d.kind = .member g then 1 else 0) := by
  have counted : image.memberCount g =
      (withDefinition image c none).memberCount g + (if d.kind = .member g then 1 else 0) := by
    rw [ConfigImage.memberCount, (perm_eraseKey rising defined).countP_eq, List.countP_cons]
    simp [ConfigImage.memberCount, withDefinition]
  rw [counted, Nat.add_sub_cancel]

/-- Where no two controls share a lamp, a control that references another's lamp is that control (R140). -/
theorem lampPosition_unique {image : ConfigImage} (distinct : image.distinctLamps) {c k : ControlId}
    {d x : ControlDef} {q : LampPosition} (defined : lookupKey image.controls c = some d)
    (references : d.lampPosition = some q) (other : lookupKey image.controls k = some x)
    (shares : x.lampPosition = some q) : k = c := by
  have found {a : ControlId} {y : ControlDef} (listed : lookupKey image.controls a = some y)
      (refs : y.lampPosition = some q) :
      (image.controls.find? fun e => decide (e.2.lampPosition = some q)) = some (a, y) := by
    refine find?_of_apart (mem_of_lookupKey listed) (decide_eq_true refs) (distinct.imp fun apart hit => ?_)
    have first := of_decide_eq_true hit
    exact decide_eq_false fun second => apart.elim (by simp [first]) (· (first.trans second.symm))
  cases (found other shares).symm.trans (found defined references)
  rfl

theorem imageReferences_iff {image : ConfigImage} (rising : sortedKeys image.controls) (q : LampPosition) :
    imageReferences image q = true ↔ ∃ k x, lookupKey image.controls k = some x ∧ x.lampPosition = some q := by
  simp only [imageReferences, List.any_eq_true, decide_eq_true_eq]
  constructor
  · rintro ⟨⟨k, x⟩, listed, refs⟩
    exact ⟨k, x, lookupKey_of_mem rising listed, refs⟩
  · rintro ⟨k, x, listed, refs⟩
    exact ⟨(k, x), mem_of_lookupKey listed, refs⟩

/-- The old lamp of a control is referenced by the new image only where its new definition does so (R140). -/
theorem imageReferences_withDefinition {image : ConfigImage} (rising : sortedKeys image.controls)
    (distinct : image.distinctLamps) {c : ControlId} {x : ControlDef} {q : LampPosition}
    (defined : lookupKey image.controls c = some x) (references : x.lampPosition = some q) (o : Option ControlDef) :
    imageReferences (withDefinition image c o) q = true ↔ o.bind ControlDef.lampPosition = some q := by
  simp only [imageReferences_iff (rising_withDefinition rising c o), lookupKey_withDefinition,
    Option.bind_eq_some_iff]
  constructor
  · rintro ⟨k, y, listed, shares⟩
    split at listed
    · exact ⟨y, listed, shares⟩
    · next other => exact absurd (lampPosition_unique distinct defined references listed shares).symm other
  · rintro ⟨d, rfl, shares⟩
    exact ⟨c, d, if_pos rfl, shares⟩

/-! ## The state after the edit -/

/-- The state after the definition of `c` becomes `o` (R141, R142). -/
def redefine (s : State) (c : ControlId) (o : Option ControlDef) : State :=
  editDefinitions s (withDefinition s.config.working c o)

/-- An edit changes the definitions, the dirty flag, the Control Table and the lanes. -/
theorem redefine_frame (s : State) (c : ControlId) (o : Option ControlDef) :
    redefine s c o =
      { s with
        config := (redefine s c o).config, table := (redefine s c o).table, lanes := (redefine s c o).lanes } := rfl

theorem redefine_config (s : State) (c : ControlId) (o : Option ControlDef) :
    (redefine s c o).config =
      { s.config with
        working := withDefinition s.config.working c o
        dirty := decide (withDefinition s.config.working c o ≠ s.config.storeCopy) } := rfl

theorem dirtyReply_redefine (s : State) (c : ControlId) (o : Option ControlDef) :
    dirtyReply (redefine s c o) =
      ⟨.ok, [if (redefine s c o).config.working = s.config.storeCopy then 0 else 1]⟩ :=
  dirtyReply_of_dirty rfl

theorem definition_redefine (s : State) (c k : ControlId) (o : Option ControlDef) :
    (redefine s c o).definition k = if c = k then o else s.definition k :=
  lookupKey_withDefinition s.config.working c k o

section

variable (s : State) (c : ControlId) (o : Option ControlDef)

theorem definition_redefine_self : (redefine s c o).definition c = o := by
  rw [definition_redefine, if_pos rfl]

theorem definition_redefine_ne {k : ControlId} (other : k ≠ c) :
    (redefine s c o).definition k = s.definition k := by
  rw [definition_redefine, if_neg other.symm]

/-! ## Selections (R7) -/

theorem selection_redefine (g : GroupId) :
    (redefine s c o).selection g = keptSelection s (withDefinition s.config.working c o) g := by
  have read : (redefine s c o).selection g =
      (Vector.ofFn fun g => keptSelection s (withDefinition s.config.working c o) g)[g] := rfl
  rw [read]
  simp

end

section

variable {s : State} (laws : ControlLaws s) (c : ControlId) (o : Option ControlDef)

include laws

/-- A selection is cleared where its control is `c` and the new definition is no MEMBER of the group. -/
theorem keptSelection_withDefinition (g : GroupId) :
    keptSelection s (withDefinition s.config.working c o) g =
      if s.selection g = some c ∧ ∀ d ∈ o, d.kind ≠ .member g then none else s.selection g := by
  cases selected : s.selection g with
  | none => simp [keptSelection, selected]
  | some p =>
    obtain ⟨x, defined, kind⟩ := laws.selected g p selected
    simp only [keptSelection, selected, lookupKey_withDefinition]
    by_cases same : c = p
    · subst same
      cases o with
      | none => simp
      | some d => by_cases member : d.kind = .member g <;> simp [member]
    · have listed : lookupKey s.config.working.controls p = some x := defined
      simp [same, Ne.symm same, listed, kind]

theorem losesSelection_withDefinition_iff (k : ControlId) :
    losesSelection s (withDefinition s.config.working c o) k = true ↔
      k = c ∧ ∃ g, s.selection g = some c ∧ ∀ d ∈ o, d.kind ≠ .member g := by
  simp only [losesSelection, List.any_eq_true, List.mem_finRange, true_and, decide_eq_true_eq,
    keptSelection_withDefinition laws]
  constructor
  · rintro ⟨g, selected, lost⟩
    split at lost
    · next cleared =>
      obtain ⟨same, out⟩ := cleared
      cases selected.symm.trans same
      exact ⟨rfl, g, same, out⟩
    · exact absurd selected lost
  · rintro ⟨rfl, g, selected, out⟩
    exact ⟨g, selected, by rw [if_pos ⟨selected, out⟩]; nofun⟩

end

/-! ## Dynamic parts (R5) -/

theorem control_redefine (s : State) (c k : ControlId) (o : Option ControlDef) :
    (redefine s c o).control k =
      ((lookupKey (withDefinition s.config.working c o).controls k).map
        (alignedControl s (withDefinition s.config.working c o) k)).getD .fresh :=
  congrArg (fun x : Option ControlState => x.getD .fresh) (lookupKey_map (withDefinition s.config.working c o).controls
    (alignedControl s (withDefinition s.config.working c o)) k)

theorem sameKind_self (k : ControlKind) : sameKind k k = true := by cases k <;> rfl

/-- The dynamic part of a control that was defined before (R5). -/
theorem alignedControl_of_defined {s : State} {image : ConfigImage} {c : ControlId} {x d : ControlDef}
    (defined : s.definition c = some x) :
    alignedControl s image c d =
      { s.control c with
        latched := if sameKind x.kind d.kind then (s.control c).latched else false
        lastChange :=
          if (!sameKind x.kind d.kind && (s.control c).latched) || losesSelection s image c then some s.time.uptime
          else (s.control c).lastChange } := by
  simp only [alignedControl, defined]
  cases sameKind x.kind d.kind <;> rfl

section

variable {s : State} (laws : ControlLaws s) (c : ControlId) (o : Option ControlDef)

include laws

/-- The other controls keep their dynamic parts. -/
theorem control_redefine_ne {k : ControlId} (other : k ≠ c) : (redefine s c o).control k = s.control k := by
  rw [control_redefine, lookupKey_withDefinition, if_neg other.symm]
  cases defined : s.definition k with
  | none =>
    have listed : lookupKey s.config.working.controls k = none := defined
    rw [listed, State.control_of_unlisted (laws.unlisted_iff.mpr defined)]
    rfl
  | some x =>
    have listed : lookupKey s.config.working.controls k = some x := defined
    have kept : losesSelection s (withDefinition s.config.working c o) k = false :=
      Bool.eq_false_iff.mpr fun lost => other ((losesSelection_withDefinition_iff laws c o k).mp lost).1
    rw [listed, Option.map_some, Option.getD_some, alignedControl_of_defined defined, kept, sameKind_self]
    rfl

/-- In CONFIG mode every control is UNKNOWN (R3). -/
theorem ControlLaws.physical_config (config : s.config.mode = .config) (k : ControlId) :
    (s.control k).physical = .unknown := by
  cases defined : s.definition k with
  | none => rw [State.control_of_unlisted (laws.unlisted_iff.mpr defined)]; rfl
  | some x => exact (laws.physical k x defined).mpr (by simp [config])

end

theorem control_redefine_removed (s : State) (c : ControlId) : (redefine s c none).control c = .fresh := by
  rw [control_redefine, lookupKey_withDefinition, if_pos rfl]
  rfl

theorem control_redefine_self (s : State) (c : ControlId) (d : ControlDef) :
    (redefine s c (some d)).control c = alignedControl s (withDefinition s.config.working c (some d)) c d := by
  rw [control_redefine, lookupKey_withDefinition, if_pos rfl]
  rfl

theorem control_redefine_new {s : State} {c : ControlId} (undefined : s.definition c = none) (d : ControlDef) :
    (redefine s c (some d)).control c = .fresh := by
  rw [control_redefine_self]
  simp only [alignedControl, undefined]

section

variable {s : State} (laws : ControlLaws s) {c : ControlId} {x d : ControlDef}

include laws

/-- A redefined control that held a selection and loses it (R5, R7). -/
theorem control_redefine_cleared {g : GroupId} (defined : s.definition c = some x) (member : x.kind = .member g)
    (selected : s.selection g = some c) (out : d.kind ≠ .member g) :
    (redefine s c (some d)).control c =
      { s.control c with latched := false, lastChange := some s.time.uptime } := by
  have lost : losesSelection s (withDefinition s.config.working c (some d)) c = true :=
    (losesSelection_withDefinition_iff laws c (some d) c).mpr ⟨rfl, g, selected, by simpa using out⟩
  have unlatched : (s.control c).latched = false := by
    refine Bool.eq_false_iff.mpr fun latched => ?_
    cases member.symm.trans (laws.latched c x defined latched)
  rw [control_redefine_self, alignedControl_of_defined defined, lost, unlatched]
  simp

/-- A redefined control that loses no selection (R5). -/
theorem control_redefine_kept (defined : s.definition c = some x)
    (kept : ∀ g, s.selection g = some c → d.kind = .member g) :
    (redefine s c (some d)).control c =
      if sameKind x.kind d.kind then s.control c
      else
        { s.control c with
          latched := false
          lastChange := if (s.control c).latched then some s.time.uptime else (s.control c).lastChange } := by
  have held : losesSelection s (withDefinition s.config.working c (some d)) c = false := by
    refine Bool.eq_false_iff.mpr fun lost => ?_
    obtain ⟨-, g, selected, out⟩ := (losesSelection_withDefinition_iff laws c (some d) c).mp lost
    exact out d rfl (kept g selected)
  rw [control_redefine_self, alignedControl_of_defined defined, held]
  cases sameKind x.kind d.kind <;> simp

/-- In CONFIG mode a redefined control stays UNKNOWN, and a new one begins so. -/
theorem physical_redefine (config : s.config.mode = .config) :
    ((redefine s c (some d)).control c).physical = .unknown := by
  cases defined : s.definition c with
  | none =>
    rw [control_redefine_new defined]
    rfl
  | some x =>
    rw [control_redefine_self, alignedControl_of_defined defined]
    exact laws.physical_config config c

end

/-! ## Lamps (R18) -/

/-- A value handed twice in a row is written as once. -/
theorem followWrite_followWrite (l : LaneId) (owners image : Half) (h : LampPosition × Bool) :
    followWrite l owners (followWrite l owners image h) h = followWrite l owners image h := by
  refine image_ext fun n => ?_
  obtain ⟨q, lit⟩ := h
  rw [getLsbD_followWrite, getLsbD_followWrite]
  split <;> rfl

/-- Lamps handed once or more for one control, at most one lamp each time, are written as once. -/
theorem foldl_followWrite_repeat (l : LaneId) (owners : Half) {f : ControlId → List (LampPosition × Bool)}
    {c : ControlId} (short : (f c).length ≤ 1) {cs : List ControlId} (same : ∀ k ∈ cs, k = c) (nonempty : cs ≠ [])
    (image : Half) :
    (cs.flatMap f).foldl (followWrite l owners) image = (f c).foldl (followWrite l owners) image := by
  induction cs generalizing image with
  | nil => exact absurd rfl nonempty
  | cons k ks ih =>
    obtain ⟨rfl, rest⟩ := List.forall_mem_cons.mp same
    rw [List.flatMap_cons, List.foldl_append]
    by_cases last : ks = []
    · rw [last]
      rfl
    · rw [ih rest last]
      cases once : f k with
      | nil => rfl
      | cons h hs =>
        have alone : hs = [] := List.eq_nil_of_length_eq_zero (by rw [once, List.length_cons] at short; omega)
        rw [alone]
        exact followWrite_followWrite l owners _ h

theorem State.handedLamp_short (s : State) (c : ControlId) : (s.handedLamp c).length ≤ 1 := by
  unfold State.handedLamp
  repeat' split
  all_goals simp

theorem releasedLamp_short (s : State) (image : ConfigImage) (c : ControlId) :
    (releasedLamp s image c).length ≤ 1 := by
  unfold releasedLamp
  repeat' split
  all_goals simp

theorem mem_changedControls_iff {s : State} {image : ConfigImage} {k : ControlId} :
    k ∈ changedControls s image ↔ s.definition k ≠ lookupKey image.controls k := by
  rw [changedControls, List.mem_filter, decide_eq_true_eq, List.mem_append, and_iff_right_iff_imp]
  intro differs
  by_contra unlisted
  obtain ⟨old, new⟩ := not_or.mp unlisted
  exact differs ((lookupKey_eq_none_iff.mpr old).trans (lookupKey_eq_none_iff.mpr new).symm)

theorem mem_changedControls_withDefinition {s : State} {c k : ControlId} {o : Option ControlDef} :
    k ∈ changedControls s (withDefinition s.config.working c o) ↔ k = c ∧ s.definition c ≠ o := by
  rw [mem_changedControls_iff, lookupKey_withDefinition]
  by_cases same : c = k
  · subst same
    simp
  · simp [same, Ne.symm same, State.definition]

/-- The lamps that an edit hands: the old lamp of the identifier if released, and its new lamp (R18). -/
def editedLamps (s : State) (c : ControlId) (o : Option ControlDef) : List (LampPosition × Bool) :=
  if s.definition c = o then []
  else releasedLamp s (withDefinition s.config.working c o) c ++ (redefine s c o).handedLamp c

/-- The definitions replaced and the Control Table in line with them, before the lamps are handed (R5, R7). -/
def realigned (s : State) (image : ConfigImage) : State :=
  { s with
    config := { s.config with working := image }
    table :=
      { entries := image.controls.map fun e => (e.1, alignedControl s image e.1 e.2)
        selections := Vector.ofFn fun g => keptSelection s image g } }

theorem replaceDefinitions_eq (s : State) (image : ConfigImage) :
    replaceDefinitions s image =
      (realigned s image).writeLamps ((changedControls s image).flatMap (releasedLamp s image) ++
        (changedControls s image).flatMap (realigned s image).handedLamp) := rfl

theorem handedLamp_redefine (s : State) (c k : ControlId) (o : Option ControlDef) :
    (realigned s (withDefinition s.config.working c o)).handedLamp k = (redefine s c o).handedLamp k := rfl

theorem lane_redefine (s : State) (c : ControlId) (o : Option ControlDef) (k : LaneId) :
    (redefine s c o).lane k = (s.lane k).withDesired (handedImage k (s.lane k) (editedLamps s c o)) := by
  let image := withDefinition s.config.working c o
  let changed := changedControls s image
  have settled : (redefine s c o).lane k = (s.lane k).withDesired (handedImage k (s.lane k)
      (changed.flatMap (releasedLamp s image) ++ changed.flatMap (realigned s image).handedLamp)) := by
    have lane : (redefine s c o).lane k = (settleLamps s (replaceDefinitions s image)).lane k := rfl
    rw [lane, replaceDefinitions_eq, lane_settleLamps_writeLamps (s := s) (t := realigned s image) rfl]
  have same : ∀ j ∈ changed, j = c := fun j listed => (mem_changedControls_withDefinition.mp listed).1
  rw [settled, editedLamps]
  refine congrArg (s.lane k).withDesired ?_
  split
  · next unchanged =>
    have empty : changed = [] := List.eq_nil_iff_forall_not_mem.mpr fun j listed =>
      (mem_changedControls_withDefinition.mp listed).2 unchanged
    rw [empty]
    rfl
  · next differs =>
    have nonempty : changed ≠ [] :=
      List.ne_nil_of_mem (mem_changedControls_withDefinition.mpr ⟨rfl, differs⟩)
    rw [handedImage, handedImage, List.foldl_append, List.foldl_append,
      foldl_followWrite_repeat k _ (releasedLamp_short s image c) same nonempty,
      foldl_followWrite_repeat k _ ((realigned s image).handedLamp_short c) same nonempty,
      handedLamp_redefine]

end Sys2Proof.Machine
end

section
/-! DELETE-CONTROL (R142), and DEFINE-CONTROL with no conflict (R141). -/

namespace Sys2Proof.Machine

/-- Placing a request leaves what the laws of the Control Table speak of. -/
theorem ControlLaws.placed {s : State} (laws : ControlLaws s) (tag kind : Byte) (body : List Byte) (i : SlotId) :
    ControlLaws (placed s tag kind body i) where
  keys := laws.keys
  rising := laws.rising
  physical := laws.physical
  latched := laws.latched
  selected := laws.selected
  slots := laws.slots
  startup := laws.startup
  voting := laws.voting
  noWrite := laws.noWrite

/-! ## The old lamp of a redefined control (R18) -/

section

variable {s : State} {c : ControlId}

theorem releasedLamp_unlit (image : ConfigImage) (unlit : (s.definition c).bind (·.lamp) = none) :
    releasedLamp s image c = [] := by
  have dark : (s.definition c).bind ControlDef.lampPosition = none := by
    rw [Option.bind_eq_none_iff] at unlit ⊢
    exact fun d defined => by rw [ControlDef.lampPosition, unlit d defined]; rfl
  simp only [releasedLamp, dark]

/-- The old lamp goes OFF unless the new definition references it. -/
theorem releasedLamp_lit (wf : s.config.working.wf) (o : Option ControlDef) {r : LampRef}
    (lit : (s.definition c).bind (·.lamp) = some r) :
    releasedLamp s (withDefinition s.config.working c o) c =
      if o.bind ControlDef.lampPosition = some r.position then [] else [(r.position, false)] := by
  obtain ⟨rising, -, -, distinct, -⟩ := wf
  obtain ⟨x, defined, lamp⟩ := Option.bind_eq_some_iff.mp lit
  have position : x.lampPosition = some r.position := by rw [ControlDef.lampPosition, lamp]; rfl
  have old : (s.definition c).bind ControlDef.lampPosition = some r.position := by rw [defined]; exact position
  simp only [releasedLamp, old, imageReferences_withDefinition rising distinct defined position o]

end

/-! ## DELETE-CONTROL (R142) -/

section

variable {s : State} (i : SlotId) {h l : Byte} {c : ControlId}

theorem deleteControl_badField (bad : controlOf h l = none) :
    deleteControl i [h, l] s = complete s i (bare .badField) := by
  simp only [deleteControl, bad]

theorem deleteControl_notDefined (id : controlOf h l = some c) (undefined : s.definition c = none) :
    deleteControl i [h, l] s = complete s i (bare .notDefined) := by
  simp only [deleteControl, id, undefined]

theorem deleteControl_deletes {d : ControlDef} (id : controlOf h l = some c) (defined : s.definition c = some d) :
    deleteControl i [h, l] s = complete (redefine s c none) i (dirtyReply (redefine s c none)) := by
  simp only [deleteControl, id, defined, redefine]

end

/-- A deleted control hands its lamp OFF. -/
theorem editedLamps_removed {s : State} (wf : s.config.working.wf) {c : ControlId} {d : ControlDef}
    (defined : s.definition c = some d) :
    editedLamps s c none = (match d.lamp with | some r => [(r.position, false)] | none => []) := by
  have handed : (redefine s c none).handedLamp c = [] := by
    simp only [State.handedLamp, definition_redefine_self]
  rw [editedLamps, if_neg (by rw [defined]; nofun), handed, List.append_nil]
  have old : (s.definition c).bind (·.lamp) = d.lamp := by rw [defined]; rfl
  cases lamp : d.lamp with
  | none => exact releasedLamp_unlit _ (old.trans lamp)
  | some r => exact releasedLamp_lit wf none (old.trans lamp)

theorem selection_redefine_removed {s : State} {c : ControlId} (laws : ControlLaws s) (g : GroupId) :
    (redefine s c none).selection g = if s.selection g = some c then none else s.selection g := by
  rw [selection_redefine, keptSelection_withDefinition laws]
  simp

/-- Settles O28: the identifier and its definition, then the edit that removes it. -/
theorem deleteControlUndefines : Obligations.DeleteControlUndefines := by
  unfold Obligations.DeleteControlUndefines
  intro s tag ih il i taken config laws wf p
  have carried : exec (.deleteControl tag [ih, il]) s = .next (deleteControl i [ih, il] p) :=
    exec_taken_carried .deleteControl rfl taken rfl (by rw [config]; rfl)
  rw [carried]
  refine ⟨fun high => ?_, fun c id => ⟨fun undefined => ?_, fun d defined => ?_⟩⟩
  · rw [deleteControl_badField i (controlOf_eq_none high)]
  · rw [deleteControl_notDefined (s := p) i (controlOf_of_val id) undefined]
  · have lawful : ControlLaws p := laws.placed ..
    have present : p.definition c = some d := defined
    refine ⟨redefine p c none, ?_, redefine_frame p c none, redefine_config p c none,
      definition_redefine_self p c none, control_redefine_removed p c,
      fun k other => ⟨definition_redefine_ne p c none other, control_redefine_ne lawful c none other⟩,
      memberCount_withoutDefinition laws.rising defined, selection_redefine_removed lawful, fun k => ?_⟩
    · rw [deleteControl_deletes i (controlOf_of_val id) present, dirtyReply_redefine]
      rfl
    · exact (lane_redefine p c none k).trans (congrArg
        (fun handed => (s.lane k).withDesired (handedImage k (s.lane k) handed))
        (editedLamps_removed (s := p) wf present))

/-! ## What the body of DEFINE-CONTROL spells (12.2, R188) -/

theorem kindOf_eq_some_member {group : Byte} {k : ControlKind} (read : kindOf 2 group = some k) :
    ∃ g, k = .member g ∧ g.val = group.toNat := by
  rw [kindOf_member, Option.map_eq_some_iff] at read
  obtain ⟨g, field, rfl⟩ := read
  exact ⟨g, rfl, finOf_eq_some_iff.mp field⟩

theorem bindingOf_eq_some_present {lane extended code : Byte} {b : Option Binding}
    (read : bindingOf 1 lane extended code = some b) :
    ∃ l, b = some ⟨l, decide (extended = 1), code⟩ ∧ l.val = lane.toNat := by
  simp only [bindingOf_present, Option.bind_eq_some_iff, Option.some.injEq] at read
  obtain ⟨l, lane, e, flag, c, key, rfl⟩ := read
  obtain ⟨-, rfl⟩ := keyCodeOf_eq_some_iff.mp key
  rw [flagOf_eq_some flag]
  exact ⟨l, rfl, finOf_eq_some_iff.mp lane⟩

theorem lampOf_eq_some_present {lane lamp sense : Byte} {r : Option LampRef}
    (read : lampOf 1 lane lamp sense = some r) :
    ∃ l n, r = some ⟨⟨l, n⟩, if sense = 1 then .inverted else .normal⟩ ∧ l.val = lane.toNat ∧
      n.val = lamp.toNat := by
  simp only [lampOf_present, Option.bind_eq_some_iff, Option.some.injEq] at read
  obtain ⟨l, lane, n, lamp, v, sense, rfl⟩ := read
  rw [senseOf_eq_some sense]
  exact ⟨l, n, rfl, finOf_eq_some_iff.mp lane, finOf_eq_some_iff.mp lamp⟩

/-! ## The bytes of a definition read back -/

/-- The group byte of a definition, 00h where it is no MEMBER (R189). -/
def groupByte : ControlKind → Byte
  | .member g => byteOf g.val
  | _ => 0

theorem byteOf_toNat {n : Nat} (small : n < 256) : (byteOf n).toNat = n := Nat.mod_eq_of_lt small

theorem finOf_byteOf {n : Nat} (k : Fin n) (small : n ≤ 256) : finOf n (byteOf k.val).toNat = some k :=
  finOf_of_val (byteOf_toNat (k.isLt.trans_le small))

theorem kindOf_bytes (k : ControlKind) : kindOf (kindCode k) (groupByte k) = some k := by
  cases k with
  | momentary => rfl
  | toggle => rfl
  | member g => exact congrArg (Option.map ControlKind.member) (finOf_byteOf g (by decide))

theorem flagOf_flagCode (v : Bool) : flagOf (flagCode v) = some v := by cases v <;> rfl

theorem senseOf_senseCode (v : Sense) : senseOf (senseCode v) = some v := by cases v <;> rfl

theorem bindingOf_bytes {b : Binding} (code : isKeyCode b.code) :
    bindingOf 1 (byteOf b.lane.val) (flagCode b.extended) b.code = some (some b) := by
  rw [bindingOf_present, laneOf, finOf_byteOf b.lane (by decide), flagOf_flagCode,
    keyCodeOf_eq_some_iff.mpr ⟨code, rfl⟩]
  rfl

theorem lampOf_bytes (r : LampRef) :
    lampOf 1 (byteOf r.position.lane.val) (byteOf r.position.lamp.val) (senseCode r.sense) = some (some r) := by
  rw [lampOf_present, laneOf, finOf_byteOf r.position.lane (by decide), finOf_byteOf r.position.lamp (by decide),
    senseOf_senseCode]
  rfl

/-- A number of two bytes is the number those bytes spell. -/
theorem half_be16 (x : Half) : half (x.extractLsb' 8 8) (x.extractLsb' 0 8) = x := by
  apply BitVec.eq_of_toNat_eq
  rw [half_toNat, BitVec.extractLsb'_toNat, BitVec.extractLsb'_toNat, Nat.shiftRight_eq_div_pow]
  omega

theorem controlOf_be16 (c : ControlId) :
    controlOf ((BitVec.ofNat 16 c.val).extractLsb' 8 8) ((BitVec.ofNat 16 c.val).extractLsb' 0 8) = some c := by
  rw [controlOf, half_be16]
  exact finOf_of_val (Nat.mod_eq_of_lt (by omega))

/-- The bytes that READ-CONTROL-DEF gives for a definition define it again (R143, R141). -/
theorem definitionOf_definitionBytes (c : ControlId) {d : ControlDef} (wf : d.wf) :
    definitionOf (be16 (BitVec.ofNat 16 c.val) ++ definitionBytes d) = some (c, d) := by
  obtain ⟨k, binding, lamp⟩ := d
  have kind := kindOf_bytes k
  cases binding with
  | none =>
    cases lamp with
    | none => exact definitionOf_eq_some_iff.mpr ⟨controlOf_be16 c, kind, rfl, rfl⟩
    | some r => exact definitionOf_eq_some_iff.mpr ⟨controlOf_be16 c, kind, rfl, lampOf_bytes r⟩
  | some b =>
    have bound := bindingOf_bytes (wf b rfl)
    cases lamp with
    | none => exact definitionOf_eq_some_iff.mpr ⟨controlOf_be16 c, kind, bound, rfl⟩
    | some r => exact definitionOf_eq_some_iff.mpr ⟨controlOf_be16 c, kind, bound, lampOf_bytes r⟩

theorem length_of_definitionOf {body : List Byte} {e : ControlId × ControlDef} (fields : definitionOf body = some e) :
    body.length = RequestKind.defineControl.bodyLength := by
  unfold definitionOf at fields
  split at fields
  · rfl
  · cases fields

/-! ## DEFINE-CONTROL with no conflict (R141) -/

theorem groupIsFull_eq_false {image : ConfigImage} {c : ControlId} {kind : ControlKind}
    (room : ∀ g, kind = .member g →
      (image.controls.countP fun e => decide (e.1 ≠ c ∧ e.2.kind = .member g)) < 16) :
    groupIsFull image c kind = false := by
  cases kind with
  | momentary => rfl
  | toggle => rfl
  | member g => exact decide_eq_false (room g rfl).not_ge

theorem selection_redefine_set {s : State} (laws : ControlLaws s) (c : ControlId) (d : ControlDef) (g : GroupId) :
    (redefine s c (some d)).selection g =
      if s.selection g = some c ∧ d.kind ≠ .member g then none else s.selection g := by
  rw [selection_redefine, keptSelection_withDefinition laws]
  simp

/-- A defined control hands the lamp it had OFF, unless it keeps it, and its lamp as it shows while no key is DOWN. -/
theorem editedLamps_set {s : State} (laws : ControlLaws s) (wf : s.config.working.wf)
    (config : s.config.mode = .config) (c : ControlId) (d : ControlDef) :
    editedLamps s c (some d) =
      if s.definition c = some d then []
      else
        (match (s.definition c).bind (·.lamp) with
          | some r => if d.lampPosition = some r.position then [] else [(r.position, false)]
          | none => []) ++
        lampValue d (match d.kind with
          | .momentary => false
          | .toggle => ((redefine s c (some d)).control c).latched
          | .member g => decide ((redefine s c (some d)).selection g = some c)) := by
  have up : ((redefine s c (some d)).control c).physical ≠ .down := by
    rw [physical_redefine laws config]
    nofun
  rw [editedLamps, (redefine s c (some d)).handedLamp_of_definition (definition_redefine_self s c (some d)),
    State.litOf_not_down d up]
  cases old : (s.definition c).bind (·.lamp) with
  | none =>
    exact congrArg (fun lamps => if s.definition c = some d then [] else lamps ++ _) (releasedLamp_unlit _ old)
  | some r =>
    exact congrArg (fun lamps => if s.definition c = some d then [] else lamps ++ _)
      (releasedLamp_lit wf (some d) old)

/-- Settles O27: what the body spells, the body of a definition read back, then the edit. -/
theorem defineControlSetsTheDefinition : Obligations.DefineControlSetsTheDefinition := by
  unfold Obligations.DefineControlSetsTheDefinition
  refine ⟨fun ih il kind group bp bl be bc lp ll ln ls c d fields => ?_,
    fun c d wf => definitionOf_definitionBytes c wf, ?_⟩
  · obtain ⟨id, kindField, bindingField, lampField⟩ := definitionOf_eq_some_iff.mp fields
    refine ⟨controlOf_eq_some_iff.mp id, ?_, ?_, ?_, ?_, ?_, ?_, ?_⟩
    · rintro rfl
      exact (Option.some.inj kindField).symm
    · rintro rfl
      exact (Option.some.inj kindField).symm
    · rintro rfl
      exact kindOf_eq_some_member kindField
    · rintro rfl
      exact (Option.some.inj bindingField).symm
    · rintro rfl
      exact bindingOf_eq_some_present bindingField
    · rintro rfl
      exact (Option.some.inj lampField).symm
    · rintro rfl
      exact lampOf_eq_some_present lampField
  · intro s tag body i c d fields taken config laws wf free room p
    have lawful : ControlLaws p := laws.placed ..
    have carried : exec (.defineControl tag body) s = .next (defineControl i body p) :=
      exec_taken_carried .defineControl rfl taken (length_of_definitionOf fields) (by rw [config]; rfl)
    have unbound : bindingHolder p.config.working c d.binding = none :=
      bindingHolder_free laws.rising fun k x other defined => (free k x other defined).1
    have unlit : lampHolder p.config.working c d.lamp = none :=
      lampHolder_free laws.rising fun k x other defined => (free k x other defined).2
    refine ⟨redefine p c (some d), ?_, redefine_frame p c (some d), redefine_config p c (some d),
      definition_redefine_self p c (some d), fun k => definition_redefine_ne p c (some d),
      fun k => control_redefine_ne lawful c (some d), fun undefined => control_redefine_new undefined d,
      fun o defined => ?_, fun o defined kept => control_redefine_kept lawful defined kept,
      selection_redefine_set lawful c d, fun k => ?_⟩
    · have defines : defineControl i body p =
          complete (redefine p c (some d)) i (dirtyReply (redefine p c (some d))) :=
        defineControl_defines (s := p) i fields unbound unlit (groupIsFull_eq_false room)
      rw [carried, defines, dirtyReply_redefine]
      rfl
    · rintro ⟨g, member, selected, out⟩
      exact control_redefine_cleared lawful defined member selected out
    · exact (lane_redefine p c (some d) k).trans (congrArg
        (fun handed => (s.lane k).withDesired (handedImage k (s.lane k) handed))
        (editedLamps_set lawful wf config c d))

end Sys2Proof.Machine
end

section
/-! Intake (R178 to R181): the slot that holds a frame's tag, the slot a new request is placed in, and what becomes of a
frame by them. -/

namespace Sys2Proof.Machine

/-! ## The slot that holds a tag (R179) -/

theorem RequestSlot.holds_iff {x : RequestSlot} {tag : Byte} :
    x.holds tag = true ↔ ∃ q, x.request = some q ∧ q.tag = tag := by
  simp [RequestSlot.holds, Option.any_eq_true]

theorem slotHolding_eq_none_iff {s : State} {tag : Byte} :
    s.slotHolding tag = none ↔ ∀ i q, (s.slot i).request = some q → q.tag ≠ tag := by
  simp [State.slotHolding, RequestSlot.holds_iff]

/-- Tags are distinct, so the slot that holds one is the slot found. -/
theorem slotHolding_of_request {s : State} (laws : RequestLaws s) {i : SlotId} {q : RequestId}
    (held : (s.slot i).request = some q) : s.slotHolding q.tag = some i := by
  cases found : s.slotHolding q.tag with
  | none => exact absurd rfl (slotHolding_eq_none_iff.mp found i q held)
  | some j =>
    obtain ⟨p, heldToo, sameTag⟩ := RequestSlot.holds_iff.mp (slotHolding_some found)
    rw [laws.distinctTags j i p q heldToo held sameTag]

/-! ## The slot a new request is placed in (R180) -/

theorem RequestSlot.isFree_iff {x : RequestSlot} : x.isFree = true ↔ x = .free := by
  cases x <;> simp [RequestSlot.isFree]

/-- With a FREE slot the one chosen is FREE. -/
theorem chosenSlot_of_free {s : State} (free : ∃ i, s.slot i = .free) :
    ∃ i, s.slot i = .free ∧ s.chosenSlot = some i := by
  unfold State.chosenSlot
  split
  · next i found => exact ⟨i, RequestSlot.isFree_iff.mp (by simpa using List.find?_some found), rfl⟩
  · next noneFree =>
    obtain ⟨i, free⟩ := free
    exact absurd (RequestSlot.isFree_iff.mpr free) (List.find?_eq_none.mp noneFree i (List.mem_finRange i))

/-- With no FREE slot the one chosen is the oldest of the completion order. -/
theorem chosenSlot_of_no_free {s : State} (taken : ∀ i, s.slot i ≠ .free) :
    s.chosenSlot = s.requests.order.head? := by
  have noneFree : (List.finRange 16).find? (fun i => (s.slot i).isFree) = none :=
    List.find?_eq_none.mpr fun i _ free => taken i (RequestSlot.isFree_iff.mp free)
  simp [State.chosenSlot, noneFree]

/-- With every slot ACTIVE there is none to place a request in. -/
theorem chosenSlot_of_all_active {s : State} (laws : RequestLaws s) (active : ∀ i, ∃ q, s.slot i = .active q) :
    s.chosenSlot = none := by
  have noneDone : s.requests.order = [] := by
    refine List.eq_nil_iff_forall_not_mem.mpr fun i listed => ?_
    have done := (laws.orderDone i).mp listed
    obtain ⟨q, isActive⟩ := active i
    rw [isActive] at done
    cases done
  rw [chosenSlot_of_no_free, noneDone, List.head?_nil]
  intro i free
  obtain ⟨q, isActive⟩ := active i
  rw [free] at isActive
  cases isActive

/-! ## Unstored refusals and stored replies sent again (R181, R172) -/

theorem queueRefusal_queued {s : State} (few : s.link.replies.countP ReplyEntry.isRefusal < 4) (tag kind : Byte)
    (status : Status) :
    queueRefusal s tag kind status =
      { s with link := { s.link with replies := s.link.replies ++ [.refusal tag kind status] } } :=
  if_pos few

/-- The frames-discarded counter stops at FFFFh (R171). -/
theorem saturate16_eq (x : Half) : saturate16 x = if x = 0xFFFF then 0xFFFF else x + 1 := by
  by_cases full : x = 0xFFFF#16
  · simp [saturate16, full]
  · simp [saturate16, full]

theorem queueRefusal_counted {s : State} (four : s.link.replies.countP ReplyEntry.isRefusal = 4) (tag kind : Byte)
    (status : Status) :
    queueRefusal s tag kind status =
      { s with
        link := { s.link with
          discarded := if s.link.discarded = 0xFFFF then 0xFFFF else s.link.discarded + 1 } } := by
  rw [queueRefusal, if_neg four.not_lt, countDiscard, saturate16_eq]

theorem requeue_listed {s : State} {i : SlotId} (listed : ReplyEntry.slot i ∈ s.link.replies) : requeue s i = s := by
  simp [requeue, queueSlotEntry, listed]

theorem requeue_unlisted {s : State} {i : SlotId} (unlisted : ReplyEntry.slot i ∉ s.link.replies) :
    requeue s i = { s with link := { s.link with replies := s.link.replies ++ [.slot i] } } := by
  simp [requeue, queueSlotEntry, unlisted]

/-! ## What becomes of a frame (R179) -/

section

variable {s : State} {tag kind : Byte} {body : List Byte} {i : SlotId} {q : RequestId}

theorem intake_ignored (held : s.slotHolding tag = some i) (active : s.slot i = .active q)
    (same : q.check = bodyCheck kind body) : intake s tag kind body = s := by
  simp [intake, held, active, same]

theorem intake_conflict (held : s.slotHolding tag = some i) (active : s.slot i = .active q)
    (other : q.check ≠ bodyCheck kind body) :
    intake s tag kind body = queueRefusal s tag kind .tagConflict := by
  simp [intake, held, active, other]

theorem intake_repeated {r : Reply} (held : s.slotHolding tag = some i) (done : s.slot i = .done q r)
    (same : q.check = bodyCheck kind body) : intake s tag kind body = requeue s i := by
  simp [intake, held, done, same]

theorem intake_busy (new : s.slotHolding tag = none) (full : s.chosenSlot = none) :
    intake s tag kind body = queueRefusal s tag kind .busy := by
  simp [intake, new, full]

/-- While the part runs, a request row with a tag other than 0 is the intake of its frame. -/
theorem exec_intake {c : Instr} (row : requestOf c = some (tag, kind, body)) (running : s.line = .running)
    (tagged : tag ≠ 0) : exec c s = .next (intake s tag kind body) := by
  rw [exec_request row, whenRunning_running running, receiveFrame, if_neg tagged]

end

/-- Settles O10: a held tag by its slot and body check (R179), a new tag by the slot R180 chooses. -/
theorem requestFramesAreTakenOrAnswered : Obligations.RequestFramesAreTakenOrAnswered := by
  unfold Obligations.RequestFramesAreTakenOrAnswered
  refine ⟨fun s c tag kind body i q row running laws sameTag tagged => ?_,
    fun s c tag kind body row running laws tagged unheld => ?_⟩
  · have received : exec c s = .next (intake s tag kind body) := exec_intake row running tagged
    have held (request : (s.slot i).request = some q) : s.slotHolding tag = some i :=
      sameTag ▸ slotHolding_of_request laws request
    have heldActive (active : s.slot i = .active q) : s.slotHolding tag = some i := held (by rw [active]; rfl)
    have heldDone {r : Reply} (done : s.slot i = .done q r) : s.slotHolding tag = some i := held (by rw [done]; rfl)
    refine ⟨fun active same => ?_, fun active other => ?_, fun r done same => ?_, fun r done other => ?_⟩
    · rw [received, intake_ignored (heldActive active) active same]
    · rw [received, intake_conflict (heldActive active) active other]
      exact ⟨fun few => by rw [queueRefusal_queued few], fun four => by rw [queueRefusal_counted four]⟩
    · rw [received, intake_repeated (heldDone done) done same]
      exact ⟨fun listed => by rw [requeue_listed listed], fun unlisted => by rw [requeue_unlisted unlisted]⟩
    · exact ⟨running, tagged, .inr ⟨heldDone done, q, r, done, other⟩⟩
  · have new : s.slotHolding tag = none := slotHolding_eq_none_iff.mpr unheld
    refine ⟨fun free => ?_, fun noneFree i rest order => ?_, fun active => ?_⟩
    · obtain ⟨i, isFree, chosen⟩ := chosenSlot_of_free free
      exact ⟨i, isFree, running, tagged, .inl ⟨new, chosen⟩⟩
    · have chosen : s.chosenSlot = some i := by rw [chosenSlot_of_no_free noneFree, order, List.head?_cons]
      exact ⟨running, tagged, .inl ⟨new, chosen⟩⟩
    · rw [exec_intake row running tagged, intake_busy new (chosenSlot_of_all_active laws active)]
      exact ⟨fun few => by rw [queueRefusal_queued few], fun four => by rw [queueRefusal_counted four]⟩

end Sys2Proof.Machine
end

section
/-! The general requests (R184 to R186): IDENTIFY-PART, GET-STATUS and RESTART. -/

namespace Sys2Proof.Machine

theorem identity_eq : identity = [0x45, 0x47, 0x38, 0x31, 0x36, 1, 8, 16, 0x02, 0x00, 32, 128, 16] := by
  decide

/-- A request that is being served has an ACTIVE slot, its own. -/
theorem one_le_activeSlots {s : State} {i : SlotId} {q : RequestId} (active : s.slot i = .active q) :
    1 ≤ s.activeSlots :=
  List.countP_pos_iff.mpr ⟨i, List.mem_finRange i, by rw [active]; rfl⟩

/-- The phases, lane by lane from lane 0 (12.3). -/
theorem phaseCodes_eq (s : State) :
    (List.finRange 8).map (fun l => (s.lane l).phase.code) =
      [(s.lane 0).phase.code, (s.lane 1).phase.code, (s.lane 2).phase.code, (s.lane 3).phase.code,
       (s.lane 4).phase.code, (s.lane 5).phase.code, (s.lane 6).phase.code, (s.lane 7).phase.code] :=
  rfl

section

variable {s : State} (i : SlotId) (body : List Byte)

theorem restartRequest_busy (busy : s.store.activity ≠ .idle ∨ s.store.restartPending = true) :
    restartRequest i body s = complete s i (bare .storeBusy) :=
  if_pos busy

theorem restartRequest_pending (idle : s.store.activity = .idle) (unset : s.store.restartPending = false) :
    restartRequest i body s =
      complete { s with store := { s.store with restartPending := true } } i (bare .ok) := by
  simp [restartRequest, idle, unset]

end

/-- Settles O13: each request passes the length and mode checks (R182) and is carried out; the placed request's own slot
is ACTIVE when GET-STATUS counts. -/
theorem generalRequestsAnswer : Obligations.GeneralRequestsAnswer := by
  unfold Obligations.GeneralRequestsAnswer
  refine ⟨fun s tag i taken => ?_, fun s tag i active done taken actives dones => ?_,
    fun s tag i taken ready => ?_, rfl, rfl, rfl, rfl, rfl, rfl, rfl⟩
  · have carried : exec (.identifyPart tag []) s = .next (identifyPart i [] (placed s tag 0x01 [] i)) :=
      exec_taken_carried .identifyPart rfl taken rfl rfl
    rw [carried, identifyPart, identity_eq]
  · have carried : exec (.getStatus tag []) s = .next (getStatus i [] (placed s tag 0x02 [] i)) :=
      exec_taken_carried .getStatus rfl taken rfl rfl
    subst actives dones
    refine ⟨one_le_activeSlots (placed_slot_self s tag 0x02 [] i), ?_⟩
    rw [carried, getStatus, statusBytes, phaseCodes_eq]
    rfl
  · intro p
    have carried : exec (.restart tag []) s = .next (restartRequest i [] p) :=
      exec_taken_carried .restart rfl taken rfl (modeRefusal_ready ready)
    rw [carried]
    refine ⟨fun busy => ?_, fun idle unset => ?_⟩
    · rw [restartRequest_busy (s := p) i [] busy]
    · rw [restartRequest_pending (s := p) i [] idle unset]

end Sys2Proof.Machine
end

section
/-! What the operations on lanes leave as it is: the frame that every happening on a lane keeps, said once for each shared
operation, and the commands sorted by what they are (R23, log 2). -/

namespace Sys2Proof.Machine

set_option Elab.async false

/-! ## The frame of a happening on a lane -/

/-- A wait of the Translator as R65 has it: delivery is not OFF and the queue is full. -/
def State.waitsForSpace (s : State) : Prop :=
  s.translator.waiting ≠ none → s.delivery.state ≠ .off ∧ 128 ≤ s.queue.records.length

/-- What a happening on a lane leaves as it is: everything but lanes, dynamic parts, EXT/REL states, the Request Table and
the outgoing reply list; a turn that waits is the same one or one considered anew (R66, R114). -/
structure LaneWork (s t : State) : Prop where
  time : t.time = s.time
  line : t.line = s.line
  queue : t.queue = s.queue
  delivery : t.delivery = s.delivery
  config : t.config = s.config
  store : t.store = s.store
  pending : t.pending = s.pending
  link : t.link = { s.link with replies := t.link.replies }
  start : t.translator.start = s.translator.start
  learn : t.translator.learn = s.translator.learn
  waiting : t.translator.waiting = s.translator.waiting ∨ t.waitsForSpace
  selections : t.table.selections = s.table.selections

namespace LaneWork

theorem rfl' (s : State) : LaneWork s s :=
  ⟨rfl, rfl, rfl, rfl, rfl, rfl, rfl, rfl, rfl, rfl, .inl rfl, rfl⟩

theorem trans {s t u : State} (h : LaneWork s t) (k : LaneWork t u) : LaneWork s u where
  time := k.time.trans h.time
  line := k.line.trans h.line
  queue := k.queue.trans h.queue
  delivery := k.delivery.trans h.delivery
  config := k.config.trans h.config
  store := k.store.trans h.store
  pending := k.pending.trans h.pending
  link := by rw [k.link, h.link]
  start := k.start.trans h.start
  learn := k.learn.trans h.learn
  waiting := by
    rcases k.waiting with same | space
    · rcases h.waiting with same' | space'
      · exact .inl (same.trans same')
      · refine .inr fun waits => ?_
        rw [k.delivery, k.queue]
        exact space' (same ▸ waits)
    · exact .inr space
  selections := k.selections.trans h.selections

theorem setLane (s : State) (l : LaneId) (x : Lane) : LaneWork s (s.setLane l x) :=
  ⟨rfl, rfl, rfl, rfl, rfl, rfl, rfl, rfl, rfl, rfl, .inl rfl, rfl⟩

theorem modLane (s : State) (l : LaneId) (f : Lane → Lane) : LaneWork s (s.modLane l f) := setLane s l _

theorem mapLanes (s : State) (f : LaneId → Lane → Lane) : LaneWork s (s.mapLanes f) :=
  ⟨rfl, rfl, rfl, rfl, rfl, rfl, rfl, rfl, rfl, rfl, .inl rfl, rfl⟩

theorem writeLamps (s : State) (handed : List (LampPosition × Bool)) : LaneWork s (s.writeLamps handed) := mapLanes s _

theorem settleLamps (before : State) {s t : State} (h : LaneWork s t) : LaneWork s (settleLamps before t) :=
  h.trans (mapLanes t _)

theorem mapControls (s : State) (f : ControlId → ControlState → ControlState) : LaneWork s (s.mapControls f) :=
  ⟨rfl, rfl, rfl, rfl, rfl, rfl, rfl, rfl, rfl, rfl, .inl rfl, rfl⟩

theorem setPrefix (s : State) (l : LaneId) (p : PrefixState) : LaneWork s (s.setPrefix l p) :=
  ⟨rfl, rfl, rfl, rfl, rfl, rfl, rfl, rfl, rfl, rfl, .inl rfl, rfl⟩

theorem complete (s : State) (i : SlotId) (r : Reply) : LaneWork s (complete s i r) := by
  obtain ⟨_, _, e⟩ := complete_frame s i r
  rw [e]
  exact ⟨rfl, rfl, rfl, rfl, rfl, rfl, rfl, rfl, rfl, rfl, .inl rfl, rfl⟩

theorem completeAll (s : State) (is : List SlotId) (r : Reply) : LaneWork s (completeAll s is r) := by
  obtain ⟨_, _, e⟩ := completeAll_frame s is r
  rw [e]
  exact ⟨rfl, rfl, rfl, rfl, rfl, rfl, rfl, rfl, rfl, rfl, .inl rfl, rfl⟩

theorem completeOpt (s : State) (i : Option SlotId) (r : Reply) : LaneWork s (completeOpt s i r) := by
  cases i with
  | none => exact rfl' s
  | some i => exact complete s i r

theorem completeWaiters (s : State) (ws : List LampWaiter) : LaneWork s (completeWaiters s ws) := by
  induction ws generalizing s with
  | nil => exact rfl' s
  | cons w ws ih => exact (complete s w.slot (lampsReply w.target)).trans (ih _)

end LaneWork

/-- A lane that a turn considered anew waits for needs space (R65). -/
theorem heldLane_waits {s : State} (held : heldLane s ≠ none) :
    s.delivery.state ≠ .off ∧ 128 ≤ s.queue.records.length := by
  unfold heldLane at held
  split at held
  · split at held
    · next turn => simp_all [turnHeld, queueFull]
    · exact absurd rfl held
  · exact absurd rfl held

theorem reconsider_waits (s : State) : (reconsider s).waitsForSpace := by
  intro waits
  unfold reconsider at waits ⊢
  split
  · next none => simp_all
  · next some => simp only [some] at waits; exact heldLane_waits waits

namespace LaneWork

theorem reconsider (s : State) : LaneWork s (reconsider s) := by
  refine ⟨?_, ?_, ?_, ?_, ?_, ?_, ?_, ?_, ?_, ?_, .inr (reconsider_waits s), ?_⟩ <;>
    · unfold Machine.reconsider
      split <;> rfl

theorem reconsiderFor (s : State) (l : LaneId) : LaneWork s (reconsiderFor s l) := by
  unfold Machine.reconsiderFor
  split
  · exact reconsider s
  · exact rfl' s

/-! ## Phases, faults and the command list -/

theorem recordFault (s : State) (l : LaneId) (k : LaneFault) : LaneWork s (recordFault s l k) := modLane s l _

theorem changePhase (s : State) (l : LaneId) (p : Phase) (step : Option StartStep) :
    LaneWork s (changePhase s l p step) := modLane s l _

theorem changeStep (s : State) (l : LaneId) (step : StartStep) : LaneWork s (changeStep s l step) := modLane s l _

theorem queueStartUp (s : State) (l : LaneId) (k : EntryKind) : LaneWork s (queueStartUp s l k) := modLane s l _

theorem setKnown (s : State) (l : LaneId) (m : Option ModuleId) : LaneWork s (setKnown s l m) := modLane s l _

theorem enterAbsent (s : State) (l : LaneId) : LaneWork s (enterAbsent s l) :=
  ((changePhase s l _ _).trans (setKnown _ l _)).trans (queueStartUp _ l _)

theorem enterMismatch (s : State) (l : LaneId) : LaneWork s (enterMismatch s l) :=
  (changePhase s l _ _).trans (queueStartUp _ l _)

theorem setBoundPhysical (s : State) (l : LaneId) (p : Physical) : LaneWork s (setBoundPhysical s l p) := mapControls s _

theorem handBound (s : State) (l : LaneId) : LaneWork s (handBound s l) := writeLamps s _

theorem leaveRunning (s : State) (l : LaneId) (status : Status) : LaneWork s (leaveRunning s l status) := by
  unfold Machine.leaveRunning
  exact ((((((completeAll s _ _).trans (modLane _ l _)).trans (setPrefix _ l _)).trans (setBoundPhysical _ l _)).trans
    (handBound _ l)).trans (modLane _ l _)).trans (reconsiderFor _ l)

theorem loseModule (s : State) (l : LaneId) : LaneWork s (loseModule s l) :=
  ((recordFault s l _).trans (leaveRunning _ l _)).trans (enterAbsent _ l)

theorem enterRunning (s : State) (l : LaneId) : LaneWork s (enterRunning s l) := by
  unfold Machine.enterRunning
  dsimp only
  split
  · exact (((changePhase s l _ _).trans (setBoundPhysical _ l _)).trans (handBound _ l)).trans (writeLamps _ _)
  · exact ((changePhase s l _ _).trans (handBound _ l)).trans (writeLamps _ _)

theorem restartStart (s : State) (l : LaneId) : LaneWork s (restartStart s l) :=
  (setKnown s l _).trans (queueStartUp _ l _)

theorem helloTaken (s : State) (l : LaneId) : LaneWork s (helloTaken s l) := by
  unfold Machine.helloTaken
  dsimp only
  split
  · split
    · exact (modLane s l _).trans (modLane _ l _)
    · exact ((modLane s l _).trans (modLane _ l _)).trans (queueStartUp _ l _)
  · split
    · exact ((modLane s l _).trans (changeStep _ l _)).trans (queueStartUp _ l _)
    · exact ((modLane s l _).trans (changeStep _ l _)).trans (restartStart _ l)
  · exact (((recordFault s l _).trans (leaveRunning _ l _)).trans (changePhase _ l _ _)).trans (restartStart _ l)
  · exact ((modLane s l _).trans (changePhase _ l _ _)).trans (restartStart _ l)
  · exact rfl' s

theorem typeMismatch (s : State) (l : LaneId) : LaneWork s (typeMismatch s l) :=
  (recordFault s l _).trans (enterMismatch _ l)

theorem checkIdentified (s : State) (l : LaneId) : LaneWork s (checkIdentified s l) := by
  unfold Machine.checkIdentified
  dsimp only
  split
  · split
    · exact (changeStep s l _).trans (queueStartUp _ l _)
    · exact (changePhase s l _ _).trans (queueStartUp _ l _)
  · exact typeMismatch s l

theorem checkEnabled (s : State) (l : LaneId) : LaneWork s (checkEnabled s l) := by
  unfold Machine.checkEnabled
  split
  · exact enterRunning s l
  · exact typeMismatch s l

/-! ## Lane settings (R115) -/

theorem disableLane (s : State) (l : LaneId) : LaneWork s (disableLane s l) := by
  unfold Machine.disableLane
  dsimp only
  split
  · exact ((leaveRunning s l _).trans (changePhase _ l _ _)).trans (modLane _ l _)
  · exact (changePhase s l _ _).trans (modLane _ l _)

theorem enableLane (s : State) (l : LaneId) : LaneWork s (enableLane s l) := (enterAbsent s l).trans (modLane _ l _)

theorem applyExpectedType (s : State) (l : LaneId) : LaneWork s (applyExpectedType s l) := by
  unfold Machine.applyExpectedType
  dsimp only
  split
  · split
    · exact rfl' s
    · exact ((recordFault s l _).trans (leaveRunning _ l _)).trans (enterMismatch _ l)
  · split
    · exact (changePhase s l _ _).trans (queueStartUp _ l _)
    · exact rfl' s
  all_goals exact rfl' s

theorem applySetting (s : State) (l : LaneId) (old : LaneSetting) : LaneWork s (applySetting s l old) := by
  unfold Machine.applySetting
  dsimp only
  split
  · exact disableLane s l
  · exact rfl' s
  · exact enableLane s l
  · split
    · exact rfl' s
    · exact applyExpectedType s l

theorem applyAllSettings (s : State) (old : Vector LaneSetting 8) : LaneWork s (applyAllSettings s old) := by
  unfold Machine.applyAllSettings
  generalize List.finRange 8 = ls
  induction ls generalizing s with
  | nil => exact rfl' s
  | cons l ls ih => exact (applySetting s l _).trans (ih _)

/-! ## The lane link -/

theorem slotByte (s : State) (l : LaneId) (b : Byte) : LaneWork s (slotByte s l b) := by
  unfold Machine.slotByte
  split
  · exact modLane s l _
  · exact recordFault s l _

theorem receiveByte (s : State) (l : LaneId) (b : Byte) : LaneWork s (receiveByte s l b) := by
  unfold Machine.receiveByte
  split
  · exact helloTaken s l
  · exact rfl' s
  · exact rfl' s
  · exact rfl' s
  all_goals
    split
    · exact slotByte s l b
    · exact rfl' s

theorem failEntry (s : State) (l : LaneId) (e : Option Entry) (k : LaneFault) : LaneWork s (failEntry s l e k) := by
  unfold Machine.failEntry
  split
  · exact (completeAll s _ _).trans (modLane _ l _)
  · exact completeOpt s _ _
  · exact rfl' s

theorem countFailure (s : State) (l : LaneId) (k : LaneFault) : LaneWork s (countFailure s l k) := by
  unfold Machine.countFailure
  split
  · exact rfl' s
  · exact modLane s l _

theorem requeueLamp (s : State) (l : LaneId) (e : Option Entry) : LaneWork s (requeueLamp s l e) := by
  unfold Machine.requeueLamp
  split
  · exact modLane s l _
  · exact rfl' s

theorem exchangeFails (s : State) (l : LaneId) (k : LaneFault) : LaneWork s (exchangeFails s l k) := by
  unfold Machine.exchangeFails
  dsimp only
  split
  · have counted (x : Lane) := (((setLane s l x).trans (recordFault _ l k)).trans (countFailure _ l k)).trans
      (failEntry _ l (s.lane l).inProgress k)
    split
    · exact (counted _).trans (loseModule _ l)
    · exact (counted _).trans (requeueLamp _ l _)
  · exact ((setLane s l _).trans (recordFault _ l k)).trans (enterAbsent _ l)
  · exact ((setLane s l _).trans (recordFault _ l k)).trans (enterAbsent _ l)
  · exact (setLane s l _).trans (modLane _ l _)
  · exact setLane s l _

theorem lampSucceeds (s : State) (l : LaneId) : LaneWork s (lampSucceeds s l) := by
  unfold Machine.lampSucceeds
  split
  · exact rfl' s
  · exact ((modLane s l _).trans (completeWaiters _ _)).trans (modLane _ l _)

theorem resetSucceeds (s : State) (l : LaneId) : LaneWork s (resetSucceeds s l) := by
  unfold Machine.resetSucceeds
  exact (((leaveRunning s l _).trans (setKnown _ l _)).trans (changePhase _ l _ _)).trans (modLane _ l _)

theorem hostIdentified (s : State) (l : LaneId) (m : ModuleId) : LaneWork s (hostIdentified s l m) := by
  unfold Machine.hostIdentified
  dsimp only
  split
  · exact setKnown s l _
  · exact (((setKnown s l _).trans (recordFault _ l _)).trans (leaveRunning _ l _)).trans (enterMismatch _ l)

theorem exchangeSucceeds (s : State) (l : LaneId) (m : ModuleId) : LaneWork s (exchangeSucceeds s l m) := by
  unfold Machine.exchangeSucceeds
  dsimp only
  split
  · exact ((setLane s l _).trans (completeOpt _ _ _)).trans (hostIdentified _ l m)
  · exact (setLane s l _).trans (completeOpt _ _ _)
  · exact ((setLane s l _).trans (completeOpt _ _ _)).trans (resetSucceeds _ l)
  · exact (setLane s l _).trans (lampSucceeds _ l)
  · exact ((setLane s l _).trans (setKnown _ l _)).trans (checkIdentified _ l)
  · exact (setLane s l _).trans (checkEnabled _ l)
  · exact setLane s l _
  · exact setLane s l _

theorem repeatCommand (s : State) (l : LaneId) (ex : Exchange) : LaneWork s (repeatCommand s l ex) := by
  unfold Machine.repeatCommand
  split
  · exact modLane s l _
  · exact exchangeFails s l _

theorem fillPosition (s : State) (l : LaneId) (ex : Exchange) (rest : List ReplyPosition) (m : ModuleId) :
    LaneWork s (fillPosition s l ex rest m) := by
  unfold Machine.fillPosition
  split
  · exact modLane s l _
  · split
    · exact modLane s l _
    · exact exchangeSucceeds s l m

theorem strayByte (s : State) (l : LaneId) (b : Byte) : LaneWork s (strayByte s l b) := by
  unfold Machine.strayByte
  split
  · split
    · exact modLane s l _
    · exact exchangeFails s l _
  · exact rfl' s

theorem helloEnds (s : State) (l : LaneId) : LaneWork s (helloEnds s l) := (modLane s l _).trans (helloTaken _ l)

theorem resendDelivers (s : State) (l : LaneId) (b : Byte) : LaneWork s (resendDelivers s l b) :=
  (modLane s l _).trans (receiveByte _ l b)

theorem resendBad (s : State) (l : LaneId) : LaneWork s (resendBad s l) := by
  unfold Machine.resendBad
  dsimp only
  split
  · exact (modLane s l _).trans (modLane _ l _)
  · exact ((modLane s l _).trans (modLane _ l _)).trans (recordFault _ l _)

theorem ackReply (s : State) (l : LaneId) (ex : Exchange) (rest : List ReplyPosition) (b : Byte) :
    LaneWork s (ackReply s l ex rest b) := by
  unfold Machine.ackReply
  split
  · exact fillPosition s l ex rest _
  · exact repeatCommand s l ex
  · exact exchangeFails s l _
  · exact helloEnds s l
  · exact strayByte s l b
  · exact strayByte s l b
  · exact exchangeFails s l _

theorem replyByte (s : State) (l : LaneId) (ex : Exchange) (b : Byte) : LaneWork s (replyByte s l ex b) := by
  unfold Machine.replyByte
  split
  · exact rfl' s
  · exact ackReply s l ex _ b
  · split
    · exact fillPosition s l ex _ _
    · split
      · exact helloEnds s l
      · exact exchangeFails s l _
  · split
    · exact fillPosition s l ex _ _
    · split
      · exact helloEnds s l
      · exact exchangeFails s l _
  · split
    · exact repeatCommand s l ex
    · split
      · exact exchangeFails s l _
      · exact resendDelivers s l b

theorem badReplyFrame (s : State) (l : LaneId) (ex : Exchange) : LaneWork s (badReplyFrame s l ex) := by
  unfold Machine.badReplyFrame
  split
  · exact rfl' s
  · exact resendBad s l
  · exact repeatCommand s l ex

theorem badFrameOutside (s : State) (l : LaneId) : LaneWork s (badFrameOutside s l) := by
  unfold Machine.badFrameOutside
  dsimp only
  split
  · exact rfl' s
  · split
    · exact recordFault s l _
    · exact modLane s l _

/-! ## Happenings on a lane's wires -/

theorem frameStarts (s : State) (l : LaneId) : LaneWork s (frameStarts s l) := by
  unfold Machine.frameStarts
  split
  · exact modLane s l _
  · exact modLane s l _
  · exact rfl' s

theorem goodFrameEnds (s : State) (l : LaneId) (b : Byte) : LaneWork s (goodFrameEnds s l b) := by
  unfold Machine.goodFrameEnds
  dsimp only
  split
  · split
    · exact modLane s l _
    · exact (modLane s l _).trans (receiveByte _ l b)
  · split
    · exact (modLane s l _).trans (replyByte _ l _ b)
    · exact rfl' s
  · exact rfl' s

theorem badFrameEnds (s : State) (l : LaneId) : LaneWork s (badFrameEnds s l) := by
  unfold Machine.badFrameEnds
  dsimp only
  split
  · split
    · exact modLane s l _
    · exact (modLane s l _).trans (badFrameOutside _ l)
  · split
    · exact (modLane s l _).trans (badReplyFrame _ l _)
    · exact rfl' s
  · exact rfl' s

theorem frameBreached (s : State) (l : LaneId) : LaneWork s (frameBreached s l) := by
  unfold Machine.frameBreached
  dsimp only
  split
  · split
    · exact modLane s l _
    · exact modLane s l _
    · exact (modLane s l _).trans (recordFault _ l _)
  · exact (modLane s l _).trans (exchangeFails _ l _)
  · exact rfl' s

theorem exchangeStarts (s : State) (l : LaneId) : LaneWork s (exchangeStarts s l) := by
  unfold Machine.exchangeStarts
  split
  · exact modLane s l _
  · exact rfl' s

theorem firstClock (s : State) (l : LaneId) : LaneWork s (firstClock s l) := by
  unfold Machine.firstClock
  split
  · split
    · exact rfl' s
    · exact modLane s l _
  · exact rfl' s

theorem byteCompletes (s : State) (l : LaneId) : LaneWork s (byteCompletes s l) := by
  unfold Machine.byteCompletes
  split
  · split
    · exact modLane s l _
    · exact rfl' s
  · exact rfl' s

theorem clockExpires (s : State) (l : LaneId) : LaneWork s (clockExpires s l) := by
  unfold Machine.clockExpires
  split
  · split
    · exact exchangeFails s l _
    · exact rfl' s
  · exact rfl' s

theorem byteExpires (s : State) (l : LaneId) : LaneWork s (byteExpires s l) := by
  unfold Machine.byteExpires
  split
  · split
    · exact exchangeFails s l _
    · exact rfl' s
  · exact rfl' s

theorem replyExpires (s : State) (l : LaneId) : LaneWork s (replyExpires s l) := by
  unfold Machine.replyExpires
  split
  · split
    · exact exchangeFails s l _
    · exact rfl' s
  · exact rfl' s

theorem probeFallsDue (s : State) (l : LaneId) : LaneWork s (probeFallsDue s l) := by
  unfold Machine.probeFallsDue
  dsimp only
  split
  · exact (modLane s l _).trans (queueStartUp _ l _)
  · exact rfl' s

theorem helloExpires (s : State) (l : LaneId) : LaneWork s (helloExpires s l) := by
  unfold Machine.helloExpires
  dsimp only
  split
  · split
    · exact (modLane s l _).trans (enterAbsent _ l)
    · exact enterAbsent s l
  · exact rfl' s

end LaneWork

end Sys2Proof.Machine
end

section
/-! Every command, sorted by what it does; the clock, the reset line and the queue of commands that all but the tick and the
resets leave as they are (R23, R24, log 2, log 5). -/

namespace Sys2Proof.Machine

set_option Elab.async false

/-! ## What a command does -/

/-- What command `c` makes of a state: in a part that runs, the meaning of its row (request rows as the hand-over of their
frame); nothing while a reset is held, but for the reset's own commands (log 5). -/
inductive Happening (s : State) : Instr → State → Prop where
  | held (c : Instr) : s.line ≠ .running → Happening s c s
  | resetEnds (ending : ResetEnding) (straps : BitVec 2) :
      Happening s (.hardReset ending straps) (hardResetEnds s ending straps)
  | resetBegins (cause : ResetBeginning) : Happening s (.hardResetBegins cause) (hardResetStarts s cause)
  | tick : s.line = .running → Happening s .timeBaseTick (tick s)
  | hostByte (b : Byte) (stop : Bool) : s.line = .running →
      Happening s (.hostByteReceived b stop) (byteReceived s b stop)
  | gap (startBit : Bool) : s.line = .running → Happening s (.gapLimit startBit) (gapExpires s startBit)
  | request (c : Instr) (tag kind : Byte) (body : List Byte) : requestOf c = some (tag, kind, body) →
      s.line = .running → Happening s c (receiveFrame tag kind body s)
  | replyStarts : s.line = .running → Happening s .replyFrameStart (replyStarts s)
  | reportStarts : s.line = .running → Happening s .reportFrameStart (reportStarts s)
  | replyEnds (straps : BitVec 2) : s.line = .running → Happening s (.replyFrameEnd straps) (replyEnds s straps)
  | reportEnds : s.line = .running → Happening s .reportFrameEnd (reportEnds s)
  | timer : s.line = .running → Happening s .retransmissionTimerExpires (timerExpires s)
  | turn : s.line = .running → Happening s .translatorTurn (settleLamps s (takeTurn s))
  | learnTimeout : s.line = .running → Happening s .learnTimeout (learnExpires s)
  | frameStart (l : LaneId) : s.line = .running → Happening s (.moduleFrameStart l) (frameStarts s l)
  | goodFrame (l : LaneId) (b : Byte) : s.line = .running →
      Happening s (.goodFrame l b) (settleLamps s (goodFrameEnds s l b))
  | badFrame (l : LaneId) : s.line = .running → Happening s (.badFrame l) (settleLamps s (badFrameEnds s l))
  | breach (l : LaneId) : s.line = .running → Happening s (.frameLimitBreach l) (settleLamps s (frameBreached s l))
  | exchangeStart (l : LaneId) : s.line = .running → Happening s (.exchangeStart l) (exchangeStarts s l)
  | noClock (l : LaneId) : s.line = .running → Happening s (.noClock l) (settleLamps s (clockExpires s l))
  | byteComplete (l : LaneId) : s.line = .running → Happening s (.commandByteComplete l) (byteCompletes s l)
  | txTimeout (l : LaneId) : s.line = .running → Happening s (.txTimeout l) (settleLamps s (byteExpires s l))
  | noReply (l : LaneId) : s.line = .running → Happening s (.noReply l) (settleLamps s (replyExpires s l))
  | probeDue (l : LaneId) : s.line = .running → Happening s (.probeDue l) (probeFallsDue s l)
  | helloDeadline (l : LaneId) : s.line = .running → Happening s (.helloDeadline l) (helloExpires s l)
  | bankRead : s.line = .running → Happening s .bankReadEnds (bankReadEnds s)
  | bankWrite (r : ReadBack) : s.line = .running → Happening s (.bankWriteAttemptEnds r) (writeAttemptEnds s r)
  | firstClock (l : LaneId) : s.line = .running → Happening s (.moduleFirstClock l) (firstClock s l)

/-- Every command answers a next state, and that state is what its happening makes. -/
theorem exec_happening (c : Instr) (s : State) : ∃ t, exec c s = .next t ∧ Happening s c t := by
  by_cases running : s.line = .running
  · have on (f : State → State) : whenRunning s f = f s := whenRunning_running running f
    cases c
    case hardReset ending straps => exact ⟨_, rfl, .resetEnds ending straps⟩
    case hardResetBegins cause => exact ⟨_, rfl, .resetBegins cause⟩
    case timeBaseTick => exact ⟨_, rfl, on _ ▸ .tick running⟩
    case hostByteReceived b stop => exact ⟨_, rfl, on _ ▸ .hostByte b stop running⟩
    case gapLimit startBit => exact ⟨_, rfl, on _ ▸ .gap startBit running⟩
    case replyFrameStart => exact ⟨_, rfl, on _ ▸ .replyStarts running⟩
    case reportFrameStart => exact ⟨_, rfl, on _ ▸ .reportStarts running⟩
    case replyFrameEnd straps => exact ⟨_, rfl, on _ ▸ .replyEnds straps running⟩
    case reportFrameEnd => exact ⟨_, rfl, on _ ▸ .reportEnds running⟩
    case retransmissionTimerExpires => exact ⟨_, rfl, on _ ▸ .timer running⟩
    case translatorTurn => exact ⟨_, rfl, on _ ▸ .turn running⟩
    case learnTimeout => exact ⟨_, rfl, on _ ▸ .learnTimeout running⟩
    case moduleFrameStart l => exact ⟨_, rfl, on _ ▸ .frameStart l running⟩
    case goodFrame l b => exact ⟨_, rfl, on _ ▸ .goodFrame l b running⟩
    case badFrame l => exact ⟨_, rfl, on _ ▸ .badFrame l running⟩
    case frameLimitBreach l => exact ⟨_, rfl, on _ ▸ .breach l running⟩
    case exchangeStart l => exact ⟨_, rfl, on _ ▸ .exchangeStart l running⟩
    case noClock l => exact ⟨_, rfl, on _ ▸ .noClock l running⟩
    case commandByteComplete l => exact ⟨_, rfl, on _ ▸ .byteComplete l running⟩
    case txTimeout l => exact ⟨_, rfl, on _ ▸ .txTimeout l running⟩
    case noReply l => exact ⟨_, rfl, on _ ▸ .noReply l running⟩
    case probeDue l => exact ⟨_, rfl, on _ ▸ .probeDue l running⟩
    case helloDeadline l => exact ⟨_, rfl, on _ ▸ .helloDeadline l running⟩
    case bankReadEnds => exact ⟨_, rfl, on _ ▸ .bankRead running⟩
    case bankWriteAttemptEnds r => exact ⟨_, rfl, on _ ▸ .bankWrite r running⟩
    case moduleFirstClock l => exact ⟨_, rfl, on _ ▸ .firstClock l running⟩
    all_goals exact ⟨_, rfl, on _ ▸ .request _ _ _ _ rfl running⟩
  · have off (f : State → State) : whenRunning s f = s := whenRunning_held running f
    cases c
    case hardReset ending straps => exact ⟨_, rfl, .resetEnds ending straps⟩
    case hardResetBegins cause => exact ⟨_, rfl, .resetBegins cause⟩
    all_goals exact ⟨_, rfl, (off _).symm ▸ .held _ running⟩

/-- While a reset is held, a command other than the reset's own changes nothing (log 5). -/
theorem exec_held {c : Instr} {s : State} (held : s.line ≠ .running) (noEnd : ∀ ending straps, c ≠ .hardReset ending straps)
    (noBeginning : ∀ cause, c ≠ .hardResetBegins cause) : exec c s = .next s := by
  obtain ⟨t, answer, happening⟩ := exec_happening c s
  rw [answer]
  cases happening
  case held => rfl
  case resetEnds ending straps => exact absurd rfl (noEnd ending straps)
  case resetBegins cause => exact absurd rfl (noBeginning cause)
  all_goals contradiction

/-! ## What becomes of a frame -/

/-- A frame is ignored, refused with an unstored reply, answered with its stored reply again, or taken in the slot that
R179 and R180 choose. -/
theorem intake_cases (s : State) (tag kind : Byte) (body : List Byte) :
    intake s tag kind body = s ∨
      (∃ status, (status = .tagConflict ∨ status = .busy) ∧ intake s tag kind body = queueRefusal s tag kind status) ∨
      (∃ i, (∃ q r, s.slot i = .done q r) ∧ intake s tag kind body = requeue s i) ∨
      ∃ i, ((s.slotHolding tag = none ∧ s.chosenSlot = some i) ∨
          (s.slotHolding tag = some i ∧ ∃ q r, s.slot i = .done q r ∧ q.check ≠ bodyCheck kind body)) ∧
        intake s tag kind body = takeRequest s i ⟨tag, bodyCheck kind body, kind⟩ body := by
  cases holding : s.slotHolding tag with
  | none =>
    cases chosen : s.chosenSlot with
    | none => exact .inr (.inl ⟨.busy, .inr rfl, intake_busy holding chosen⟩)
    | some i => exact .inr (.inr (.inr ⟨i, .inl ⟨rfl, rfl⟩, by simp [intake, holding, chosen]⟩))
  | some i =>
    cases slot : s.slot i with
    | free => exact .inl (by simp [intake, holding, slot])
    | active q =>
      by_cases same : q.check = bodyCheck kind body
      · exact .inl (intake_ignored holding slot same)
      · exact .inr (.inl ⟨.tagConflict, .inl rfl, intake_conflict holding slot same⟩)
    | done q r =>
      by_cases same : q.check = bodyCheck kind body
      · exact .inr (.inr (.inl ⟨i, ⟨q, r, slot⟩, intake_repeated holding slot same⟩))
      · exact .inr (.inr (.inr ⟨i, .inr ⟨rfl, q, r, slot, same⟩, by simp [intake, holding, slot, same]⟩))

/-! ## The clock, the line and the queue of commands -/

/-- The clock, the reset line and the commands that wait are as they were. -/
structure Kept (s t : State) : Prop where
  time : t.time = s.time
  line : t.line = s.line
  pending : t.pending = s.pending

theorem LaneWork.kept {s t : State} (h : LaneWork s t) : Kept s t := ⟨h.time, h.line, h.pending⟩

namespace Kept

theorem rfl' (s : State) : Kept s s := ⟨rfl, rfl, rfl⟩

theorem trans {s t u : State} (h : Kept s t) (k : Kept t u) : Kept s u :=
  ⟨k.time.trans h.time, k.line.trans h.line, k.pending.trans h.pending⟩

/-- An operation on a state that differs elsewhere. -/
theorem after {s t u : State} (k : Kept t u) (time : t.time = s.time) (line : t.line = s.line)
    (pending : t.pending = s.pending) : Kept s u :=
  trans ⟨time, line, pending⟩ k

theorem complete (s : State) (i : SlotId) (r : Reply) : Kept s (complete s i r) := (LaneWork.complete s i r).kept

theorem settleLamps (s t : State) : Kept t (settleLamps s t) := ⟨rfl, rfl, rfl⟩

theorem settled {s t : State} (h : Kept s t) (before : State) : Kept s (Machine.settleLamps before t) :=
  ⟨h.time, h.line, h.pending⟩

theorem dirtied {s t : State} (h : Kept s t) : Kept s (recomputeDirty t) := ⟨h.time, h.line, h.pending⟩

theorem completed {s t : State} (h : Kept s t) (i : SlotId) (r : Reply) : Kept s (Machine.complete t i r) :=
  h.trans (complete t i r)

theorem reconsider (s : State) : Kept s (reconsider s) := (LaneWork.reconsider s).kept

theorem countDiscard (s : State) : Kept s (countDiscard s) := ⟨rfl, rfl, rfl⟩

theorem queueRefusal (s : State) (tag kind : Byte) (status : Status) : Kept s (queueRefusal s tag kind status) := by
  obtain ⟨_, _, e⟩ := queueRefusal_frame s tag kind status
  rw [e]
  exact ⟨rfl, rfl, rfl⟩

/-! ### The requests -/

theorem admitAck (s : State) (n window : Nat) : Kept s (admitAck s n window) := by
  unfold Machine.admitAck reconsiderAfter
  dsimp only
  split
  · exact after (reconsider _) rfl rfl rfl
  · exact ⟨rfl, rfl, rfl⟩

theorem closeSession (s : State) : Kept s (closeSession s) := after (reconsider _) rfl rfl rfl

theorem abortLearn (s : State) : Kept s (abortLearn s) := by
  unfold Machine.abortLearn
  split
  · exact after (complete _ _ _) rfl rfl rfl
  · exact rfl' s

theorem allUnknown (s : State) : Kept s (allUnknown s) :=
  ((LaneWork.mapControls s _).trans (.writeLamps _ _)).kept

theorem exitUp (s : State) : Kept s (exitUp s) := ((LaneWork.mapControls s _).trans (.writeLamps _ _)).kept

theorem replaceDefinitions (s : State) (image : ConfigImage) : Kept s (replaceDefinitions s image) :=
  after (LaneWork.writeLamps _ _).kept rfl rfl rfl

theorem editDefinitions (s : State) (image : ConfigImage) : Kept s (editDefinitions s image) :=
  trans ((replaceDefinitions s image).trans (settleLamps s _)) ⟨rfl, rfl, rfl⟩

theorem changeSetting (s : State) (l : LaneId) (new : LaneSetting) : Kept s (changeSetting s l new) := by
  have set : Kept s (setWorking s { s.config.working with lanes := s.config.working.lanes.set l new }) := ⟨rfl, rfl, rfl⟩
  exact (set.trans (LaneWork.applySetting _ l _).kept).settled s

theorem replaceWorking (s : State) (image : ConfigImage) : Kept s (replaceWorking s image) := by
  unfold Machine.replaceWorking
  exact (((replaceDefinitions s image).trans (LaneWork.applyAllSettings _ _).kept).settled s).dirtied

theorem setLampsOn (i : SlotId) (l : LaneId) (mask values : Half) (s : State) :
    Kept s (setLampsOn i l mask values s) := by
  unfold Machine.setLampsOn
  dsimp only
  split
  · exact after (complete _ _ _) rfl rfl rfl
  · exact ⟨rfl, rfl, rfl⟩

theorem takeCommit (s : State) (i : SlotId) : Kept s (takeCommit s i) := ⟨rfl, rfl, rfl⟩

theorem defineControlAs (i : SlotId) (c : ControlId) (d : ControlDef) (s : State) : Kept s (defineControlAs i c d s) := by
  unfold Machine.defineControlAs
  dsimp only
  repeat' split
  · exact complete s i _
  · exact complete s i _
  · exact complete s i _
  · exact (editDefinitions s _).trans (complete _ i _)

theorem restartRequest (i : SlotId) (body : List Byte) (s : State) : Kept s (restartRequest i body s) := by
  unfold Machine.restartRequest
  split
  · exact complete s i _
  · exact after (complete _ i _) rfl rfl rfl

theorem startEvents (i : SlotId) (body : List Byte) (s : State) : Kept s (startEvents i body s) := by
  unfold Machine.startEvents
  repeat' split
  any_goals exact complete s i _
  exact after (complete _ i _) rfl rfl rfl

theorem ackEvents (i : SlotId) (body : List Byte) (s : State) : Kept s (ackEvents i body s) := by
  unfold Machine.ackEvents
  dsimp only
  repeat' split
  any_goals exact complete s i _
  exact (admitAck s _ _).completed i _

theorem stopEvents (i : SlotId) (body : List Byte) (s : State) : Kept s (stopEvents i body s) := by
  unfold Machine.stopEvents
  dsimp only
  split
  · exact complete s i _
  · exact (closeSession s).completed i _

theorem readControls (i : SlotId) (body : List Byte) (s : State) : Kept s (readControls i body s) := by
  unfold Machine.readControls
  dsimp only
  repeat' split
  all_goals exact complete s i _

theorem readGroups (i : SlotId) (body : List Byte) (s : State) : Kept s (readGroups i body s) := by
  unfold Machine.readGroups
  dsimp only
  repeat' split
  all_goals exact complete s i _

theorem readLane (i : SlotId) (body : List Byte) (s : State) : Kept s (readLane i body s) := by
  unfold Machine.readLane
  repeat' split
  all_goals exact complete s i _

theorem laneCommand (i : SlotId) (body : List Byte) (s : State) : Kept s (laneCommand i body s) := by
  unfold Machine.laneCommand
  repeat' split
  any_goals exact complete s i _
  exact (LaneWork.modLane s _ _).kept

theorem setLamps (i : SlotId) (body : List Byte) (s : State) : Kept s (setLamps i body s) := by
  unfold Machine.setLamps
  repeat' split
  any_goals exact complete s i _
  exact setLampsOn i _ _ _ s

theorem releaseLamps (i : SlotId) (body : List Byte) (s : State) : Kept s (releaseLampsRequest i body s) := by
  unfold releaseLampsRequest
  dsimp only
  repeat' split
  any_goals exact complete s i _
  exact (LaneWork.modLane s _ _).kept.completed i _

theorem clearLaneFault (i : SlotId) (body : List Byte) (s : State) : Kept s (clearLaneFault i body s) := by
  unfold Machine.clearLaneFault
  dsimp only
  repeat' split
  any_goals exact complete s i _
  exact (LaneWork.modLane s _ _).kept.completed i _

theorem enterConfig (i : SlotId) (body : List Byte) (s : State) : Kept s (enterConfig i body s) := by
  unfold Machine.enterConfig
  split
  · exact complete s i _
  · have entered : Kept s (setMode s .config) := ⟨rfl, rfl, rfl⟩
    exact ((entered.trans (allUnknown _)).settled s).completed i _

theorem exitConfig (i : SlotId) (body : List Byte) (s : State) : Kept s (exitConfig i body s) := by
  unfold Machine.exitConfig
  split
  · exact complete s i _
  · have left : Kept s (setMode (Machine.abortLearn s) .run) := (abortLearn s).trans ⟨rfl, rfl, rfl⟩
    exact completed ((settled (left.trans (exitUp _)) _).trans (LaneWork.mapLanes _ _).kept) i _

theorem defineControl (i : SlotId) (body : List Byte) (s : State) : Kept s (defineControl i body s) := by
  unfold Machine.defineControl
  split
  · exact defineControlAs i _ _ s
  · exact complete s i _

theorem deleteControl (i : SlotId) (body : List Byte) (s : State) : Kept s (deleteControl i body s) := by
  unfold Machine.deleteControl
  dsimp only
  repeat' split
  any_goals exact complete s i _
  exact (editDefinitions s _).completed i _

theorem readControlDef (i : SlotId) (body : List Byte) (s : State) : Kept s (readControlDef i body s) := by
  unfold Machine.readControlDef
  repeat' split
  all_goals exact complete s i _

theorem setGroup (i : SlotId) (body : List Byte) (s : State) : Kept s (setGroup i body s) := by
  unfold Machine.setGroup
  dsimp only
  repeat' split
  any_goals exact complete s i _
  exact after (complete _ i _) rfl rfl rfl

theorem setLaneRequest (i : SlotId) (body : List Byte) (s : State) : Kept s (setLaneRequest i body s) := by
  unfold Machine.setLaneRequest
  dsimp only
  repeat' split
  any_goals exact complete s i _
  exact (changeSetting s _ _).completed i _

theorem setDelivery (i : SlotId) (body : List Byte) (s : State) : Kept s (setDelivery i body s) := by
  unfold Machine.setDelivery
  dsimp only
  repeat' split
  any_goals exact complete s i _
  exact after (complete _ i _) rfl rfl rfl

theorem learnRequest (i : SlotId) (body : List Byte) (s : State) : Kept s (learnRequest i body s) := by
  unfold Machine.learnRequest
  repeat' split
  any_goals exact complete s i _
  exact ⟨rfl, rfl, rfl⟩

theorem commitRequest (i : SlotId) (body : List Byte) (s : State) : Kept s (commitRequest i body s) := by
  unfold Machine.commitRequest
  repeat' split
  any_goals exact complete s i _
  exact takeCommit s i

theorem revertRequest (i : SlotId) (body : List Byte) (s : State) : Kept s (revertRequest i body s) := by
  unfold Machine.revertRequest
  exact (replaceWorking s _).completed i _

theorem loadDefaults (i : SlotId) (body : List Byte) (s : State) : Kept s (loadDefaults i body s) := by
  unfold Machine.loadDefaults
  exact (replaceWorking s _).completed i _

/-- No request touches the clock, the line or the commands that wait. -/
theorem carryOut (k : RequestKind) (i : SlotId) (body : List Byte) (s : State) : Kept s (carryOut k i body s) := by
  cases k
  case identifyPart => exact complete s i _
  case getStatus => exact complete s i _
  case restart => exact restartRequest i body s
  case startEvents => exact startEvents i body s
  case ackEvents => exact ackEvents i body s
  case stopEvents => exact stopEvents i body s
  case readControls => exact readControls i body s
  case readGroups => exact readGroups i body s
  case readLane => exact readLane i body s
  case laneCommand => exact laneCommand i body s
  case setLamps => exact setLamps i body s
  case releaseLamps => exact releaseLamps i body s
  case clearLaneFault => exact clearLaneFault i body s
  case enterConfig => exact enterConfig i body s
  case exitConfig => exact exitConfig i body s
  case defineControl => exact defineControl i body s
  case deleteControl => exact deleteControl i body s
  case readControlDef => exact readControlDef i body s
  case setGroup => exact setGroup i body s
  case setLane => exact setLaneRequest i body s
  case setDelivery => exact setDelivery i body s
  case learn => exact learnRequest i body s
  case commit => exact commitRequest i body s
  case revert => exact revertRequest i body s
  case loadDefaults => exact loadDefaults i body s
  case readStore => exact complete s i _

theorem validate (s : State) (i : SlotId) (kind : Byte) (body : List Byte) : Kept s (validate s i kind body) := by
  unfold Machine.validate
  split
  · unfold validateKind
    split
    · exact complete s i _
    · split
      · exact complete s i _
      · exact carryOut _ i body s
  · exact complete s i _

theorem takeRequest (s : State) (i : SlotId) (q : RequestId) (body : List Byte) : Kept s (takeRequest s i q body) :=
  after (validate (placeRequest s i q) i q.kind body) rfl rfl rfl

theorem receiveFrame (tag kind : Byte) (body : List Byte) (s : State) : Kept s (receiveFrame tag kind body s) := by
  unfold Machine.receiveFrame
  split
  · exact countDiscard s
  · rcases intake_cases s tag kind body with e | ⟨status, -, e⟩ | ⟨i, -, e⟩ | ⟨i, -, e⟩ <;> rw [e]
    · exact rfl' s
    · exact queueRefusal s tag kind status
    · exact ⟨rfl, rfl, rfl⟩
    · exact takeRequest s i _ body

/-! ### The host link, the Translator, the store -/

theorem discardFrame (s : State) : Kept s (discardFrame s) := ⟨rfl, rfl, rfl⟩

theorem byteReceived (s : State) (b : Byte) (stop : Bool) : Kept s (byteReceived s b stop) := by
  unfold Machine.byteReceived
  split
  · split
    · exact ⟨rfl, rfl, rfl⟩
    · exact rfl' s
  · exact rfl' s
  · unfold assembleByte
    dsimp only
    split
    · split
      · exact ⟨rfl, rfl, rfl⟩
      · exact discardFrame s
    · exact ⟨rfl, rfl, rfl⟩
    · exact ⟨rfl, rfl, rfl⟩
    · exact ⟨rfl, rfl, rfl⟩
    · exact ⟨rfl, rfl, rfl⟩
    · unfold frameEnds
      split
      · exact after (receiveFrame _ _ _ _) rfl rfl rfl
      · exact discardFrame s
  · exact discardFrame s

theorem gapExpires (s : State) (startBit : Bool) : Kept s (gapExpires s startBit) := by
  unfold Machine.gapExpires
  repeat' split
  · exact discardFrame s
  · exact rfl' s
  · exact rfl' s

theorem replyStarts (s : State) : Kept s (replyStarts s) := by
  unfold Machine.replyStarts
  repeat' split
  · exact ⟨rfl, rfl, rfl⟩
  · exact rfl' s
  · exact rfl' s

theorem reportStarts (s : State) : Kept s (reportStarts s) := by
  unfold Machine.reportStarts
  repeat' split
  · exact ⟨rfl, rfl, rfl⟩
  · exact rfl' s
  · exact rfl' s

theorem reportEnds (s : State) : Kept s (reportEnds s) := by
  unfold Machine.reportEnds
  split
  · exact ⟨rfl, rfl, rfl⟩
  · exact rfl' s

theorem timerExpires (s : State) : Kept s (timerExpires s) := by
  unfold Machine.timerExpires
  repeat' split
  · exact ⟨rfl, rfl, rfl⟩
  · exact ⟨rfl, rfl, rfl⟩
  · exact rfl' s
  · exact rfl' s

theorem placeRecord (s : State) (e : Option Event) : Kept s (placeRecord s e) := by
  obtain ⟨_, e⟩ := placeRecord_frame s e
  rw [e]
  exact ⟨rfl, rfl, rfl⟩

theorem takeAction (s : State) (c : ControlId) (d : ControlDef) (release : Bool) : Kept s (takeAction s c d release) := by
  unfold Machine.takeAction
  obtain ⟨table, e⟩ := actionState_frame s c d release
  rw [e]
  exact ⟨rfl, rfl, rfl⟩

theorem routeCode (s : State) (l : LaneId) (extended release : Bool) (code : Byte) :
    Kept s (routeCode s l extended release code) := by
  unfold Machine.routeCode
  split
  · split
    · exact takeAction s _ _ _
    · exact rfl' s
  · unfold learnCode
    repeat' split
    · exact after (complete _ _ _) rfl rfl rfl
    · exact rfl' s
    · exact rfl' s
  · exact rfl' s

theorem takeByte (s : State) (l : LaneId) (b : Byte) : Kept s (takeByte s l b) := by
  have placed (t : State) (kept : Kept s t) (p : PrefixState) (e : Option Event) :
      Kept s ((Machine.placeRecord (t.setPrefix l p) e).modLane l Lane.slotTaken) :=
    ((kept.trans (LaneWork.setPrefix t l p).kept).trans (placeRecord _ e)).trans (LaneWork.modLane _ l _).kept
  unfold Machine.takeByte
  dsimp only
  split
  · exact placed _ (routeCode s l _ _ b) _ _
  · exact placed s (rfl' s) _ _

theorem serveLane (s : State) (l : LaneId) : Kept s (serveLane s l) := by
  unfold Machine.serveLane
  dsimp only
  repeat' split
  · have served : Kept s (statusTurn s l) := by
      unfold statusTurn
      exact (placeRecord s _).trans (LaneWork.modLane _ l _).kept
    exact served.trans ⟨rfl, rfl, rfl⟩
  · exact (takeByte s l _).trans ⟨rfl, rfl, rfl⟩
  · exact ⟨rfl, rfl, rfl⟩

theorem takeTurn (s : State) : Kept s (takeTurn s) := by
  unfold Machine.takeTurn
  split
  · exact rfl' s
  · split
    · exact ⟨rfl, rfl, rfl⟩
    · exact serveLane s _
  · exact rfl' s

theorem learnExpires (s : State) : Kept s (learnExpires s) := by
  unfold Machine.learnExpires
  repeat' split
  · exact after (complete _ _ _) rfl rfl rfl
  · exact rfl' s
  · exact rfl' s

theorem loadImage (s : State) (image : ConfigImage) : Kept s (loadImage s image) :=
  after (LaneWork.applyAllSettings _ _).kept rfl rfl rfl

theorem bankReadEnds (s : State) : Kept s (bankReadEnds s) := by
  unfold Machine.bankReadEnds
  dsimp only
  repeat' split
  · exact after (loadImage _ _) rfl rfl rfl
  · exact ⟨rfl, rfl, rfl⟩
  · exact rfl' s

theorem nextBank (s : State) (n : BankName) (c : CommitContext) : Kept s (nextBank s n c) := by
  unfold Machine.nextBank
  dsimp only
  split
  · exact ⟨rfl, rfl, rfl⟩
  · exact ⟨rfl, rfl, rfl⟩
  · exact after (complete _ _ _) rfl rfl rfl

theorem writeAttemptEnds (s : State) (r : ReadBack) : Kept s (writeAttemptEnds s r) := by
  unfold Machine.writeAttemptEnds
  dsimp only
  split
  · exact rfl' s
  · split
    · exact ⟨rfl, rfl, rfl⟩
    · exact ⟨rfl, rfl, rfl⟩
    · unfold commitAttemptEnds
      split
      · exact after (nextBank _ _ _) rfl rfl rfl
      · exact ⟨rfl, rfl, rfl⟩
      · exact after (nextBank _ _ _) rfl rfl rfl
    · exact ⟨rfl, rfl, rfl⟩

end Kept

/-- The end of a reply frame: a restart after an OK RESTART reply, otherwise an idle transmitter (R175). -/
theorem replyEnds_cases (s : State) (straps : BitVec 2) :
    (∃ f, s.link.tx = .reply f ∧ f.kind = 0x83 ∧ f.body = [0] ∧ replyEnds s straps = restartPart s straps) ∨
      Kept s (replyEnds s straps) := by
  unfold replyEnds
  split
  · next f tx =>
    split
    · next restart =>
      simp only [isRestartReply, Bool.and_eq_true, beq_iff_eq] at restart
      obtain ⟨kind, body⟩ := restart
      exact .inl ⟨f, tx, kind, body, rfl⟩
    · exact .inr ⟨rfl, rfl, rfl⟩
  · exact .inr (.rfl' s)

/-- A command leaves the clock, the line and the commands that wait, unless it is the tick or ends or begins a reset. -/
theorem Happening.kept {s t : State} {c : Instr} (h : Happening s c t) :
    Kept s t ∨ (c = .timeBaseTick ∧ t = Machine.tick s) ∨ (∃ ending straps, c = .hardReset ending straps ∧ t = hardResetEnds s ending straps) ∨
      (∃ cause, c = .hardResetBegins cause ∧ t = hardResetStarts s cause) ∨
      ∃ straps f, c = .replyFrameEnd straps ∧ s.link.tx = .reply f ∧ f.kind = 0x83 ∧ f.body = [0] ∧
        t = restartPart s straps := by
  cases h
  case held => exact .inl (.rfl' s)
  case resetEnds ending straps => exact .inr (.inr (.inl ⟨ending, straps, rfl, rfl⟩))
  case resetBegins cause => exact .inr (.inr (.inr (.inl ⟨cause, rfl, rfl⟩)))
  case tick => exact .inr (.inl ⟨rfl, rfl⟩)
  case replyEnds straps _ =>
    rcases replyEnds_cases s straps with ⟨f, tx, kind, body, e⟩ | kept
    · exact .inr (.inr (.inr (.inr ⟨straps, f, rfl, tx, kind, body, e⟩)))
    · exact .inl kept
  case hostByte b stop _ => exact .inl (.byteReceived s b stop)
  case gap startBit _ => exact .inl (.gapExpires s startBit)
  case request tag kind body _ _ => exact .inl (.receiveFrame tag kind body s)
  case replyStarts => exact .inl (.replyStarts s)
  case reportStarts => exact .inl (.reportStarts s)
  case reportEnds => exact .inl (.reportEnds s)
  case timer => exact .inl (.timerExpires s)
  case turn => exact .inl ((Kept.takeTurn s).trans (.settleLamps s _))
  case learnTimeout => exact .inl (.learnExpires s)
  case frameStart l _ => exact .inl (LaneWork.frameStarts s l).kept
  case goodFrame l b _ => exact .inl ((LaneWork.goodFrameEnds s l b).settleLamps s).kept
  case badFrame l _ => exact .inl ((LaneWork.badFrameEnds s l).settleLamps s).kept
  case breach l _ => exact .inl ((LaneWork.frameBreached s l).settleLamps s).kept
  case exchangeStart l _ => exact .inl (LaneWork.exchangeStarts s l).kept
  case noClock l _ => exact .inl ((LaneWork.clockExpires s l).settleLamps s).kept
  case byteComplete l _ => exact .inl (LaneWork.byteCompletes s l).kept
  case txTimeout l _ => exact .inl ((LaneWork.byteExpires s l).settleLamps s).kept
  case noReply l _ => exact .inl ((LaneWork.replyExpires s l).settleLamps s).kept
  case probeDue l _ => exact .inl (LaneWork.probeFallsDue s l).kept
  case helloDeadline l _ => exact .inl (LaneWork.helloExpires s l).kept
  case bankRead => exact .inl (.bankReadEnds s)
  case bankWrite r _ => exact .inl (.writeAttemptEnds s r)
  case firstClock l _ => exact .inl (LaneWork.firstClock s l).kept

/-! ## Steps and time -/

/-- Settles O1: the two cases of `step`. -/
theorem stepRunsTheFrontCommand : Obligations.StepRunsTheFrontCommand := by
  unfold Obligations.StepRunsTheFrontCommand
  intro s
  refine ⟨fun empty => ?_, fun c rest front => ?_⟩
  · unfold step
    rw [empty]
  · unfold step
    rw [front]

theorem Happening.pending {s t : State} {c : Instr} (h : Happening s c t) : t.pending = s.pending := by
  rcases h.kept with kept | ⟨-, rfl⟩ | ⟨_, _, -, rfl⟩ | ⟨_, -, rfl⟩ | ⟨_, _, -, -, -, -, rfl⟩
  · exact kept.pending
  all_goals rfl

/-- Settles O2: every command's happening keeps the commands that wait. -/
theorem everyCommandCompletes : Obligations.EveryCommandCompletes := by
  unfold Obligations.EveryCommandCompletes
  intro c s
  obtain ⟨t, answer, happening⟩ := exec_happening c s
  exact ⟨t, answer, happening.pending⟩

/-- The state that a command answers is its happening's. -/
theorem Happening.of_exec {s t : State} {c : Instr} (answer : exec c s = .next t) : Happening s c t := by
  obtain ⟨u, answer', happening⟩ := exec_happening c s
  rw [answer] at answer'
  cases answer'
  exact happening

theorem startWait_reached_iff {since : Word} {ms d : Nat} (ms_lt : ms < 2 ^ 32) (d_lt : d < 2 ^ 32) :
    (startWait since ms).reached (since + BitVec.ofNat 32 d) = true ↔ ms ≤ d := by
  have elapsed : since + BitVec.ofNat 32 d - since = BitVec.ofNat 32 d := by
    rw [BitVec.add_comm, BitVec.add_sub_cancel]
  simp only [startWait, Wait.reached, elapsed, BitVec.le_def, BitVec.toNat_ofNat, Nat.mod_eq_of_lt ms_lt,
    Nat.mod_eq_of_lt d_lt, decide_eq_true_eq]

/-- Settles O3: only the tick and the ends of a reset touch the clock, and a difference of readings wraps with it. -/
theorem uptimeIsTheOneMeasureOfTime : Obligations.UptimeIsTheOneMeasureOfTime := by
  unfold Obligations.UptimeIsTheOneMeasureOfTime
  refine ⟨⟨fun s running => ?_, fun c s t other answer => ?_⟩, fun since ms d ms_lt d_lt => startWait_reached_iff ms_lt d_lt⟩
  · show Host.Outcome.next (whenRunning s tick) = _
    rw [whenRunning_running running]
    rfl
  · rcases (Happening.of_exec answer).kept with kept | ⟨ticks, -⟩ | ⟨ending, straps, rfl, rfl⟩ | ⟨_, -, rfl⟩ |
      ⟨straps, f, rfl, tx, kind, body, rfl⟩
    · exact .inl kept.time
    · exact absurd ticks other
    · exact .inr ⟨rfl, .inl ⟨ending, straps, rfl⟩⟩
    · exact .inl rfl
    · exact .inr ⟨rfl, .inr ⟨straps, f, rfl, tx, kind, body⟩⟩

end Sys2Proof.Machine
end

section
/-! Timers that wait for their length (R23), and the resets: what begins, what holds, what is left (R24, R37, R98, R163,
R166, R176). -/

namespace Sys2Proof.Machine

set_option Elab.async false

/-! ## Timer rows before their limit -/

/-- A meaning that changes nothing changes nothing while a reset is held either. -/
theorem whenRunning_same {s : State} {f : State → State} (same : f s = s) : whenRunning s f = s := by
  unfold whenRunning
  split
  · exact same
  · rfl

/-- A happening that changes nothing settles nothing. -/
@[simp] theorem settleLamps_self (s : State) : settleLamps s s = s := settleLamps_same s s fun _ => ⟨rfl, rfl⟩

section

variable {s : State} {l : LaneId}

theorem timerExpires_early (early : ∀ w, s.delivery.timer = some w → w.reached s.time.uptime = false) :
    timerExpires s = s := by
  unfold timerExpires
  split
  · next w timer => rw [if_neg (by simp [early w timer])]
  · rfl

theorem learnExpires_early (early : ∀ w, s.translator.learn = some w → w.expiry.reached s.time.uptime = false) :
    learnExpires s = s := by
  unfold learnExpires
  split
  · next w learn => rw [if_neg (by simp [early w learn])]
  · rfl

theorem gapExpires_early {startBit : Bool}
    (early : startBit = true ∨ ∀ a, s.link.rx = some a → (startWait a.gapSince 5).reached s.time.uptime = false) :
    gapExpires s startBit = s := by
  unfold gapExpires
  split
  · next a rx =>
    rcases early with taken | early
    · cases taken
    · exact if_neg (by simp [gapLimitMs, early a rx])
  · rfl

theorem Lane.exchangeIn_eq_some {x : Lane} {a : Activity} {ex : Exchange} (h : x.exchangeIn a = some ex) :
    x.activity = a ∧ x.exchange = some ex := by
  unfold Lane.exchangeIn at h
  split at h
  · next act => exact ⟨act, h⟩
  · cases h

theorem clockExpires_early (early : (s.lane l).activity = .sending → ∀ ex, (s.lane l).exchange = some ex →
    ex.clocked = true ∨ ex.limit.reached s.time.uptime = false) : clockExpires s l = s := by
  unfold clockExpires
  split
  · next ex found =>
    obtain ⟨sending, exchange⟩ := Lane.exchangeIn_eq_some found
    exact if_neg (by rcases early sending ex exchange with h | h <;> simp [h])
  · rfl

theorem byteExpires_early (early : (s.lane l).activity = .sending → ∀ ex, (s.lane l).exchange = some ex →
    ex.clocked = false ∨ ex.limit.reached s.time.uptime = false) : byteExpires s l = s := by
  unfold byteExpires
  split
  · next ex found =>
    obtain ⟨sending, exchange⟩ := Lane.exchangeIn_eq_some found
    exact if_neg (by rcases early sending ex exchange with h | h <;> simp [h])
  · rfl

theorem replyExpires_early (early : (s.lane l).activity = .awaiting → ∀ ex, (s.lane l).exchange = some ex →
    ex.limit.reached s.time.uptime = false) : replyExpires s l = s := by
  unfold replyExpires
  split
  · next ex found =>
    obtain ⟨awaiting, exchange⟩ := Lane.exchangeIn_eq_some found
    exact if_neg (by simp [early awaiting ex exchange])
  · rfl

theorem probeFallsDue_early (early : (s.lane l).phase = .absent →
    ∀ w, (s.lane l).probeDue = some w → w.reached s.time.uptime = false) : probeFallsDue s l = s := by
  unfold probeFallsDue
  refine if_neg fun ⟨absent, passed⟩ => ?_
  unfold waitOver at passed
  split at passed
  · next w due => simp [early absent w due] at passed
  · cases passed

theorem helloExpires_early (early : (s.lane l).startStep = some .waitHello →
    ∀ w, (s.lane l).helloDeadline = some w → w.reached s.time.uptime = false) : helloExpires s l = s := by
  unfold helloExpires
  refine if_neg fun ⟨_, step, passed⟩ => ?_
  unfold waitOver at passed
  split at passed
  · next w deadline => simp [early step w deadline] at passed
  · cases passed

theorem frameBreached_early (early : ∀ w, (s.lane l).frame = some w → (startWait w 2).reached s.time.uptime = false) :
    frameBreached s l = s := by
  have running : (s.lane l).frameOverdue s.time.uptime = false := by
    unfold Lane.frameOverdue
    split
    · next w frame => exact early w frame
    · rfl
  simp [frameBreached, running]

theorem exec_noClock_early (early : clockExpires s l = s) : exec (.noClock l) s = .next s :=
  congrArg _ (whenRunning_same (by simp [early]))

theorem exec_txTimeout_early (early : byteExpires s l = s) : exec (.txTimeout l) s = .next s :=
  congrArg _ (whenRunning_same (by simp [early]))

theorem exec_noReply_early (early : replyExpires s l = s) : exec (.noReply l) s = .next s :=
  congrArg _ (whenRunning_same (by simp [early]))

end

/-- Settles O4: each timer row asks whether its limit runs and is reached before it does anything. -/
theorem timersWaitForTheirLength : Obligations.TimersWaitForTheirLength := by
  unfold Obligations.TimersWaitForTheirLength
  intro s l
  have timer (early) : exec .retransmissionTimerExpires s = .next s :=
    congrArg _ (whenRunning_same (timerExpires_early early))
  have learn (early) : exec .learnTimeout s = .next s := congrArg _ (whenRunning_same (learnExpires_early early))
  have gap (startBit) (early) : exec (.gapLimit startBit) s = .next s :=
    congrArg _ (whenRunning_same (gapExpires_early (startBit := startBit) early))
  have probe (early) : exec (.probeDue l) s = .next s :=
    congrArg _ (whenRunning_same (f := fun s => probeFallsDue s l) (probeFallsDue_early early))
  have hello (early) : exec (.helloDeadline l) s = .next s :=
    congrArg _ (whenRunning_same (f := fun s => helloExpires s l) (helloExpires_early early))
  have breach (early : ∀ w, (s.lane l).frame = some w → (startWait w 2).reached s.time.uptime = false) :
      exec (.frameLimitBreach l) s = .next s :=
    congrArg _ (whenRunning_same (by simp [frameBreached_early early]))
  refine ⟨fun w running early => timer ?_, fun none => timer ?_, fun w waiting early => learn ?_, fun none => learn ?_,
    fun a rx early startBit => gap startBit (.inr ?_), fun none startBit => gap startBit (.inr ?_), gap true (.inl rfl),
    fun ex exchange early => ?_, fun none => ?_, fun ex exchange => ⟨fun clocked => ?_, fun unclocked => ?_⟩,
    fun other => ?_, fun other => ?_, fun w due early => probe fun _ => ?_, fun off => probe fun absent => ?_,
    fun w deadline early => hello fun _ => ?_, fun off => hello fun step => ?_, fun w frame early => breach ?_,
    fun none => breach ?_⟩
  case refine_1 => simpa [running] using early
  case refine_2 => simp [none]
  case refine_3 => simpa [waiting] using early
  case refine_4 => simp [none]
  case refine_5 => simpa [rx] using early
  case refine_6 => simp [none]
  case refine_7 =>
    exact ⟨exec_noClock_early (clockExpires_early (by simp [exchange, early])),
      exec_txTimeout_early (byteExpires_early (by simp [exchange, early])),
      exec_noReply_early (replyExpires_early (by simp [exchange, early]))⟩
  case refine_8 =>
    exact ⟨exec_noClock_early (clockExpires_early (by simp [none])), exec_txTimeout_early (byteExpires_early (by simp [none])),
      exec_noReply_early (replyExpires_early (by simp [none]))⟩
  case refine_9 => exact exec_noClock_early (clockExpires_early (by simp [exchange, clocked]))
  case refine_10 => exact exec_txTimeout_early (byteExpires_early (by simp [exchange, unclocked]))
  case refine_11 =>
    exact ⟨exec_noClock_early (clockExpires_early fun sending => absurd sending other),
      exec_txTimeout_early (byteExpires_early fun sending => absurd sending other)⟩
  case refine_12 => exact exec_noReply_early (replyExpires_early fun awaiting => absurd awaiting other)
  case refine_13 => simpa [due] using early
  case refine_14 =>
    rcases off with none | other
    · simp [none]
    · exact absurd absent other
  case refine_15 => simpa [deadline] using early
  case refine_16 =>
    rcases off with none | other
    · simp [none]
    · exact absurd step other
  case refine_17 => simpa [frame] using early
  case refine_18 => simp [none]

/-! ## Banks -/

@[simp] theorem PerBank.get_set_self {α : Type} (p : PerBank α) (n : BankName) (x : α) : (p.set n x).get n = x := by
  cases n <;> rfl

theorem PerBank.get_set_ne {α : Type} (p : PerBank α) {n m : BankName} (h : m ≠ n) (x : α) :
    (p.set n x).get m = p.get m := by
  cases n <;> cases m <;> simp_all [PerBank.set, PerBank.get]

/-- A bank without a write in progress is as it was when a reset cuts the store (R163). -/
theorem cutWrite_bank_kept {st : Store} {n : BankName} (other : ∀ w, st.write = some w → n ≠ w.bank) :
    (cutWrite st).banks.get n = st.banks.get n := by
  unfold cutWrite
  split
  · next w write => exact PerBank.get_set_ne _ (other w write) _
  · rfl

/-- The bank whose write is cut does not read VALID (R163, log 10). -/
theorem cutWrite_bank_cut {st : Store} {w : BankWrite} (write : st.write = some w) :
    ((cutWrite st).banks.get w.bank).readsValid = false := by
  simp [cutWrite, write, StoredBank.readsValid]

theorem cutWrite_frame (st : Store) : cutWrite st = { st with banks := (cutWrite st).banks, write := none } := by
  unfold cutWrite
  split
  · rfl
  · next none => rw [← none]

/-! ## Resets -/

@[simp] theorem resetBlocks_lane (s : State) (cause : ResetCause) (straps : BitVec 2) (l : LaneId) :
    (resetBlocks s cause straps).lane l = Lane.reset := by
  simp [resetBlocks, State.lane, State.reset]

@[simp] theorem resetBlocks_slot (s : State) (cause : ResetCause) (straps : BitVec 2) (i : SlotId) :
    (resetBlocks s cause straps).slot i = .free := by
  simp [resetBlocks, State.slot, State.reset]

theorem isRestartReply_iff {f : HostFrame} : isRestartReply f = true ↔ f.kind = 0x83 ∧ f.body = [0] := by
  simp only [isRestartReply, Bool.and_eq_true, beq_iff_eq]
  exact Iff.rfl

/-- The end of an OK RESTART reply's frame restarts the part (R175). -/
theorem exec_replyFrameEnd_restart {s : State} (running : s.line = .running)
    (reply : ∃ f, s.link.tx = .reply f ∧ f.kind = 0x83 ∧ f.body = [0]) (straps : BitVec 2) :
    exec (.replyFrameEnd straps) s = .next (restartPart s straps) := by
  obtain ⟨f, tx, restart⟩ := reply
  show Host.Outcome.next (whenRunning s fun s => replyEnds s straps) = _
  rw [whenRunning_running running]
  simp [replyEnds, tx, isRestartReply_iff.2 restart]

/-- Settles O5: both ends of a reset leave `resetBlocks` of the cut state. -/
theorem resetsLeaveTheResetValues : Obligations.ResetsLeaveTheResetValues := by
  unfold Obligations.ResetsLeaveTheResetValues
  refine ⟨fun s t straps ends => ?_, fun s straps => ⟨⟨_, rfl, rfl⟩, fun unpowered => ⟨_, rfl, ?_⟩, fun powered => ⟨_, rfl, ?_⟩,
    fun running reply => ⟨_, exec_replyFrameEnd_restart running reply straps, rfl⟩⟩⟩
  · have left : ∃ cause, t = resetBlocks (cutActivity s) cause straps := by
      rcases ends with ⟨ending, answer⟩ | ⟨running, reply, answer⟩
      · exact ⟨_, (Host.Outcome.next.inj answer).symm⟩
      · rw [exec_replyFrameEnd_restart running reply] at answer
        exact ⟨_, (Host.Outcome.next.inj answer).symm⟩
    obtain ⟨cause, rfl⟩ := left
    refine ⟨rfl, rfl, rfl, fun l => resetBlocks_lane _ _ _ l, fun l => ?_, rfl, rfl, rfl, rfl, fun g => ?_, rfl, rfl, rfl, rfl,
      rfl, rfl, rfl, fun i => resetBlocks_slot _ _ _ i, rfl, rfl, fun n => ?_, rfl, rfl, rfl, rfl, rfl, rfl, rfl,
      fun n other => cutWrite_bank_kept other, fun w write => cutWrite_bank_cut write⟩
    · simp [State.prefixOf, resetBlocks, State.reset]
    · simp [State.selection, resetBlocks, State.reset]
    · cases n <;> rfl
  · show (⟨0, hardResetCause s.line .nresetReleased⟩ : TimeBase) = _
    rw [unpowered]
    rfl
  · show (⟨0, hardResetCause s.line .nresetReleased⟩ : TimeBase) = _
    cases line : s.line <;> simp_all [hardResetCause]

/-- Settles O6: the beginning of a hard reset is `cutActivity`; a held reset leaves every other command without effect. -/
theorem hardResetBeginsAndHolds : Obligations.HardResetBeginsAndHolds := by
  unfold Obligations.HardResetBeginsAndHolds
  refine ⟨fun s cause => ⟨_, rfl, ?_, rfl, rfl, rfl, rfl, rfl, rfl, rfl, rfl, rfl, fun l => ?_, cutWrite_frame s.store,
    fun n other => cutWrite_bank_kept other, fun w write => cutWrite_bank_cut write⟩,
    fun c s held noEnd noBeginning => exec_held held noEnd noBeginning⟩
  · show lineAfter s.line cause = _
    cases cause <;> cases line : s.line <;> rfl
  · show (State.mapLanes _ fun _ x => x.cut).lane l = _
    rw [State.lane_mapLanes]
    rfl

end Sys2Proof.Machine
end

section
/-! The host link (10): bytes fed one by one to the receiver (R168, R169), discards (R170, R171), and reply frames with
their bits (R167, R172, R173). -/

namespace Sys2Proof.Machine

set_option Elab.async false

/-! ## Bytes one after the other -/

/-- The bytes of a sequence, fed one by one with good stop bits. -/
def feed (bytes : List Byte) (s : State) : Host.Outcome State Fault Refusal :=
  runAll (bytes.map fun b => .hostByteReceived b true) s

theorem exec_hostByte {s : State} (running : s.line = .running) (b : Byte) (stop : Bool) :
    exec (.hostByteReceived b stop) s = .next (byteReceived s b stop) := by
  show Host.Outcome.next (whenRunning s fun s => byteReceived s b stop) = _
  rw [whenRunning_running running]

theorem feed_nil (s : State) : feed [] s = .next s := rfl

theorem feed_cons {s : State} (running : s.line = .running) (b : Byte) (rest : List Byte) :
    feed (b :: rest) s = feed rest (byteReceived s b true) := by
  unfold feed
  rw [List.map_cons, runAll, exec_hostByte running]

theorem setRx_self {s : State} {rx : Option Assembly} (same : s.link.rx = rx) : setRx s rx = s := by
  subst same
  rfl

/-- A byte that reaches a frame in assembly. -/
theorem byteReceived_assembling (s : State) (a : Assembly) (b : Byte) :
    byteReceived (setRx s (some a)) b true = assembleByte (setRx s (some a)) a b := rfl

/-- The frame in assembly once LEN, TAG, KIND and the first bytes of the body have come (R169). -/
def bodyAssembly (now : Word) (len tag kind : Byte) (received : List Byte) : Assembly :=
  ⟨afterBody len received.length, len, tag, kind, received, crc16 (len :: tag :: kind :: received), 0, now⟩

theorem crc16_append (bytes : List Byte) (b : Byte) : crc16 (bytes ++ [b]) = crc16Byte (crc16 bytes) b := by
  simp [crc16]

section

variable {s : State} (running : s.line = .running)

include running

theorem feed_assembling (rx : Option Assembly) (b : Byte) (rest : List Byte) :
    feed (b :: rest) (setRx s rx) = feed rest (byteReceived (setRx s rx) b true) :=
  feed_cons (s := setRx s rx) running b rest

/-- SOF, LEN, TAG and KIND of a frame bring the receiver from HUNT to its body (R169). -/
theorem feed_header (hunt : s.link.rx = none) {len : Byte} (least : 2 ≤ len.toNat) (most : len.toNat ≤ 200)
    (tag kind : Byte) (rest : List Byte) :
    feed (0xA5 :: len :: tag :: kind :: rest) s =
      feed rest (setRx s (some (bodyAssembly s.time.uptime len tag kind []))) := by
  have sof : byteReceived s 0xA5 true = setRx s (some (beginFrame s.time.uptime)) := by
    simp [byteReceived, hunt, sofByte]
  have length (a : Assembly) (awaits : a.awaited = .len) : byteReceived (setRx s (some a)) len true =
      setRx s (some { a.taking s.time.uptime len .tag with len := len }) := by
    rw [byteReceived_assembling, assembleByte, awaits]
    exact if_pos ⟨least, most⟩
  rw [feed_cons running, sof, feed_assembling running, length _ rfl, feed_assembling running, byteReceived_assembling]
  exact feed_assembling running _ _ _

/-- The bytes of a body are taken one by one (R169). -/
theorem feed_body {len tag kind : Byte} {body : List Byte} (fits : len.toNat = body.length + 2) (tail : List Byte)
    (todo : List Byte) : ∀ received, body = received ++ todo →
    feed (todo ++ tail) (setRx s (some (bodyAssembly s.time.uptime len tag kind received))) =
      feed tail (setRx s (some (bodyAssembly s.time.uptime len tag kind body))) := by
  induction todo with
  | nil => intro received split; simp [split]
  | cons b todo ih =>
    intro received split
    have awaits : (bodyAssembly s.time.uptime len tag kind received).awaited = .body := by
      refine if_pos ?_
      rw [fits, split]
      simp
    have taken : byteReceived (setRx s (some (bodyAssembly s.time.uptime len tag kind received))) b true =
        setRx s (some (bodyAssembly s.time.uptime len tag kind (received ++ [b]))) := by
      rw [byteReceived_assembling, assembleByte, awaits]
      simp [bodyAssembly, Assembly.taking, ← crc16_append, setRx]
    rw [List.cons_append, feed_assembling running, taken]
    exact ih (received ++ [b]) (by simp [split])

/-- CHK1 and CHK2 end the frame: handed over when they spell the check, otherwise discarded (R169, R170). -/
theorem feed_check {len tag kind : Byte} {body : List Byte} (fits : len.toNat = body.length + 2) (high low : Byte) :
    feed [high, low] (setRx s (some (bodyAssembly s.time.uptime len tag kind body))) =
      .next (if half high low = crc16 (len :: tag :: kind :: body) then receiveFrame tag kind body (setRx s none)
        else discardFrame s) := by
  have awaits : (bodyAssembly s.time.uptime len tag kind body).awaited = .chk1 := if_neg (by omega)
  have first : byteReceived (setRx s (some (bodyAssembly s.time.uptime len tag kind body))) high true =
      setRx s (some { bodyAssembly s.time.uptime len tag kind body with awaited := .chk2, chkHigh := high }) := by
    rw [byteReceived_assembling, assembleByte, awaits]
    rfl
  rw [feed_assembling running, first, feed_assembling running, byteReceived_assembling, feed_nil]
  rfl

/-- A whole frame with any two check bytes, fed to a receiver in HUNT. -/
theorem feed_frame (hunt : s.link.rx = none) {body : List Byte} (short : body.length ≤ 198) (tag kind high low : Byte) :
    feed (0xA5 :: byteOf (body.length + 2) :: tag :: kind :: (body ++ [high, low])) s =
      .next (if half high low = HostFrame.check ⟨tag, kind, body⟩ then receiveFrame tag kind body s
        else discardFrame s) := by
  have fits : (byteOf (body.length + 2)).toNat = body.length + 2 := byteOf_toNat (by omega)
  rw [feed_header running hunt (by omega) (by omega), feed_body running fits [high, low] body [] rfl,
    feed_check running fits, setRx_self hunt]
  rfl

end

/-- Settles O7: the check bytes of a frame's own wire form spell its check, so the frame is handed over as its row is. -/
theorem wireFrameIsHandedOver : Obligations.WireFrameIsHandedOver := by
  unfold Obligations.WireFrameIsHandedOver
  intro c tag kind body s row short running hunt
  have fed := feed_frame running hunt short tag kind ((HostFrame.check ⟨tag, kind, body⟩).extractLsb' 8 8)
    ((HostFrame.check ⟨tag, kind, body⟩).extractLsb' 0 8)
  rw [if_pos (half_be16 _)] at fed
  rw [exec_request row, whenRunning_running running]
  exact fed

/-! ## Discards (R170, R171) -/

theorem be16_half (high low : Byte) : be16 (half high low) = [high, low] := by
  have bounds := low.isLt
  have left : (half high low).extractLsb' 8 8 = high := by
    apply BitVec.eq_of_toNat_eq
    rw [BitVec.extractLsb'_toNat, Nat.shiftRight_eq_div_pow, half_toNat]
    omega
  have right : (half high low).extractLsb' 0 8 = low := by
    apply BitVec.eq_of_toNat_eq
    rw [BitVec.extractLsb'_toNat, Nat.shiftRight_eq_div_pow, half_toNat]
    omega
  rw [be16, left, right]

theorem discardFrame_eq (s : State) : discardFrame s = { s with
    link := { s.link with
      rx := none
      discarded := if s.link.discarded = 0xFFFF then 0xFFFF else s.link.discarded + 1 } } := by
  rw [← saturate16_eq]
  rfl

theorem discardFrame_hunting {s : State} (hunt : s.link.rx = none) : discardFrame s = countDiscard s := by
  rw [discardFrame, setRx_self hunt]

/-- Settles O8: every discard is `discardFrame`, and HUNT takes nothing but a good SOF. -/
theorem receiverDiscardsAndIgnores : Obligations.ReceiverDiscardsAndIgnores := by
  unfold Obligations.ReceiverDiscardsAndIgnores
  refine ⟨fun tag kind high low body s short running hunt wrong => ?_, fun s discard running is => ?_⟩
  · have differs : half high low ≠ HostFrame.check ⟨tag, kind, body⟩ := fun same =>
      wrong (by rw [← same, be16_half])
    have fed := feed_frame running hunt short tag kind high low
    rw [if_neg differs, discardFrame_eq] at fed
    rw [← hunt] at fed
    exact fed
  · rw [← discardFrame_eq] at is
    subst is
    have byte (b : Byte) (stop : Bool) := exec_hostByte running b stop
    refine ⟨fun hunt => ⟨fun b stop other => ?_, ?_⟩, fun a assembling => ⟨fun b => ?_, fun awaits b outside => ?_,
      fun gap => ?_, ?_⟩, fun hunt c kind body row => ?_⟩
    · rw [byte]
      rcases other with other | rfl
      · have notSof : b ≠ 0xA5#8 := other
        cases stop <;> simp [byteReceived, hunt, sofByte, notSof]
      · simp [byteReceived, hunt]
    · rw [byte]
      simp [byteReceived, hunt, sofByte, setRx, beginFrame, crc16Start]
    · rw [byte]
      simp [byteReceived, assembling]
    · rw [byte]
      have range : ¬(2 ≤ b.toNat ∧ b.toNat ≤ 200) := by omega
      simp [byteReceived, assembling, assembleByte, awaits, range]
    · show Host.Outcome.next (whenRunning s fun s => gapExpires s false) = _
      rw [whenRunning_running running]
      have reached : (startWait a.gapSince gapLimitMs).reached s.time.uptime = true := decide_eq_true gap
      simp [gapExpires, assembling, reached]
    · exact congrArg _ (whenRunning_same (gapExpires_early (.inl rfl)))
    · rw [exec_request row, whenRunning_running running, discardFrame_hunting hunt]
      rfl

/-! ## Reply frames (R172, R173) -/

theorem exec_replyFrameStart {s : State} (running : s.line = .running) :
    exec .replyFrameStart s = .next (replyStarts s) := congrArg _ (whenRunning_running running _)

theorem replyStarts_sends {s : State} {e : ReplyEntry} {rest : List ReplyEntry} {f : HostFrame} (idle : s.link.tx = .idle)
    (oldest : s.link.replies = e :: rest) (frame : entryFrame s e = some f) :
    replyStarts s = { s with link := { s.link with tx := .reply f, replies := rest } } := by
  simp [replyStarts, idle, oldest, frame]

theorem replyStarts_waits {s : State} (busy : s.link.tx ≠ .idle ∨ s.link.replies = []) : replyStarts s = s := by
  unfold replyStarts
  split
  · next idle oldest =>
    rcases busy with busy | empty
    · exact absurd idle busy
    · rw [empty] at oldest
      cases oldest
  · rfl

/-- A byte is spelled by its eight bits from the least significant (R167). -/
theorem ofBoolListLE_getLsbD (b : Byte) : BitVec.ofBoolListLE [b.getLsbD 0, b.getLsbD 1, b.getLsbD 2, b.getLsbD 3,
    b.getLsbD 4, b.getLsbD 5, b.getLsbD 6, b.getLsbD 7] = b := by
  apply BitVec.eq_of_getLsbD_eq
  intro i hi
  rw [BitVec.getLsbD_ofBoolListLE]
  simp only [List.length_cons, List.length_nil] at hi
  interval_cases i <;> rfl

/-- Settles O9: the frame of the oldest entry, the end of a frame, and the bits of a byte. -/
theorem replyFramesGoOutInOrder : Obligations.ReplyFramesGoOutInOrder := by
  unfold Obligations.ReplyFramesGoOutInOrder
  refine ⟨fun s rest running => ⟨fun idle => ⟨fun i q r oldest done => ?_, fun tag kind status oldest => ?_⟩, fun busy => ?_⟩,
    fun s straps f running tx ordinary => ?_, fun s f bits spelled => ?_, rfl⟩
  · rw [exec_replyFrameStart running]
    exact congrArg _ (replyStarts_sends idle oldest (by rw [entryFrame, done]; rfl))
  · rw [exec_replyFrameStart running]
    exact congrArg _ (replyStarts_sends idle oldest rfl)
  · rw [exec_replyFrameStart running, replyStarts_waits busy]
  · have ends : isRestartReply f = false := by
      rw [Bool.eq_false_iff, Ne, isRestartReply_iff]
      exact fun ⟨kind, body⟩ => ordinary.elim (· kind) (· body)
    show Host.Outcome.next (whenRunning s fun s => replyEnds s straps) = _
    rw [whenRunning_running running]
    simp [replyEnds, tx, ends]
  · have same : bits = hostByteBits := funext fun b => funext fun stop => spelled b stop
    subst same
    refine ⟨fun idle => ?_, fun sending => ?_, fun b stop => ?_, fun b stop => rfl, rfl⟩
    · simp [htxdLine, idle]
    · rcases sending with tx | tx <;> simp only [htxdLine, tx] <;> rfl
    · exact congrArg (fun x : Byte => some (x, stop)) (ofBoolListLE_getLsbD b)

end Sys2Proof.Machine
end

section
/-! The Request Table (11): what placing and completing a request change (R172, R179, R180, R183), and the first checks of
a taken request by the catalogue (R182, R188). -/

namespace Sys2Proof.Machine

set_option Elab.async false

/-! ## Placing and completing (R180, R183) -/

theorem RequestSlot.isRestartOk_iff {x : RequestSlot} :
    x.isRestartOk = true ↔ ∃ q, x = .done q (bare .ok) ∧ q.kind = 0x03 := by
  cases x with
  | free => simp [RequestSlot.isRestartOk]
  | active q => simp [RequestSlot.isRestartOk]
  | done q r => simp [RequestSlot.isRestartOk, RequestKind.code, and_comm]

theorem State.restartOnLine_iff {s : State} :
    s.restartOnLine = true ↔ ∃ f, s.link.tx = .reply f ∧ f.kind = 0x83 ∧ f.body = [0] := by
  unfold State.restartOnLine
  split
  · next f tx =>
    rw [isRestartReply_iff]
    refine ⟨fun restart => ⟨f, tx, restart⟩, fun ⟨g, sent, restart⟩ => ?_⟩
    rw [tx] at sent
    cases sent
    exact restart
  · next other => simpa using fun f tx => absurd tx (other f)

/-- The entry of the OK reply of the RESTART that set restart pending leaves the list unsent (R164, log 13). -/
def losesRestart (s : State) (i : SlotId) : Bool :=
  decide (ReplyEntry.slot i ∈ s.link.replies) && (s.slot i).isRestartOk && !s.restartOnLine

theorem restartPending_placed (s : State) (tag kind : Byte) (body : List Byte) (i : SlotId) :
    (placed s tag kind body i).store.restartPending = (s.store.restartPending && !losesRestart s i) := rfl

theorem losesRestart_iff {s : State} {i : SlotId} : losesRestart s i = true ↔
    ReplyEntry.slot i ∈ s.link.replies ∧ (∃ q, s.slot i = .done q (bare .ok) ∧ q.kind = 0x03) ∧
      ¬∃ f, s.link.tx = .reply f ∧ f.kind = 0x83 ∧ f.body = [0] := by
  rw [← RequestSlot.isRestartOk_iff, ← State.restartOnLine_iff, losesRestart]
  simp [and_assoc]

theorem queueSlotEntry_of_mem {list : List ReplyEntry} {i : SlotId} (listed : ReplyEntry.slot i ∈ list) :
    queueSlotEntry list i = list := if_pos listed

theorem queueSlotEntry_of_not_mem {list : List ReplyEntry} {i : SlotId} (unlisted : ReplyEntry.slot i ∉ list) :
    queueSlotEntry list i = list ++ [.slot i] := if_neg unlisted

/-- Settles O11: the placed state by its parts, and the two cases of `complete`. -/
theorem requestsArePlacedAndCompleted : Obligations.RequestsArePlacedAndCompleted := by
  unfold Obligations.RequestsArePlacedAndCompleted
  refine ⟨fun s tag kind body i taken => ⟨placed_slot_self s tag kind body i, fun j other => placeRequest_slot_ne s other _,
    rfl, rfl, rfl, rfl, fun kept => ?_, fun ⟨q, done, restart⟩ listed offLine => ?_⟩, fun s i r => ⟨fun q active => ?_,
    fun idle => complete_dropped idle r⟩⟩
  · have keeps : losesRestart s i = false := by
      rw [Bool.eq_false_iff, Ne, losesRestart_iff]
      rintro ⟨listed, ⟨q, done, restart⟩, offLine⟩
      rcases kept with free | ⟨p, r, done', other⟩ | unlisted | onLine
      · rw [done] at free
        cases free
      · rw [done] at done'
        cases done'
        exact other.elim (· restart) (· rfl)
      · exact unlisted listed
      · exact offLine onLine
    simp [restartPending_placed, keeps]
  · have loses : losesRestart s i = true :=
      losesRestart_iff.2 ⟨listed, ⟨q, done, restart⟩, fun ⟨f, tx, kind, body⟩ => (offLine f tx).elim (· kind) (· body)⟩
    simp [restartPending_placed, loses]
  · exact ⟨_, _, complete_active active r, rfl, complete_slot_self active r, fun j other => complete_slot_ne s other r,
      queueSlotEntry_of_mem, queueSlotEntry_of_not_mem⟩

/-! ## The catalogue (11.6, 12.2) -/

/-- The catalogue's row of a kind: code, body length, and whether STARTUP, RUN and CONFIG serve it. -/
def RequestKind.row (k : RequestKind) : Byte × Nat × Bool × Bool × Bool :=
  (k.code, k.bodyLength, (modeRefusal k.modeClass .startup).isNone, (modeRefusal k.modeClass .run).isNone,
    (modeRefusal k.modeClass .config).isNone)

/-- What the mode check answers where it refuses: NOT_READY in STARTUP, otherwise WRONG_MODE (R182). -/
theorem modeRefusal_refuses {c : ModeClass} {m : Mode} (refuses : (modeRefusal c m).isNone = false) :
    modeRefusal c m = some (if m = .startup then .notReady else .wrongMode) := by
  cases c <;> cases m <;> simp_all [modeRefusal]

theorem requestKindOf_eq_none {kind : Byte} (unlisted : ∀ k : RequestKind, k.code ≠ kind) : requestKindOf kind = none := by
  simp [requestKindOf, unlisted]

theorem mem_allRequestKinds (k : RequestKind) : k ∈ allRequestKinds := by
  cases k <;> decide

theorem exec_taken_unknown {c : Instr} {s : State} {tag kind : Byte} {body : List Byte} {i : SlotId}
    (row : requestOf c = some (tag, kind, body)) (taken : TakenIn s tag kind body i)
    (unlisted : ∀ k : RequestKind, k.code ≠ kind) :
    exec c s = .next (complete (placed s tag kind body i) i (bare .unknownKind)) := by
  rw [exec_taken row taken, validate, requestKindOf_eq_none unlisted]

theorem exec_taken_length {c : Instr} {s : State} {tag : Byte} {body : List Byte} {i : SlotId} (k : RequestKind)
    (row : requestOf c = some (tag, k.code, body)) (taken : TakenIn s tag k.code body i)
    (length : body.length ≠ k.bodyLength) :
    exec c s = .next (complete (placed s tag k.code body i) i (bare .badLength)) := by
  rw [exec_taken_kind k row taken, validateKind_length length]

/-- Settles O12: the catalogue is the list of the kinds' rows, and each check answers as its row says. -/
theorem requestsAreValidatedInOrder : Obligations.RequestsAreValidatedInOrder := by
  unfold Obligations.RequestsAreValidatedInOrder
  intro s c tag kind body i catalogue rows row taken
  have listed : catalogue = allRequestKinds.map RequestKind.row := rows
  subst listed
  refine ⟨fun unlisted => ?_, fun len startup run config mem => ?_⟩
  · refine exec_taken_unknown row taken fun k same => unlisted ?_
    rw [List.map_map, List.mem_map]
    exact ⟨k, mem_allRequestKinds k, same⟩
  · obtain ⟨k, -, is⟩ := List.mem_map.1 mem
    simp only [RequestKind.row, Prod.mk.injEq] at is
    obtain ⟨rfl, rfl, rfl, rfl, rfl⟩ := is
    have refused (m : Mode) (length : body.length = k.bodyLength) (mode : s.config.mode = m)
        (refuses : (modeRefusal k.modeClass m).isNone = false) :
        exec c s = .next (complete (placed s tag k.code body i) i
          (bare (if m = .startup then .notReady else .wrongMode))) :=
      exec_taken_refused k row taken length (by rw [mode, modeRefusal_refuses refuses])
    exact ⟨fun length => exec_taken_length k row taken length, refused .startup, refused .run, refused .config⟩

end Sys2Proof.Machine
end

section
/-! Event delivery (03): ACK-EVENTS (R43 to R45), and reports with the bytes of their records (R48 to R52, 12.4). -/

namespace Sys2Proof.Machine

set_option Elab.async false

/-! ## A turn considered anew (R66) -/

theorem heldLane_of_room {s : State} (room : s.queue.records.length < 128) : heldLane s = none := by
  by_contra held
  exact absurd (heldLane_waits held).2 (by omega)

theorem reconsider_of_room {s : State} (room : s.queue.records.length < 128) :
    reconsider s = { s with translator := { s.translator with waiting := none } } := by
  unfold reconsider
  split
  · next none => rw [← none]
  · rw [heldLane_of_room room]

/-! ## ACK-EVENTS (R43 to R45) -/

section

variable {s : State} (laws : DeliveryLaws s) {n window : Nat} (on : s.delivery.state ≠ .off)

include laws on

/-- What an admissible ACK-EVENTS changes (R44, R45): a record removed always finds space for a turn that waits. -/
theorem admitAck_eq : admitAck s n window =
    { s with
      queue := { s.queue with records := s.queue.records.drop n }
      delivery :=
        { state := .on
          window := window
          inFlight := min (s.delivery.inFlight - n) window
          timer := if 0 < min (s.delivery.inFlight - n) window then some s.freshTimer else none
          retransmits := if 0 < n ∨ s.delivery.state = .stalled then 0 else s.delivery.retransmits }
      translator := { s.translator with waiting := if 0 < n then none else s.translator.waiting } } := by
  have state : (if s.delivery.state = .stalled then DeliveryState.on else s.delivery.state) = .on := by
    cases h : s.delivery.state <;> simp_all
  unfold admitAck reconsiderAfter
  simp only [Bool.or_eq_true, decide_eq_true_eq, state]
  split
  · next removed =>
    refine reconsider_of_room ?_
    have capacity := laws.capacity
    show (s.queue.records.drop n).length < 128
    rw [List.length_drop]
    omega
  · rfl

end

section

variable {s : State} (i : SlotId) {sh sl w : Byte}

theorem ackEvents_badField (wide : 64 < w.toNat) : ackEvents i [sh, sl, w] s = complete s i (bare .badField) := by
  simp [ackEvents, wide]

theorem ackEvents_wrongState (window : w.toNat ≤ 64) (off : s.delivery.state = .off) :
    ackEvents i [sh, sl, w] s = complete s i (bare .wrongState) := by
  simp [ackEvents, window, off]

theorem ackEvents_outside (window : w.toNat ≤ 64) (on : s.delivery.state ≠ .off)
    (outside : s.delivery.inFlight < s.ackDistance (half sh sl)) :
    ackEvents i [sh, sl, w] s = complete s i
      ⟨.ackRange, be16 s.ackBase ++ be16 (s.ackBase + BitVec.ofNat 16 s.delivery.inFlight)⟩ := by
  simp [ackEvents, on, Nat.not_lt.2 window, Nat.not_le.2 outside]

theorem ackEvents_acknowledges (window : w.toNat ≤ 64) (on : s.delivery.state ≠ .off)
    (inside : s.ackDistance (half sh sl) ≤ s.delivery.inFlight) {t : State}
    (is : admitAck s (s.ackDistance (half sh sl)) w.toNat = t) :
    ackEvents i [sh, sl, w] s = complete t i
      ⟨.ok, [byteOf (s.ackDistance (half sh sl)), byteOf t.delivery.inFlight, byteOf t.unsentCount]⟩ := by
  subst is
  simp [ackEvents, on, Nat.not_lt.2 window, inside]

end

/-- Laws of the delivery hold of the placed state, which differs elsewhere. -/
theorem DeliveryLaws.placed {s : State} (laws : DeliveryLaws s) (tag kind : Byte) (body : List Byte) (i : SlotId) :
    DeliveryLaws (placed s tag kind body i) :=
  ⟨laws.capacity, laws.inFlightHeld, laws.inFlightWindow, laws.windowRange, laws.consecutive, laws.whileOff, laws.whileOn,
    laws.whileStalled, laws.onlyInRun, laws.waits⟩

/-- Settles O15: the refusals of R43 in order, and `admitAck_eq` for what is acknowledged. -/
theorem ackEventsRemovesAndSetsTheWindow : Obligations.AckEventsRemovesAndSetsTheWindow := by
  unfold Obligations.AckEventsRemovesAndSetsTheWindow
  intro s tag sh sl w i base d left taken laws is_base is_d is_left p
  have carried (ready : s.config.mode ≠ .startup) :
      exec (.ackEvents tag [sh, sl, w]) s = .next (ackEvents i [sh, sl, w] p) :=
    exec_taken_carried .ackEvents rfl taken rfl (modeRefusal_ready ready)
  have base_eq : p.ackBase = base := is_base.symm
  have distance : p.ackDistance (half sh sl) = d := by rw [State.ackDistance, base_eq, is_d]
  refine ⟨fun startup => ?_, fun ready => ⟨fun wide => ?_, fun window off => ?_, fun window on outside => ?_,
    fun window on inside => ?_⟩⟩
  · exact exec_taken_refused .ackEvents rfl taken rfl (by rw [startup]; rfl)
  · rw [carried ready, ackEvents_badField i wide]
  · rw [carried ready, ackEvents_wrongState (s := p) i window off]
  · rw [carried ready, ackEvents_outside (s := p) i window on (by rw [distance]; exact outside), base_eq]
    rfl
  · rw [carried ready, ackEvents_acknowledges (s := p) i window on (by rw [distance]; exact inside)
      (admitAck_eq (laws.placed tag 0x11 [sh, sl, w] i) on), distance, is_left]
    simp only [State.unsentCount, List.length_drop]
    rfl

/-! ## Reports (R48 to R52) -/

theorem exec_reportFrameStart {s : State} (running : s.line = .running) :
    exec .reportFrameStart s = .next (reportStarts s) := congrArg _ (whenRunning_running running _)

theorem State.offersReport_iff {s : State} : s.offersReport = true ↔
    s.delivery.state = .on ∧ s.delivery.inFlight < s.queue.records.length ∧ s.delivery.inFlight < s.delivery.window := by
  simp [State.offersReport, State.unsentCount]

/-- A report carries as many records as its size says (R49). -/
theorem State.length_reportRecords (s : State) : s.reportRecords.length = s.reportSize := by
  simp only [State.reportRecords, List.length_take, List.length_drop, State.reportSize, State.unsentCount]
  omega

theorem reportStarts_sends {s : State} (idle : s.link.tx = .idle) (empty : s.link.replies = [])
    (offers : s.offersReport = true) : reportStarts s =
      { s with
        link := { s.link with tx := .report (reportFrame s.reportRecords) }
        delivery := { s.delivery with inFlight := s.delivery.inFlight + s.reportSize } } := by
  simp [reportStarts, idle, empty, offers]

theorem reportStarts_waits {s : State} (busy : s.link.tx ≠ .idle ∨ s.link.replies ≠ [] ∨ s.offersReport = false) :
    reportStarts s = s := by
  unfold reportStarts
  split
  · next idle empty => rw [if_neg (by rcases busy with h | h | h <;> simp_all)]
  · rfl

theorem reportEnds_eq {s : State} {f : HostFrame} (tx : s.link.tx = .report f) : reportEnds s =
    { s with
      link := { s.link with tx := .idle }
      delivery := { s.delivery with
        timer := if s.delivery.timer = none ∧ s.delivery.state = .on ∧ 0 < s.delivery.inFlight then some s.freshTimer
          else s.delivery.timer } } := by
  simp [reportEnds, tx]

/-! ## The bytes of records (12.4) -/

/-- A number of two bytes, high byte first. -/
theorem be16_ofNat {n : Nat} (small : n < 65536) :
    be16 (BitVec.ofNat 16 n) = [BitVec.ofNat 8 (n / 256), BitVec.ofNat 8 (n % 256)] := by
  have high : (BitVec.ofNat 16 n).extractLsb' 8 8 = BitVec.ofNat 8 (n / 256) := by
    apply BitVec.eq_of_toNat_eq
    rw [BitVec.extractLsb'_toNat, Nat.shiftRight_eq_div_pow]
    simp [Nat.mod_eq_of_lt small]
  have low : (BitVec.ofNat 16 n).extractLsb' 0 8 = BitVec.ofNat 8 (n % 256) := by
    apply BitVec.eq_of_toNat_eq
    rw [BitVec.extractLsb'_toNat]
    simp [Nat.mod_eq_of_lt small]
  rw [be16, high, low]

theorem be16_controlHalf (c : ControlId) :
    be16 (controlHalf c) = [BitVec.ofNat 8 (c.val / 256), BitVec.ofNat 8 (c.val % 256)] := be16_ofNat (by omega)

theorem flagCode_pair (extended release : Bool) : flagCode extended ||| (flagCode release <<< 1) =
    BitVec.ofNat 8 ((if extended then 1 else 0) + if release then 2 else 0) := by
  cases extended <;> cases release <;> rfl

theorem PrefixState.code_eq (p : PrefixState) :
    p.code = match p with | .none => 0 | .ext => 1 | .rel => 2 | .extRel => 3 := by
  cases p <;> rfl

/-- Settles O17: when a report starts, its end, and the bytes of each kind of record. -/
theorem reportsCarryTheOldestUnsentRecords : Obligations.ReportsCarryTheOldestUnsentRecords := by
  unfold Obligations.ReportsCarryTheOldestUnsentRecords
  refine ⟨fun s n running size => ⟨fun idle empty on unsent window => ?_, fun busy => ?_⟩, fun s f running tx => ?_,
    fun c d g l b n extended release latched prior phase known fault => ?_⟩
  · have is : s.reportSize = n := size.symm
    rw [exec_reportFrameStart running, reportStarts_sends idle empty (State.offersReport_iff.2 ⟨on, unsent, window⟩),
      reportFrame, State.length_reportRecords, State.reportRecords, is]
    rfl
  · rw [exec_reportFrameStart running, reportStarts_waits]
    rw [← Bool.not_eq_true, State.offersReport_iff]
    simpa only [not_and_or, not_lt] using busy
  · show Host.Outcome.next (whenRunning s reportEnds) = _
    rw [whenRunning_running running, reportEnds_eq tx]
    rfl
  · intro number group lane
    have id (k : ControlId) : be16 (controlHalf k) = number k := be16_controlHalf k
    have absent : be16 (controlOrAbsent none) = [0xFF, 0xFF] := rfl
    have present : be16 (controlOrAbsent (some d)) = number d := id d
    refine ⟨?_, ?_, ?_, ?_, ?_, ?_, ?_, ?_, rfl⟩
    · rw [Event.bytes, id]
    · rw [Event.bytes, id]
    · rw [Event.bytes, id]
      rfl
    · rw [Event.bytes, id, present]
      rfl
    · rw [Event.bytes, id, absent]
      rfl
    · rw [Event.bytes, id]
      rfl
    · rw [Event.bytes, flagCode_pair]
      rfl
    · rw [Event.bytes, PrefixState.code_eq]
      rfl

end Sys2Proof.Machine
end

section
/-! Reads of controls, groups and lanes (R19 to R21, R119, R120), lane commands (R117) and SET-LAMPS (R130). -/

namespace Sys2Proof.Machine

set_option Elab.async false

/-! ## READ-CONTROLS and READ-GROUPS (R19 to R21) -/

/-- The numbers from `first` upward are the listed ones. -/
theorem idRange_eq {n first count : Nat} {ids : List (Fin n)} (listed : ids.map (·.val) = List.range' first count) :
    idRange n first count = ids := by
  have spelled : (List.range count).map (first + ·) = ids.map (·.val) := by
    rw [listed, ← List.range'_eq_map_range]
  have found (xs : List (Fin n)) : (xs.map (·.val)).filterMap (finOf n) = xs := by
    induction xs with
    | nil => rfl
    | cons x xs ih =>
      have head : finOf n x.val = some x := finOf_of_val rfl
      simp [head, ih]
  rw [idRange, ← found ids, ← spelled, List.filterMap_map]
  rfl

theorem asOfBytes_eq (s : State) :
    asOfBytes s = if s.delivery.state = .off then [0, 0, 0] else 1 :: be16 s.queue.next := by
  by_cases off : s.delivery.state = .off <;> simp [asOfBytes, State.delivering, off]

theorem controlFlags_eq (kind : ControlKind) (x : ControlState) (selected : Bool) : controlFlags kind x selected =
    BitVec.ofNat 8
      (1 + (if selected then 2 else 0) + (if x.lastChange = none then 0 else 4) +
       8 * (match kind with | .momentary => 0 | .toggle => 1 | .member _ => 2) +
       32 * (match x.physical with | .up => 0 | .down => 1 | .unknown => 2) + (if x.latched then 128 else 0)) := by
  have present : (if x.lastChange = none then 0 else 4) = if x.lastChange.isSome then 4 else 0 := by
    cases x.lastChange <;> rfl
  rw [present, controlFlags]
  generalize x.lastChange.isSome = present
  cases kind <;> cases selected <;> cases present <;> cases x.physical <;> cases x.latched <;>
    simp only [kindCode] <;> rfl

theorem controlEntry_eq (s : State) (c : ControlId) : controlEntry s c =
    match s.definition c with
    | none => [0, 0, 0, 0, 0]
    | some d =>
      BitVec.ofNat 8
          (1 + (if s.isSelected c d then 2 else 0) + (if (s.control c).lastChange = none then 0 else 4) +
           8 * (match d.kind with | .momentary => 0 | .toggle => 1 | .member _ => 2) +
           32 * (match (s.control c).physical with | .up => 0 | .down => 1 | .unknown => 2) +
           (if (s.control c).latched then 128 else 0)) ::
        be32 ((s.control c).lastChange.getD 0) := by
  unfold controlEntry
  cases s.definition c with
  | none => rfl
  | some d =>
    dsimp only
    rw [controlFlags_eq]

theorem groupEntry_eq (s : State) (g : GroupId) : groupEntry s g =
    [(match s.groupMode g with | .forced => 0 | .optional => 1),
     byteOf (s.config.working.controls.countP fun e => decide (e.2.kind = .member g))] ++
    (match s.selection g with | some c => be16 (BitVec.ofNat 16 c.val) | none => [0xFF, 0xFF]) := by
  have mode : groupModeCode (s.groupMode g) = match s.groupMode g with | .forced => 0 | .optional => 1 := by
    cases s.groupMode g <;> rfl
  have selected : be16 (controlOrAbsent (s.selection g)) =
      match s.selection g with | some c => be16 (BitVec.ofNat 16 c.val) | none => [0xFF, 0xFF] := by
    cases s.selection g <;> rfl
  rw [groupEntry, mode, selected]
  rfl

section

variable {s : State} (i : SlotId)

theorem readControls_badField {fh fl n : Byte} (bad : 511 < fh.toNat * 256 + fl.toNat ∨ n = 0 ∨ 32 < n.toNat ∨
    512 < fh.toNat * 256 + fl.toNat + n.toNat) : readControls i [fh, fl, n] s = complete s i (bare .badField) := by
  refine if_pos ?_
  rw [half_toNat]
  bv_omega

theorem readControls_reads {fh fl n : Byte} {ids : List ControlId} (least : n ≠ 0) (most : n.toNat ≤ 32)
    (fits : fh.toNat * 256 + fl.toNat + n.toNat ≤ 512)
    (listed : ids.map (·.val) = List.range' (fh.toNat * 256 + fl.toNat) n.toNat) :
    readControls i [fh, fl, n] s = complete s i ⟨.ok, asOfBytes s ++ n :: ids.flatMap (controlEntry s)⟩ := by
  have good : ¬(511 < (half fh fl).toNat ∨ n.toNat < 1 ∨ 32 < n.toNat ∨ 512 < (half fh fl).toNat + n.toNat) := by
    rw [half_toNat]
    bv_omega
  rw [← half_toNat] at listed
  unfold readControls
  dsimp only
  rw [if_neg good, idRange_eq listed]

theorem readGroups_badField {f n : Byte} (bad : 31 < f.toNat ∨ n = 0 ∨ 32 < n.toNat ∨ 32 < f.toNat + n.toNat) :
    readGroups i [f, n] s = complete s i (bare .badField) := by
  refine if_pos ?_
  bv_omega

theorem readGroups_reads {f n : Byte} {ids : List GroupId} (least : n ≠ 0) (fits : f.toNat + n.toNat ≤ 32)
    (first : f.toNat ≤ 31) (listed : ids.map (·.val) = List.range' f.toNat n.toNat) :
    readGroups i [f, n] s = complete s i ⟨.ok, asOfBytes s ++ n :: ids.flatMap (groupEntry s)⟩ := by
  have good : ¬(31 < f.toNat ∨ n.toNat < 1 ∨ 32 < n.toNat ∨ 32 < f.toNat + n.toNat) := by bv_omega
  unfold readGroups
  dsimp only
  rw [if_neg good, idRange_eq listed]

end

/-- Settles O19: the entries of the numbers asked for, each in the layout of 12.3. -/
theorem controlsAndGroupsAreRead : Obligations.ControlsAndGroupsAreRead := by
  unfold Obligations.ControlsAndGroupsAreRead
  refine ⟨?_, ?_⟩
  · intro s tag fh fl n i first ids taken ready is p
    subst is
    have carried : exec (.readControls tag [fh, fl, n]) s = .next (readControls i [fh, fl, n] p) :=
      exec_taken_carried .readControls rfl taken rfl (modeRefusal_ready ready)
    rw [carried]
    refine ⟨fun bad => ?_, fun least most fits listed => ?_⟩
    · rw [readControls_badField i bad]
    · rw [readControls_reads i least most fits listed, asOfBytes_eq, funext (controlEntry_eq p)]
      simp only [List.append_assoc, List.singleton_append]
      rfl
  · intro s tag f n i ids taken ready p
    have carried : exec (.readGroups tag [f, n]) s = .next (readGroups i [f, n] p) :=
      exec_taken_carried .readGroups rfl taken rfl (modeRefusal_ready ready)
    rw [carried]
    refine ⟨fun bad => ?_, fun least fits first listed => ?_⟩
    · rw [readGroups_badField i bad]
    · rw [readGroups_reads i least fits first listed, asOfBytes_eq, funext (groupEntry_eq p)]
      simp only [List.append_assoc, List.singleton_append]
      rfl

/-! ## READ-LANE and CLEAR-LANE-FAULT (R119, R120) -/

theorem laneOf_of_val {b : Byte} {l : LaneId} (h : b.toNat = l.val) : laneOf b = some l := finOf_of_val h

theorem laneOf_eq_none {b : Byte} (high : 7 < b.toNat) : laneOf b = none := finOf_eq_none high

theorem entryByteOrAbsent_eq (e : Option Entry) :
    entryByteOrAbsent e = match e with | some e => entryByte e | none => (0xFF : Byte) := by
  cases e <;> rfl

theorem Lane.resending_eq (x : Lane) :
    flagCode x.resending = if x.exchange.any (fun ex => decide (ex.command = .resend)) then 1 else 0 := by
  unfold Lane.resending
  cases x.exchange <;> rfl

theorem laneBytes_eq (x : Lane) (setting : LaneSetting) :
    laneBytes x setting =
      [x.phase.code, startStepCode x.startStep, x.activity.code,
       (if x.slot.isSome then 1 else 0), x.slot.getD 0,
       (match x.known with | some m => m.moduleType | none => 0),
       (match x.known with | some m => m.lampCount | none => 0xFF),
       setting.expectedType, (if setting.enabled then 1 else 0),
       byteOf x.list.length, entryByteOrAbsent x.list[0]?, entryByteOrAbsent x.list[1]?, entryByteOrAbsent x.list[2]?,
       entryByteOrAbsent x.list[3]?, entryByteOrAbsent x.inProgress,
       (if x.exchange.any (fun ex => decide (ex.command = .resend)) then 1 else 0),
       byteOf x.failures, faultCode x.firstFault, faultCode x.lastFault, x.faultCount, x.faultsSince,
       (if x.statusWanted then 1 else 0)] ++
      be16 x.desired ++ be16 x.acked ++ be32 x.desiredVersion ++ be32 x.ackedVersion ++ be16 x.owners := by
  have type : (x.known.map (·.moduleType)).getD 0 = match x.known with | some m => m.moduleType | none => 0 := by
    cases x.known <;> rfl
  have lamps : (x.known.map (·.lampCount)).getD 0xFF = match x.known with | some m => m.lampCount | none => 0xFF := by
    cases x.known <;> rfl
  rw [laneBytes, Lane.resending_eq, type, lamps]
  rfl

section

variable {s : State} (i : SlotId) {b : Byte}

theorem readLane_badField (high : 7 < b.toNat) : readLane i [b] s = complete s i (bare .badField) := by
  simp [readLane, laneOf_eq_none high]

theorem readLane_reads {l : LaneId} (lane : b.toNat = l.val) :
    readLane i [b] s = complete s i ⟨.ok, laneBytes (s.lane l) s.config.working.lanes[l]⟩ := by
  simp [readLane, laneOf_of_val lane]

theorem clearLaneFault_badField (high : 7 < b.toNat) : clearLaneFault i [b] s = complete s i (bare .badField) := by
  simp [clearLaneFault, laneOf_eq_none high]

theorem clearLaneFault_clears {l : LaneId} (lane : b.toNat = l.val) :
    clearLaneFault i [b] s =
      complete (s.setLane l { s.lane l with firstFault := none, lastFault := none, faultCount := 0 }) i
        ⟨.ok, [faultCode (s.lane l).firstFault, faultCode (s.lane l).lastFault, (s.lane l).faultCount]⟩ := by
  simp [clearLaneFault, laneOf_of_val lane, State.modLane]

end

/-- Settles O20: the 36 bytes item by item, and the three items that CLEAR-LANE-FAULT sets. -/
theorem lanesAreReadAndTheirFaultsCleared : Obligations.LanesAreReadAndTheirFaultsCleared := by
  unfold Obligations.LanesAreReadAndTheirFaultsCleared
  refine ⟨?_, ?_, rfl, rfl, rfl, rfl, fun i => ⟨rfl, ?_⟩⟩
  case refine_3 =>
    simp only [List.map_cons, List.map_nil, entryByte, Option.isSome_some]
    rfl
  · intro s tag b i taken ready p
    refine ⟨fun high => ?_, fun l lane => ?_⟩
    · rw [exec_taken_carried .readLane rfl taken rfl (modeRefusal_ready ready)]
      exact congrArg _ (readLane_badField (s := p) i high)
    intro x position
    have carried : exec (.readLane tag [b]) s = .next (readLane i [b] p) :=
      exec_taken_carried .readLane rfl taken rfl (modeRefusal_ready ready)
    have place (k : Nat) : entryByteOrAbsent x.list[k]? = position k := entryByteOrAbsent_eq _
    have running : entryByteOrAbsent x.inProgress = match x.inProgress with | some e => entryByte e | none => (0xFF : Byte) :=
      entryByteOrAbsent_eq _
    rw [carried, readLane_reads (s := p) i lane]
    show Host.Outcome.next (complete p i ⟨.ok, laneBytes x s.config.working.lanes[l]⟩) = _
    rw [laneBytes_eq, place, place, place, place, running] <;> rfl
  · intro s tag b i taken p
    refine ⟨fun startup => ?_, fun ready => ⟨fun high => ?_, fun l lane => ?_⟩⟩
    · exact exec_taken_refused .clearLaneFault rfl taken rfl (by rw [startup]; rfl)
    · rw [exec_taken_carried .clearLaneFault rfl taken rfl (modeRefusal_ready ready)]
      exact congrArg _ (clearLaneFault_badField (s := p) i high)
    · rw [exec_taken_carried .clearLaneFault rfl taken rfl (modeRefusal_ready ready)]
      exact congrArg _ (clearLaneFault_clears (s := p) i lane)

/-! ## LANE-COMMAND (R117) -/

section

variable {s : State} (i : SlotId) {b code : Byte}

theorem laneCommandOf_eq_none (high : 2 < code.toNat) : laneCommandOf code = none := by
  have : code ≠ 0#8 ∧ code ≠ 1#8 ∧ code ≠ 2#8 := by bv_omega
  simp [laneCommandOf, this]

theorem laneCommand_badField (bad : laneOf b = none ∨ laneCommandOf code = none) :
    laneCommand i [b, code] s = complete s i (bare .badField) := by
  unfold laneCommand
  dsimp only
  split
  · next lane command => rcases bad with h | h <;> simp_all
  · rfl

variable {l : LaneId} {k : EntryKind} (lane : b.toNat = l.val) (command : laneCommandOf code = some k)

include lane command

theorem laneCommand_laneDown (phase : (s.lane l).phase ≠ .running) :
    laneCommand i [b, code] s = complete s i (bare .laneDown) := by
  simp [laneCommand, laneOf_of_val lane, command, phase]

theorem laneCommand_laneBusy (phase : (s.lane l).phase = .running) (busy : 2 ≤ (s.lane l).hostEntries) :
    laneCommand i [b, code] s = complete s i (bare .laneBusy) := by
  simp [laneCommand, laneOf_of_val lane, command, phase, busy]

theorem laneCommand_queues (phase : (s.lane l).phase = .running) (room : (s.lane l).hostEntries < 2) :
    laneCommand i [b, code] s = s.setLane l { s.lane l with list := (s.lane l).list ++ [⟨k, some i⟩] } := by
  simp [laneCommand, laneOf_of_val lane, command, phase, Nat.not_le.2 room, State.modLane]

end

/-- Settles O21: the refusals of R117 in order, and the entry queued. -/
theorem laneCommandsQueueAHostEntry : Obligations.LaneCommandsQueueAHostEntry := by
  unfold Obligations.LaneCommandsQueueAHostEntry
  refine ⟨?_, fun s tag b code i c row high taken ready => ?_⟩
  · intro s tag b code i c k row taken ready p
    have known : requestOf c = some (tag, 0x21, [b, code]) ∧ laneCommandOf code = some k := by
      simp only [List.mem_cons, Prod.mk.injEq, List.not_mem_nil, or_false] at row
      rcases row with ⟨rfl, rfl, rfl⟩ | ⟨rfl, rfl, rfl⟩ | ⟨rfl, rfl, rfl⟩ <;> exact ⟨rfl, rfl⟩
    obtain ⟨frame, command⟩ := known
    have carried : exec c s = .next (laneCommand i [b, code] p) :=
      exec_taken_carried .laneCommand frame taken rfl (modeRefusal_ready ready)
    rw [carried]
    refine ⟨fun high => ?_, fun l lane => ⟨fun down => ?_, fun up busy => ?_, fun up room => ?_⟩⟩
    · rw [laneCommand_badField i (.inl (laneOf_eq_none high))]
    · rw [laneCommand_laneDown (s := p) i lane command down]
    · rw [laneCommand_laneBusy (s := p) i lane command up busy]
    · exact congrArg _ (laneCommand_queues (s := p) i lane command up room)
  · rw [exec_taken_carried .laneCommand row taken rfl (modeRefusal_ready ready)]
    exact congrArg _ (laneCommand_badField i (.inr (laneCommandOf_eq_none high)))

/-! ## SET-LAMPS (R130) -/

/-- The target of a SET-LAMPS is reached exactly where its version is acknowledged already: no newer version is desired
than the target itself (R122). -/
theorem targetReached_desired (version acked : Word) : targetReached version acked version = true ↔ acked = version := by
  simp only [targetReached, decide_eq_true_eq, BitVec.lt_irrefl, or_false]
  bv_omega

section

variable {s : State} (i : SlotId) {b mh ml vh vl : Byte}

theorem setLamps_badField (high : 7 < b.toNat) :
    setLamps i [b, mh, ml, vh, vl] s = complete s i (bare .badField) := by
  simp [setLamps, laneOf_eq_none high]

variable {l : LaneId} (lane : b.toNat = l.val)

include lane

theorem setLamps_laneDown (down : (s.lane l).phase ≠ .running) :
    setLamps i [b, mh, ml, vh, vl] s = complete s i (bare .laneDown) := by
  simp [setLamps, laneOf_of_val lane, down]

theorem setLamps_sets (up : (s.lane l).phase = .running) :
    setLamps i [b, mh, ml, vh, vl] s = setLampsOn i l (half mh ml) (half vh vl) s := by
  simp [setLamps, laneOf_of_val lane, up]

end

section

variable {s : State} (i : SlotId) {l : LaneId} {mask values : Half} {y : Lane}
  (written : (s.lane l).hostLamps mask values = y)

include written

theorem setLampsOn_completes (confirmed : y.ackedVersion = y.desiredVersion) :
    setLampsOn i l mask values s = complete (s.setLane l y) i ⟨.ok, be32 y.desiredVersion⟩ := by
  have lane : (s.modLane l fun x => x.hostLamps mask values) = s.setLane l y := by rw [State.modLane, written]
  unfold setLampsOn
  dsimp only
  rw [lane, State.lane_setLane_self, if_pos ((targetReached_desired _ _).2 confirmed)]
  rfl

theorem setLampsOn_waits (unconfirmed : y.ackedVersion ≠ y.desiredVersion) :
    setLampsOn i l mask values s = s.setLane l { y with waiters := y.waiters ++ [⟨i, y.desiredVersion⟩] } := by
  have lane : (s.modLane l fun x => x.hostLamps mask values) = s.setLane l y := by rw [State.modLane, written]
  unfold setLampsOn
  dsimp only
  rw [lane, State.lane_setLane_self, if_neg fun reached => unconfirmed ((targetReached_desired _ _).1 reached),
    State.modLane, State.lane_setLane_self, setLane_setLane]

end

/-- Settles O22: the masked lamps written bit by bit, and the wait for the version after the write. -/
theorem setLampsWritesAndWaits : Obligations.SetLampsWritesAndWaits := by
  unfold Obligations.SetLampsWritesAndWaits
  intro s tag b mh ml vh vl i image taken ready p
  have carried : exec (.setLamps tag [b, mh, ml, vh, vl]) s = .next (setLamps i [b, mh, ml, vh, vl] p) :=
    exec_taken_carried .setLamps rfl taken rfl (modeRefusal_ready ready)
  rw [carried]
  refine ⟨fun high => ?_, fun l lane => ⟨fun down => ?_, fun up shows => ?_⟩⟩
  · rw [setLamps_badField i high]
  · rw [setLamps_laneDown (s := p) i lane down]
  · intro x target y
    have is : image = (x.desired &&& ~~~half mh ml) ||| (half vh vl &&& half mh ml) :=
      image_ext fun n => by rw [shows n, getLsbD_maskedWrite]
    have written : (p.lane l).hostLamps (half mh ml) (half vh vl) = y := by
      show Lane.withDesired { x with owners := x.owners ||| half mh ml }
        ((x.desired &&& ~~~half mh ml) ||| (half vh vl &&& half mh ml)) = y
      rw [← is, Lane.withDesired_eq]
      have running : x.phase = .running := up
      simp [y, target, running]
    rw [setLamps_sets (s := p) i lane up]
    exact ⟨fun confirmed => congrArg _ (setLampsOn_completes i written confirmed),
      fun unconfirmed => congrArg _ (setLampsOn_waits i written unconfirmed)⟩

end Sys2Proof.Machine
end

section
/-! Translator turns: which lane is served and when a turn waits (R63, R65), LANE_STATUS turns (R64), and the press that
satisfies LEARN (R75). -/

namespace Sys2Proof.Machine

set_option Elab.async false

/-! ## A completion and what it does not look at -/

/-- A completion does not look at the Translator or the lanes. -/
theorem complete_elsewhere (s : State) (translator : Translator) (lanes : Vector Lane 8) (i : SlotId) (r : Reply) :
    complete { s with translator := translator, lanes := lanes } i r =
      { complete s i r with translator := translator, lanes := lanes } := by
  unfold complete
  have same : ({ s with translator := translator, lanes := lanes } : State).slot i = s.slot i := rfl
  rw [same]
  split <;> rfl

@[simp] theorem placeRecord_none (s : State) : placeRecord s none = s := by
  unfold placeRecord
  split
  · contradiction
  · contradiction
  · rfl

@[simp] theorem lane_advanceStart (s : State) (l k : LaneId) : (advanceStart s l).lane k = s.lane k := rfl

/-! ## The press that satisfies LEARN (R75) -/

theorem LearnWaiter.hears_iff {w : LearnWaiter} {l : LaneId} : w.hears l = true ↔ w.lane = none ∨ w.lane = some l := by
  unfold LearnWaiter.hears
  cases w.lane <;> simp

theorem learnCode_satisfied {s : State} {l : LaneId} {w : LearnWaiter} (waiting : s.translator.learn = some w)
    (hears : w.hears l = true) (ext : Bool) (b : Byte) : learnCode s l ext false b =
      complete (clearLearn s) w.slot ⟨.ok, [byteOf l.val, flagCode ext, b] ++ boundField (s.boundControl l ext b)⟩ := by
  simp [learnCode, waiting, hears]

/-- The control bound to a key, as the LEARN reply names it (R75, R189). -/
theorem boundField_eq {s : State} {l : LaneId} {ext : Bool} {b : Byte} {found : Option ControlId}
    (wf : s.config.working.wf)
    (is : match found with
      | some c => ∃ d, s.definition c = some d ∧ d.binding = some ⟨l, ext, b⟩
      | none => ∀ c d, s.definition c = some d → d.binding ≠ some ⟨l, ext, b⟩) :
    boundField (s.boundControl l ext b) = be16 (controlOrAbsent found) := by
  obtain ⟨rising, -, distinct, -⟩ := wf
  cases found with
  | none =>
    rw [State.boundControl_eq_none fun e mem => is e.1 e.2 (lookupKey_of_mem rising mem)]
    rfl
  | some c =>
    obtain ⟨d, defined, bound⟩ := is
    rw [State.boundControl_of_binding distinct defined bound]
    rfl

/-- Settles O34: the completed press ends LEARN, and the turn goes on as any other (R67). -/
theorem learnIsSatisfiedByAPress : Obligations.LearnIsSatisfiedByAPress := by
  unfold Obligations.LearnIsSatisfiedByAPress
  intro s l b w ext found turn config wf code state waiting lane is
  have completed : classifyByte (s.prefixOf l) b = .completed ext false := by
    rw [classifyByte_keyCode code]
    rcases state with ⟨p, rfl⟩ | ⟨p, rfl⟩ <;> rw [p] <;> rfl
  have event : byteEvent s l b = none := by simp only [byteEvent, completed, config]
  have routed : routeCode s l ext false b = learnCode s l ext false b := by simp only [routeCode, config]
  have taking : takeByte s l b =
      ((complete (clearLearn s) w.slot ⟨.ok, [byteOf l.val, flagCode ext, b] ++ be16 (controlOrAbsent found)⟩).setPrefix l
        .none).modLane l Lane.slotTaken := by
    simp only [takeByte, completed, event, routed, placeRecord_none, Taken.nextPrefix]
    rw [learnCode_satisfied waiting (LearnWaiter.hears_iff.2 lane), boundField_eq wf is]
  rw [turn.exec_eq, taking, settleLamps_same]
  · rw [clearLearn, complete_elsewhere s _ s.lanes]
    refine congrArg _ (Eq.symm ?_)
    cases found <;> exact complete_elsewhere s _ _ w.slot _
  · intro k
    rw [lane_advanceStart, State.lane_modLane, State.lane_setPrefix, complete_lane]
    split <;> exact ⟨rfl, rfl⟩

/-! ## Which lane is served (R63) -/

theorem getElem_laneOrder (start : LaneId) {k : Nat} (h : k < (laneOrder start).length) :
    (laneOrder start)[k] = start + Fin.ofNat 8 k := by
  have small : k < 8 := by simpa [laneOrder] using h
  have same : (⟨k, small⟩ : Fin 8) = Fin.ofNat 8 k := Fin.ext (Nat.mod_eq_of_lt small).symm
  simp only [laneOrder, List.getElem_map, List.getElem_finRange]
  exact congrArg _ same

theorem eligible_iff {s : State} {l : LaneId} :
    eligible s l = true ↔ (s.lane l).statusWanted = true ∨ (s.lane l).slot ≠ none := by
  simp [eligible, Option.isSome_iff_ne_none]

theorem eligible_eq_false_iff {s : State} {l : LaneId} :
    eligible s l = false ↔ (s.lane l).statusWanted = false ∧ (s.lane l).slot = none := by
  simp [eligible]

theorem nextLane_eq {s : State} {k : Nat} (small : k < 8)
    (earlier : ∀ j, j < k → eligible s (s.translator.start + Fin.ofNat 8 j) = false)
    (here : eligible s (s.translator.start + Fin.ofNat 8 k) = true) :
    nextLane s = some (s.translator.start + Fin.ofNat 8 k) := by
  have length : k < (laneOrder s.translator.start).length := by simpa [laneOrder] using small
  refine List.find?_eq_some_iff_getElem.2 ⟨here, k, length, getElem_laneOrder _ length, fun j before => ?_⟩
  rw [getElem_laneOrder, earlier j before]
  rfl

theorem nextLane_eq_none {s : State} (none : ∀ l, eligible s l = false) : nextLane s = .none :=
  List.find?_eq_none.2 fun l _ => by simp [none l]

/-- The lane of the next turn is eligible. -/
theorem eligible_of_nextLane {s : State} {l : LaneId} (next : nextLane s = some l) : eligible s l = true :=
  List.find?_some next

/-! ## What a turn does by the lane it goes to (R63, R65) -/

theorem exec_turn {s : State} (running : s.line = .running) :
    exec .translatorTurn s = .next (settleLamps s (takeTurn s)) := congrArg _ (whenRunning_running running _)

theorem takeTurn_idle {s : State}
    (idle : s.config.mode = .startup ∨ s.translator.waiting ≠ none ∨ nextLane s = none) : takeTurn s = s := by
  unfold takeTurn
  split
  · rfl
  · next l started waiting next => simp_all
  · rfl

section

variable {s : State} (started : s.config.mode ≠ .startup) (free : s.translator.waiting = none) {l : LaneId}
  (next : nextLane s = some l)

include started free next

theorem takeTurn_waits (held : turnHeld s l = true) :
    takeTurn s = { s with translator := { s.translator with waiting := some l } } := by
  cases mode : s.config.mode with
  | startup => exact absurd mode started
  | run => simp [takeTurn, mode, free, next, held]
  | config => simp [takeTurn, mode, free, next, held]

theorem takeTurn_serves (served : turnHeld s l = false) : takeTurn s = serveLane s l := by
  cases mode : s.config.mode with
  | startup => exact absurd mode started
  | run => simp [takeTurn, mode, free, next, served]
  | config => simp [takeTurn, mode, free, next, served]

/-- A turn that needs space in a full queue waits and changes nothing else (R65). -/
theorem exec_turn_waits (running : s.line = .running) (held : turnHeld s l = true) :
    exec .translatorTurn s = .next { s with translator := { s.translator with waiting := some l } } := by
  rw [exec_turn running, takeTurn_waits started free next held]
  exact congrArg _ (settleLamps_same s _ fun _ => ⟨rfl, rfl⟩)

end

theorem turnHeld_iff {s : State} {l : LaneId} : turnHeld s l = true ↔
    s.delivery.state ≠ .off ∧ 128 ≤ s.queue.records.length ∧ (turnEvent s l).isSome = true := by
  simp [turnHeld, queueFull, and_assoc]

theorem turnHeld_eq_false {s : State} {l : LaneId}
    (space : s.delivery.state = .off ∨ s.queue.records.length < 128 ∨ turnEvent s l = none) : turnHeld s l = false := by
  rw [← Bool.not_eq_true, turnHeld_iff]
  rintro ⟨on, full, event⟩
  rcases space with off | room | none
  · exact on off
  · omega
  · simp [none] at event

/-! ## What a turn leaves of the Translator -/

/-- What a turn may change of the Translator's own state: EXT/REL states, LEARN and the starting lane, not the wait. -/
theorem routeCode_waits (s : State) (l : LaneId) (ext rel : Bool) (b : Byte) :
    (routeCode s l ext rel b).translator.waiting = s.translator.waiting := by
  unfold routeCode
  split
  · split
    · next c d _ =>
      unfold takeAction
      obtain ⟨table, e⟩ := actionState_frame s c d rel
      rw [e]
      rfl
    · rfl
  · unfold learnCode
    repeat' split
    · simp [clearLearn]
    · rfl
    · rfl
  · rfl

theorem takeByte_waits (s : State) (l : LaneId) (b : Byte) :
    (takeByte s l b).translator.waiting = s.translator.waiting := by
  have placed (t : State) (p : PrefixState) (e : Option Event) :
      ((placeRecord (t.setPrefix l p) e).modLane l Lane.slotTaken).translator.waiting = t.translator.waiting := by
    rw [placeRecord_eq]
    rfl
  unfold takeByte
  dsimp only
  rw [placed]
  split
  · exact routeCode_waits s l _ _ b
  · rfl

theorem serveLane_waits (s : State) (l : LaneId) :
    (serveLane s l).translator.start = l + 1 ∧ (serveLane s l).translator.waiting = s.translator.waiting := by
  refine ⟨rfl, ?_⟩
  unfold serveLane advanceStart
  dsimp only
  repeat' split
  · simp [statusTurn, placeRecord_eq, State.modLane, State.setLane]
  · exact takeByte_waits s l _
  · rfl

/-! ## Turns that take a byte -/

theorem settleLane_slot (before x : Lane) : (settleLane before x).slot = x.slot := by
  unfold settleLane Lane.queueLamp
  split
  · split <;> rfl
  · split
    · rfl
    · split <;> rfl

theorem TurnTakes.isServed {s : State} {l : LaneId} {b : Byte} (h : TurnTakes s l b) :
    ∃ t, exec .translatorTurn s = .next t ∧ (t.lane l).slot = none ∧ t.translator.start = l + 1 ∧
      t.translator.waiting = none := by
  refine ⟨_, h.exec_eq, ?_, rfl, ?_⟩
  · rw [lane_settleLamps, settleLane_slot]
    show ((takeByte s l b).lane l).slot = none
    unfold takeByte
    simp [Lane.slotTaken]
  · exact (takeByte_waits s l b).trans h.free

/-- The record of an action on a defined control, by kind and flag (R9 to R12). -/
theorem actionEvent_isSome_iff (s : State) (c : ControlId) (d : ControlDef) (release : Bool) :
    (actionEvent s c d release).isSome = true ↔
      match d.kind with
      | .momentary => release = true ↔ (s.control c).physical = .down
      | .toggle => release = false ∧ (s.control c).physical ≠ .down
      | .member g => release = false ∧ (s.control c).physical ≠ .down ∧
          ¬(s.selection g = some c ∧ s.groupMode g = .forced) := by
  by_cases down : (s.control c).physical = .down
  · cases kind : d.kind <;> cases release <;> simp [actionEvent, kind, down]
  · cases kind : d.kind with
    | momentary => cases release <;> simp [actionEvent, kind, down]
    | toggle => cases release <;> simp [actionEvent, kind, down]
    | member g =>
      cases release
      · by_cases selected : s.selection g = some c
        · cases mode : s.groupMode g <;> simp [actionEvent, kind, down, selected, mode]
        · simp [actionEvent, kind, down, selected]
      · simp [actionEvent, kind]

section

variable {s : State} {l : LaneId} {b : Byte} (wanted : (s.lane l).statusWanted = false) (byte : (s.lane l).slot = some b)

include wanted byte

theorem turnEvent_byte : turnEvent s l = byteEvent s l b := by
  simp [turnEvent, wanted, byte]

theorem turnEvent_offending (offending : classifyByte (s.prefixOf l) b = .offending) :
    (turnEvent s l).isSome = true := by
  rw [turnEvent_byte wanted byte, byteEvent, offending]
  rfl

theorem turnEvent_moved {p : PrefixState} (moved : classifyByte (s.prefixOf l) b = .moved p) : turnEvent s l = none := by
  rw [turnEvent_byte wanted byte, byteEvent, moved]

variable (code : isKeyCode b)

include code

theorem turnEvent_config (mode : s.config.mode = .config) : turnEvent s l = none := by
  rw [turnEvent_byte wanted byte, byteEvent, classifyByte_keyCode code]
  simp only [mode]

theorem turnEvent_unbound (mode : s.config.mode = .run)
    (unbound : s.boundControl l (s.prefixOf l).isExtended b = none) : (turnEvent s l).isSome = true := by
  rw [turnEvent_byte wanted byte, byteEvent, classifyByte_keyCode code]
  simp only [mode, unbound]
  rfl

theorem turnEvent_bound (mode : s.config.mode = .run) {c : ControlId} {d : ControlDef}
    (bound : s.boundControl l (s.prefixOf l).isExtended b = some (c, d)) :
    turnEvent s l = actionEvent s c d (s.prefixOf l).isRelease := by
  rw [turnEvent_byte wanted byte, byteEvent, classifyByte_keyCode code]
  simp only [mode, bound]

end

/-- Settles O39: the first eligible lane is served or waits, and a byte waits exactly where it yields a record. -/
theorem turnsGoRoundAndWaitForSpace : Obligations.TurnsGoRoundAndWaitForSpace := by
  unfold Obligations.TurnsGoRoundAndWaitForSpace
  refine ⟨fun s running => ⟨fun idle => ?_, fun started free k small earlier here => ?_⟩, ?_⟩
  · have nothing : s.config.mode = .startup ∨ s.translator.waiting ≠ none ∨ nextLane s = none :=
      idle.imp_right (Or.imp_right fun none => nextLane_eq_none fun l => eligible_eq_false_iff.2 (none l))
    rw [exec_turn running, takeTurn_idle nothing, settleLamps_self]
  · have next := nextLane_eq small (fun j before => eligible_eq_false_iff.2 (earlier j before)) (eligible_iff.2 here)
    cases held : turnHeld s (s.translator.start + Fin.ofNat 8 k) with
    | true => exact ⟨_, exec_turn_waits started free next running held, .inr rfl⟩
    | false =>
      refine ⟨_, exec_turn running, .inl ?_⟩
      rw [takeTurn_serves started free next held]
      obtain ⟨start, waiting⟩ := serveLane_waits s (s.translator.start + Fin.ofNat 8 k)
      exact ⟨start, waiting.trans free⟩
  · intro s l b running started free next wanted byte wf extended release waits served yields
    have ext : (s.prefixOf l).isExtended = extended := (s.prefixOf l).isExtended_eq
    have rel : (s.prefixOf l).isRelease = release := (s.prefixOf l).isRelease_eq
    have isServed (free' : turnHeld s l = false) : served :=
      have takes : TurnTakes s l b := ⟨running, started, free, next, wanted, byte, free'⟩
      ⟨takes, takes.isServed⟩
    have isWaiting (event : (turnEvent s l).isSome = true) : waits := fun on full =>
      exec_turn_waits started free next running (turnHeld_iff.2 ⟨on, full.ge, event⟩)
    obtain ⟨rising, -, distinct, -⟩ := wf
    refine ⟨fun space => ?_, fun offends => ?_, fun moves => ?_, fun least most => ⟨fun config => ?_, fun run =>
      ⟨fun unbound => ?_, fun c d defined bound => ?_⟩⟩⟩
    · exact isServed (turnHeld_eq_false (space.imp_right .inl))
    · refine isWaiting (turnEvent_offending wanted byte ?_)
      rcases offends with listed | high | ⟨rfl, late⟩ | ⟨rfl, again⟩
      · exact classifyByte_illegal_listed _ listed
      · exact classifyByte_illegal_high _ high
      · exact classifyByte_ext_late late
      · exact classifyByte_rel_again (of_decide_eq_true again)
    · have moved : ∃ p, classifyByte (s.prefixOf l) b = .moved p := by
        rcases moves with ⟨rfl, first⟩ | ⟨rfl, first⟩
        · exact ⟨_, first ▸ classifyByte_ext_none⟩
        · have unreleased : (s.prefixOf l).isRelease = false := rel.trans first
          cases p : s.prefixOf l with
          | none => exact ⟨_, classifyByte_rel_none⟩
          | ext => exact ⟨_, classifyByte_rel_ext⟩
          | rel => simp [p, PrefixState.isRelease] at unreleased
          | extRel => simp [p, PrefixState.isRelease] at unreleased
      obtain ⟨p, moved⟩ := moved
      exact isServed (turnHeld_eq_false (.inr (.inr (turnEvent_moved wanted byte moved))))
    · exact isServed (turnHeld_eq_false (.inr (.inr (turnEvent_config wanted byte ⟨least, most⟩ config))))
    · refine isWaiting (turnEvent_unbound wanted byte ⟨least, most⟩ run ?_)
      rw [ext]
      exact State.boundControl_eq_none fun e mem => unbound e.1 e.2 (lookupKey_of_mem rising mem)
    · have event : turnEvent s l = actionEvent s c d release := by
        rw [← rel]
        exact turnEvent_bound wanted byte ⟨least, most⟩ run
          (by rw [ext]; exact State.boundControl_of_binding distinct defined bound)
      have iff : (turnEvent s l).isSome = true ↔ yields c d := by
        rw [event]
        exact actionEvent_isSome_iff s c d release
      refine ⟨fun yes => isWaiting (iff.2 yes), fun no => isServed (turnHeld_eq_false (.inr (.inr ?_)))⟩
      rw [← Option.not_isSome_iff_eq_none, iff]
      exact no

/-! ## LANE_STATUS turns (R64) -/

theorem turnEvent_status {s : State} {l : LaneId} (wanted : (s.lane l).statusWanted = true) :
    turnEvent s l = some (laneStatusEvent s l) := by
  simp [turnEvent, wanted]

theorem serveLane_status {s : State} {l : LaneId} (wanted : (s.lane l).statusWanted = true)
    (on : s.delivery.state ≠ .off) : serveLane s l =
      ({ s with
        queue := ⟨s.queue.records ++ [⟨s.queue.next, s.time.uptime, laneStatusEvent s l⟩], s.queue.next + 1⟩
        translator := { s.translator with start := l + 1 } } : State).setLane l
          { s.lane l with statusWanted := false, faultsSince := 0 } := by
  have delivering : s.delivering = true := decide_eq_true on
  have queue : queueWith s (some (laneStatusEvent s l)) =
      ⟨s.queue.records ++ [⟨s.queue.next, s.time.uptime, laneStatusEvent s l⟩], s.queue.next + 1⟩ := if_neg on
  simp only [serveLane, wanted, if_true, statusTurn, placeRecord_eq, queue, delivering]
  rfl

/-- Settles O40: a LANE_STATUS item always yields a record, so it is appended or waits. -/
theorem statusTurnAppendsALaneStatus : Obligations.StatusTurnAppendsALaneStatus := by
  unfold Obligations.StatusTurnAppendsALaneStatus
  intro s l running started free next wanted on event
  refine ⟨fun room => ?_, fun full => ?_⟩
  · rw [exec_turn running, takeTurn_serves started free next (turnHeld_eq_false (.inr (.inl room))),
      serveLane_status wanted on]
    exact congrArg _ (settleLamps_setLane _ l _ rfl rfl)
  · refine exec_turn_waits started free next running (turnHeld_iff.2 ⟨on, full.ge, ?_⟩)
    rw [turnEvent_status wanted]
    rfl

end Sys2Proof.Machine
end

section
/-! The Configuration Store (09): COMMIT and READ-STORE (R158, R165), and the ends of write attempts (R152, R156, R159 to
R161). -/

namespace Sys2Proof.Machine

set_option Elab.async false

/-! ## COMMIT (R158, R159) -/

theorem validGeneration_eq (st : Store) (n : BankName) : validGeneration st n =
    if (st.views.get n).standing = some .valid then (st.views.get n).generation.toNat else 0 := by
  simp [validGeneration, isValid]

section

variable {s : State} (i : SlotId) (body : List Byte)

theorem commitRequest_busy (busy : s.store.activity = .committing ∨ s.store.restartPending = true) :
    commitRequest i body s = complete s i (bare .storeBusy) := if_pos busy

variable (free : ¬(s.store.activity = .committing ∨ s.store.restartPending = true))

include free

theorem commitRequest_wrongState (wide : 4294967295 < commitGeneration s.store) :
    commitRequest i body s = complete s i (bare .wrongState) := by
  rw [commitRequest, if_neg free, if_pos wide]

theorem commitRequest_takes (fits : commitGeneration s.store ≤ 4294967295) :
    commitRequest i body s = takeCommit s i := by
  rw [commitRequest, if_neg free, if_neg (Nat.not_lt.2 fits)]

end

/-- A commit that is taken: the context, and the first attempt on bank A unless a repair's attempt runs (R159). -/
theorem takeCommit_eq (s : State) (i : SlotId) : takeCommit s i =
    { s with
      store :=
        { s.store with
          commit := some ⟨s.config.working, BitVec.ofNat 32 (commitGeneration s.store), 0, i⟩
          activity := .committing
          write := if s.store.write = none then some ⟨.a, false, .commit⟩ else s.store.write
          views :=
            if s.store.write = none then { s.store.views with a := ⟨some .invalid, s.store.views.a.generation⟩ }
            else s.store.views } } := by
  unfold takeCommit
  cases write : s.store.write with
  | none => simp [write, beginCommit, beginAttempt, setStanding, PerBank.set, PerBank.get]
  | some w => simp [write]

/-! ## READ-STORE (R165) -/

/-- A bank's field of a READ-STORE reply: its standing, and its generation while VALID (R165, R189). -/
def bankField (v : BankStanding) (generation : Word) : List Byte :=
  match v with
  | .valid => 0 :: be32 generation
  | .invalid => [1, 0, 0, 0, 0]
  | .failed => [2, 0, 0, 0, 0]

theorem bankBytes_eq {st : Store} {n : BankName} {v : BankStanding} (standing : (st.views.get n).standing = some v) :
    bankBytes st n = bankField v (st.views.get n).generation := by
  cases v <;> simp [bankBytes, bankField, isValid, standing, bankStandingCode, be32]

theorem writeBytes_eq (w : Option BankWrite) : writeBytes w =
    match w with
    | some w => [w.bank.code, if w.secondAttempt then 2 else 1]
    | none => [0xFF, 0] := by
  cases w <;> rfl

/-- Settles O35: the refusals of COMMIT, its context, and the bytes of READ-STORE. -/
theorem commitTakesItsSnapshot : Obligations.CommitTakesItsSnapshot := by
  unfold Obligations.CommitTakesItsSnapshot
  refine ⟨?_, fun s tag i a b c taken ready view_a view_b view_c => ?_, rfl⟩
  · intro s tag i g taken ready p counted is
    have generation : commitGeneration p.store = g := by
      rw [is]
      simp only [commitGeneration, validGeneration_eq]
      rfl
    have carried : exec (.commit tag []) s = .next (commitRequest i [] p) :=
      exec_taken_carried .commit rfl taken rfl (modeRefusal_ready ready)
    rw [carried]
    refine ⟨fun busy => ?_, fun idle unset wide => ?_, fun idle unset fits => ?_⟩
    · rw [commitRequest_busy (s := p) i [] busy]
    all_goals
      have free : ¬(p.store.activity = .committing ∨ p.store.restartPending = true) := by
        rw [unset]
        rintro (h | h)
        · exact idle h
        · cases h
    · rw [commitRequest_wrongState i [] free (by rw [generation]; exact wide)]
    · rw [commitRequest_takes i [] free (by rw [generation]; exact fits), takeCommit_eq, generation]
      rfl
  · intro bank
    have carried : exec (.readStore tag []) s = .next (readStore i [] (placed s tag 0x3C [] i)) :=
      exec_taken_carried .readStore rfl taken rfl (modeRefusal_ready ready)
    have fields : bank = bankField := by
      funext v generation
      cases v <;> rfl
    have bytes_a := bankBytes_eq (st := s.store) (n := .a) view_a
    have bytes_b := bankBytes_eq (st := s.store) (n := .b) view_b
    have bytes_c := bankBytes_eq (st := s.store) (n := .c) view_c
    have written := writeBytes_eq s.store.write
    have data : readStore i [] (placed s tag 0x3C [] i) =
        complete (placed s tag 0x3C [] i) i
          ⟨.ok, bankBytes s.store .a ++ bankBytes s.store .b ++ bankBytes s.store .c ++
            [s.store.standing.code, s.store.activity.code] ++ writeBytes s.store.write ++
            be32 s.store.generation ++ [flagCode s.config.dirty]⟩ := rfl
    rw [carried, data, bytes_a, bytes_b, bytes_c, written, fields]
    rfl

/-! ## Write attempts (R152) -/

theorem exec_bankWrite {s : State} (running : s.line = .running) (r : ReadBack) :
    exec (.bankWriteAttemptEnds r) s = .next (writeAttemptEnds s r) := congrArg _ (whenRunning_running running _)

theorem heldAfter_eq (written : StoredBank) (r : ReadBack) :
    heldAfter written r = match r with | .asWritten => written | .other b => b := by
  cases r <;> rfl

theorem PerBank.set_set {α : Type} (p : PerBank α) (n : BankName) (x y : α) : (p.set n x).set n y = p.set n y := by
  cases n <;> rfl

/-- The store once the bank of the attempt holds what it reads back as (R152). -/
def Store.holding (st : Store) (n : BankName) (held : StoredBank) : Store := { st with banks := st.banks.set n held }

section

variable {s : State} {r : ReadBack} {w : BankWrite} {written held : StoredBank} (write : s.store.write = some w)
  (puts : writtenBank s.store w = written) (is : held = heldAfter written r)

include write puts is

/-- The end of a repair's attempt while no commit has been taken (R156). -/
theorem writeAttemptEnds_repair (origin : w.origin = .repair) (commit : s.store.commit = none) :
    writeAttemptEnds s r =
      { s with store := repairAttemptEnds (s.store.holding w.bank held) w (decide (held = written)) } := by
  subst puts is
  simp only [writeAttemptEnds, Store.holding, write, origin, commit]

/-- The end of a repair's attempt that a commit has overtaken (R159). -/
theorem writeAttemptEnds_overtaken (origin : w.origin = .repair) {c : CommitContext} (commit : s.store.commit = some c) :
    writeAttemptEnds s r =
      { s with store := overtakenAttemptEnds (s.store.holding w.bank held) w (decide (held = written)) } := by
  subst puts is
  simp only [writeAttemptEnds, Store.holding, write, origin, commit]

/-- The end of a commit's attempt (R160). -/
theorem writeAttemptEnds_commit (origin : w.origin = .commit) {c : CommitContext} (commit : s.store.commit = some c) :
    writeAttemptEnds s r =
      commitAttemptEnds { s with store := s.store.holding w.bank held } w c (decide (held = written)) := by
  subst puts is
  simp only [writeAttemptEnds, Store.holding, write, origin, commit]

end

/-- Settles O37: a pass, a first failure and a second failure of a repair's attempt. -/
theorem repairAttemptsEnd : Obligations.RepairAttemptsEnd := by
  unfold Obligations.RepairAttemptsEnd
  intro s r n second held running write commit written is banks generation
  have ends := writeAttemptEnds_repair write (written := written) rfl (is.trans (heldAfter_eq written r).symm) rfl commit
  rw [exec_bankWrite running, ends]
  refine ⟨fun pass => ?_, fun fail first => ?_, fun fail last => ?_⟩
  · rw [decide_eq_true pass]
    rfl
  · subst first
    rw [decide_eq_false fail]
    rfl
  · subst last
    rw [decide_eq_false fail]
    rfl

/-! ## Commits (R159 to R161) -/

/-- What an attempt's end records of its bank: VALID with the generation written, or INVALID after a first failure and
FAILED after a second, with the generation held before (R150, R152). -/
def recordedView (st : Store) (n : BankName) (second : Bool) (written : StoredBank) (pass : Bool) : BankView :=
  match pass, second with
  | true, _ => ⟨some .valid, written.generation⟩
  | false, false => ⟨some .invalid, (st.views.get n).generation⟩
  | false, true => ⟨some .failed, (st.views.get n).generation⟩

theorem recordedView_eq (st : Store) (n : BankName) (second : Bool) (written held : StoredBank) :
    recordedView st n second written (decide (held = written)) =
      if held = written then ⟨some .valid, written.generation⟩
      else ⟨some (if second then .failed else .invalid), (st.views.get n).generation⟩ := by
  by_cases pass : held = written
  · simp [recordedView, pass]
  · cases second <;> simp [recordedView, pass]

/-- The store in which the first attempt on a bank, or the second, begins after another attempt's end (R152, R160). -/
def attemptFollows (st : Store) (n : BankName) (held : StoredBank) (recorded : BankView) (next : BankName) (again : Bool)
    (c : CommitContext) : Store :=
  { st with
    banks := st.banks.set n held
    views := (st.views.set n recorded).set next ⟨some .invalid, ((st.views.set n recorded).get next).generation⟩
    write := some ⟨next, again, .commit⟩
    commit := some c }

section

variable {s : State} {w : BankWrite} {c : CommitContext} {written held : StoredBank}
  (commit : s.store.commit = some c)

include commit

theorem overtakenAttemptEnds_eq (pass : Bool) (generation : written.generation = s.store.generation) :
    overtakenAttemptEnds (s.store.holding w.bank held) w pass =
      attemptFollows s.store w.bank held (recordedView s.store w.bank w.secondAttempt written pass) .a false c := by
  cases pass <;> cases again : w.secondAttempt <;>
    · simp only [overtakenAttemptEnds, again, attemptFollows, recordedView, ← commit, generation]
      rfl

theorem commitAttemptEnds_again (first : w.secondAttempt = false) :
    commitAttemptEnds { s with store := s.store.holding w.bank held } w c false =
      { s with store := attemptFollows s.store w.bank held (recordedView s.store w.bank false written false) w.bank true c } := by
  simp only [commitAttemptEnds, first, attemptFollows, recordedView, ← commit, PerBank.set_set, PerBank.get_set_self]
  rfl

omit commit in
/-- An attempt that passes, or a second one that fails, brings the commit to the next bank (R160). -/
theorem commitAttemptEnds_next {pass : Bool} (done : pass = true ∨ w.secondAttempt = true)
    (generation : written.generation = c.generation) :
    commitAttemptEnds { s with store := s.store.holding w.bank held } w c pass =
      nextBank { s with store := { s.store.holding w.bank held with
          views := s.store.views.set w.bank (recordedView s.store w.bank w.secondAttempt written pass) } }
        w.bank { c with good := if pass then c.good + 1 else c.good } := by
  cases pass with
  | true =>
    simp only [commitAttemptEnds, recordedView, generation]
    rfl
  | false =>
    have second : w.secondAttempt = true := by simpa using done
    simp only [commitAttemptEnds, second, recordedView]
    rfl

end

theorem standingOfGood_eq {good : Nat} (most : good ≤ 3) : standingOfGood good =
    if good = 3 then .full else if good = 2 then .majority else if good = 1 then .single else .blank := by
  interval_cases good <;> rfl

/-- Settles O38: which attempt follows an attempt's end, and the end of a commit after bank C. -/
theorem commitWritesTheBanksAndEnds : Obligations.CommitWritesTheBanksAndEnds := by
  unfold Obligations.CommitWritesTheBanksAndEnds
  refine ⟨?_, ?_⟩
  · intro s r n second origin c written held running write commit puts is recorded views goesTo good
    have is' : held = heldAfter written r := is.trans (heldAfter_eq written r).symm
    have puts' : writtenBank s.store ⟨n, second, origin⟩ = written := by
      rw [puts]
      cases origin <;> simp [writtenBank, commit]
    have view : recordedView s.store n second written (decide (held = written)) = recorded := recordedView_eq ..
    have goes {t : State} (ends : writeAttemptEnds s r = t) : exec (.bankWriteAttemptEnds r) s = .next t := by
      rw [exec_bankWrite running, ends]
    have decided : (if decide (held = written) = true then c.good + 1 else c.good) = good := by simp [good]
    have next (done : held = written ∨ second = true) (commits : origin = .commit) :=
      (writeAttemptEnds_commit write puts' is' commits commit).trans
        (commitAttemptEnds_next (s := s) (held := held) (done.imp_left decide_eq_true)
          (show written.generation = c.generation by rw [puts, commits]))
    refine ⟨fun repairs => goes ?_, fun commits fail first => goes ?_, fun commits done isA => goes ?_,
      fun commits done isB => goes ?_⟩
    · rw [writeAttemptEnds_overtaken write puts' is' repairs commit,
        overtakenAttemptEnds_eq (written := written) commit _ (by rw [puts, repairs])]
      simp only [view]
      rfl
    · have again := commitAttemptEnds_again (s := s) (w := ⟨n, second, origin⟩) (held := held) (written := written) commit first
      have failed : decide (held = written) = false := decide_eq_false fail
      have invalid : recordedView s.store n false written false = recorded := by rw [← view, failed, first]
      rw [writeAttemptEnds_commit write puts' is' commits commit, failed, again]
      simp only [invalid]
      rfl
    · rw [next done commits]
      simp only [view, decided]
      subst isA
      rfl
    · rw [next done commits]
      simp only [view, decided]
      subst isB
      rfl
  · intro s r second c held good copy running write commit written is done counted most copies
    have is' : held = heldAfter written r := is.trans (heldAfter_eq written r).symm
    have puts : writtenBank s.store ⟨.c, second, .commit⟩ = written := by simp [writtenBank, commit, written]
    have ends := (writeAttemptEnds_commit write puts is' rfl commit).trans
      (commitAttemptEnds_next (s := s) (held := held) (written := written) (done.imp_left decide_eq_true) rfl)
    have decided : (if decide (held = written) = true then c.good + 1 else c.good) = good := by simp [counted]
    have view : recordedView s.store .c second written (decide (held = written)) =
        if held = written then ⟨some .valid, c.generation⟩ else ⟨some .failed, s.store.views.c.generation⟩ := by
      rw [recordedView_eq]
      by_cases pass : held = written
      · simp [pass, written]
      · simp [pass, done.resolve_left pass]
        rfl
    have status : (if 2 ≤ good then Status.ok else .storeFailed) = if good = 2 ∨ good = 3 then .ok else .storeFailed := by
      have same : 2 ≤ good ↔ good = 2 ∨ good = 3 := by omega
      simp only [same]
    have dirty : flagCode (decide (s.config.working ≠ copy)) = if s.config.working = copy then 0 else 1 := by
      by_cases same : s.config.working = copy <;> simp [same, flagCode]
    rw [exec_bankWrite running, ends]
    simp only [view, decided]
    rw [← standingOfGood_eq most, ← status, ← dirty, copies]
    rfl

end Sys2Proof.Machine
end

section
/-! The lane link without outcomes: frames that begin, command bytes, the pins (05), and exchanges that start (R104). -/

namespace Sys2Proof.Machine

set_option Elab.async false

/-! ## Updates of one lane -/

theorem modLane_setLane (s : State) (l : LaneId) (x : Lane) (f : Lane → Lane) :
    (s.setLane l x).modLane l f = s.setLane l (f x) := by
  rw [State.modLane, State.lane_setLane_self, setLane_setLane]

theorem modLane_eq (s : State) (l : LaneId) (f : Lane → Lane) : s.modLane l f = s.setLane l (f (s.lane l)) := rfl

/-! ## Command bytes and frames on the line (R82, R85) -/

theorem ModuleCommand.bytes_eq (c : ModuleCommand) : c.bytes =
    match c with
    | .identify => [0x60]
    | .setLamps low high => [0x61, low, high]
    | .scanEnable => [0x62]
    | .scanDisable => [0x63]
    | .resend => [0x6E]
    | .resetModule => [0x6F] := by
  cases c <;> rfl

/-- The number of ones of a byte, bit by bit. -/
def onesOf (b : Byte) : Nat := (List.finRange 8).countP fun i => b.getLsbD i.val

theorem countP_range_eq_onesOf (b : Byte) : ((List.range 8).countP fun i => b.getLsbD i) = onesOf b := by
  simp [onesOf, List.range_succ, List.finRange_succ, List.countP_cons]

theorem oddParity_iff (b : Byte) : oddParity b = true ↔ onesOf b % 2 = 0 := by
  simp [oddParity, countP_range_eq_onesOf]

theorem odd_with_oddParity (b : Byte) : (onesOf b + if oddParity b then 1 else 0) % 2 = 1 := by
  by_cases even : onesOf b % 2 = 0
  · simp only [(oddParity_iff b).2 even, if_true]
    omega
  · have odd : oddParity b = false := by simpa [← oddParity_iff] using even
    simp only [odd]
    simp
    omega

theorem frameIsGood_iff (b : Byte) (parity stop : Bool) :
    frameIsGood b parity stop = true ↔ (onesOf b + if parity then 1 else 0) % 2 = 1 ∧ stop = true := by
  have odd := odd_with_oddParity b
  rw [frameIsGood, Bool.and_eq_true]
  refine and_congr_left fun _ => ?_
  cases parity <;> cases h : oddParity b <;> simp_all <;> omega

theorem partFrame_eq (b : Byte) : partFrame b =
    [false, b.getLsbD 0, b.getLsbD 1, b.getLsbD 2, b.getLsbD 3, b.getLsbD 4, b.getLsbD 5, b.getLsbD 6, b.getLsbD 7,
      oddParity b, true] := rfl

/-! ## The pins (R79, R86, R88) -/

theorem clockLine_sending {x : Lane} {ex : Exchange} (sending : x.activity = .sending) (exchange : x.exchange = some ex) :
    clockLine x = if ex.clocked then .released else .taking := by
  simp [clockLine, sending, exchange]

theorem dataLine_sending {x : Lane} {ex : Exchange} (sending : x.activity = .sending) (exchange : x.exchange = some ex) :
    dataLine x = if ex.clocked then .sending (partFrame (ex.command.bytes.getD ex.byteIndex 0)) else .startBit := by
  simp [dataLine, sending, exchange]

theorem dataLine_released {x : Lane} (quiet : x.activity ≠ .sending) : dataLine x = .released := by
  unfold dataLine
  split
  · next sending _ => exact absurd sending quiet
  · rfl

/-! ## Frames that begin and bytes that are clocked (R87 to R89) -/

section

variable {s : State} {l : LaneId}

theorem Lane.exchangeIn_of {x : Lane} {a : Activity} {ex : Exchange} (activity : x.activity = a)
    (exchange : x.exchange = some ex) : x.exchangeIn a = some ex := by
  rw [Lane.exchangeIn, if_pos activity, exchange]

theorem frameStarts_idle (idle : (s.lane l).activity = .idle) :
    frameStarts s l = s.setLane l { s.lane l with activity := .receiving, frame := some s.time.uptime } := by
  rw [frameStarts, idle]
  rfl

theorem frameStarts_awaiting (awaiting : (s.lane l).activity = .awaiting) (none : (s.lane l).frame = none) :
    frameStarts s l = s.setLane l { s.lane l with frame := some s.time.uptime } := by
  rw [frameStarts, awaiting]
  simp [State.modLane, none]

theorem frameStarts_ignored (busy : (s.lane l).activity ∈ [Activity.off, .receiving, .held, .sending]) :
    frameStarts s l = s := by
  unfold frameStarts
  split <;> simp_all

theorem firstClock_starts {ex : Exchange} (sending : (s.lane l).activity = .sending)
    (exchange : (s.lane l).exchange = some ex) (unclocked : ex.clocked = false) :
    firstClock s l =
      s.setLane l { s.lane l with exchange := some { ex with clocked := true, limit := ⟨s.time.uptime, 3⟩ } } := by
  rw [firstClock, Lane.exchangeIn_of sending exchange]
  simp only [unclocked, Bool.false_eq_true, if_false]
  rfl

theorem byteCompletes_awaits {ex : Exchange} (sending : (s.lane l).activity = .sending)
    (exchange : (s.lane l).exchange = some ex) (clocked : ex.clocked = true) :
    byteCompletes s l =
      s.setLane l
        { s.lane l with
          activity := .awaiting
          exchange := some { ex with due := ex.command.positions, limit := ⟨s.time.uptime, 25⟩ } } := by
  rw [byteCompletes, Lane.exchangeIn_of sending exchange]
  simp only [clocked, if_true]
  rfl

end

/-- Settles O44: frames that begin, clocked command bytes, the pins and the bits. -/
theorem framesAndCommandBytesRun : Obligations.FramesAndCommandBytesRun := by
  unfold Obligations.FramesAndCommandBytesRun
  refine ⟨fun s l running => ⟨fun idle => ?_, fun awaiting none => ?_, fun busy => ?_⟩,
    fun s l ex running sending exchange => ⟨fun unclocked => ?_, fun clocked => ?_⟩, fun x => ⟨?_, ?_, ?_, ?_⟩, ?_⟩
  · exact congrArg _ ((whenRunning_running running _).trans (frameStarts_idle idle))
  · exact congrArg _ ((whenRunning_running running _).trans (frameStarts_awaiting awaiting none))
  · exact congrArg _ ((whenRunning_running running _).trans (frameStarts_ignored busy))
  · exact congrArg _ ((whenRunning_running running _).trans (firstClock_starts sending exchange unclocked))
  · have completes := byteCompletes_awaits sending exchange clocked
    have positions : ex.command.positions = match ex.command with
        | .identify => [.ack, .moduleType, .lampCount]
        | .resend => [.resent]
        | .setLamps _ _ | .scanEnable | .scanDisable | .resetModule => [.ack] := by cases ex.command <;> rfl
    rw [positions] at completes
    exact congrArg _ ((whenRunning_running running _).trans completes)
  · rintro (off | held)
    · simp [clockLine, off]
    · simp [clockLine, held]
  · rintro (idle | receiving | awaiting)
    · simp [clockLine, idle]
    · simp [clockLine, receiving]
    · simp [clockLine, awaiting]
  · exact dataLine_released
  · intro ex sending exchange
    rw [clockLine_sending sending exchange, dataLine_sending sending exchange]
    refine ⟨fun unclocked => by simp [unclocked], fun clocked => ⟨by simp [clocked], fun b byte => ?_⟩⟩
    have listed : ex.command.bytes[ex.byteIndex]? = some b := (congrArg (·[ex.byteIndex]?) ex.command.bytes_eq).trans byte
    simp [clocked, List.getD_eq_getElem?_getD, listed]
  · intro b parity stop ones
    exact ⟨⟨oddParity b, partFrame_eq b, odd_with_oddParity b⟩, frameIsGood_iff b parity stop⟩

/-! ## Exchanges that start (R104) -/

section

variable {s : State} {l : LaneId}

theorem Entry.fits_iff (e : Entry) (p : Phase) : e.fits p = true ↔
    match e.kind with
    | .probeIdentify | .enable | .disable => p = .absent ∨ p = .starting ∨ p = .mismatch
    | .identify | .rescan | .resetModule | .lamp => p = .running := by
  unfold Entry.fits Entry.isStartUp
  cases e.kind <;> cases p <;> simp

theorem Entry.command_eq (e : Entry) (desired : Half) : e.command desired =
    match e.kind with
    | .identify | .probeIdentify => .identify
    | .rescan | .enable => .scanEnable
    | .disable => .scanDisable
    | .resetModule => .resetModule
    | .lamp => .setLamps (desired.extractLsb' 0 8) (desired.extractLsb' 8 8) := by
  unfold Entry.command
  cases e.kind <;> rfl

theorem exchangeStarts_begins {e : Entry} {rest : List Entry} (list : (s.lane l).list = e :: rest)
    (idle : (s.lane l).activity = .idle) (empty : (s.lane l).slot = none) (fits : e.fits (s.lane l).phase = true) :
    exchangeStarts s l = s.setLane l ((s.lane l).begin s.time.uptime e) := by
  have startable : (s.lane l).startable = some e := by simp [Lane.startable, list, idle, empty, fits]
  rw [exchangeStarts, startable]
  rfl

theorem exchangeStarts_waits (waits : (s.lane l).startable = none) : exchangeStarts s l = s := by
  rw [exchangeStarts, waits]

theorem Lane.startable_eq_none {x : Lane} {e : Entry} {rest : List Entry} (list : x.list = e :: rest)
    (blocked : x.activity ≠ .idle ∨ x.slot ≠ none ∨ ¬e.fits x.phase = true) : x.startable = none := by
  unfold Lane.startable
  split
  · next idle empty head =>
    obtain ⟨rfl, rfl⟩ := List.cons.inj (list.symm.trans head)
    rw [if_neg ((blocked.resolve_left (not_not_intro idle)).resolve_left (not_not_intro empty))]
  · rfl

end

/-- Settles O45: the head entry that may start takes the line, any other waits. -/
theorem exchangeStartsWithTheHeadEntry : Obligations.ExchangeStartsWithTheHeadEntry := by
  unfold Obligations.ExchangeStartsWithTheHeadEntry
  intro s l e rest running list x fits command
  have fits_iff : e.fits x.phase = true ↔ fits := e.fits_iff x.phase
  have is_command : e.command x.desired = command := e.command_eq x.desired
  refine ⟨fun idle empty fit => ?_, fun blocked => ?_⟩
  · have begins := exchangeStarts_begins list idle empty (fits_iff.2 fit)
    refine congrArg _ ((whenRunning_running running _).trans (begins.trans ?_))
    have tail : x.list.drop 1 = rest := by
      show (s.lane l).list.drop 1 = rest
      rw [list]
      rfl
    simp only [Lane.begin, Lane.startExchange, Lane.take]
    rw [← is_command, ← tail]
    rfl
  · rw [← fits_iff] at blocked
    exact congrArg _ ((whenRunning_running running _).trans (exchangeStarts_waits (Lane.startable_eq_none list blocked)))

end Sys2Proof.Machine
end

section
/-! Frames outside an exchange (R83, R84, R96) and reply positions that are filled, missed or asked for again (R89 to
R93, R97): what each does to the one lane it is about. -/

namespace Sys2Proof.Machine

set_option Elab.async false

/-! ## The lane rows of the table -/

section

variable {s : State} (running : s.line = .running) (l : LaneId)

include running

theorem exec_goodFrame (b : Byte) : exec (.goodFrame l b) s = .next (settleLamps s (goodFrameEnds s l b)) :=
  congrArg _ (whenRunning_running running _)

theorem exec_badFrame : exec (.badFrame l) s = .next (settleLamps s (badFrameEnds s l)) :=
  congrArg _ (whenRunning_running running _)

theorem exec_frameLimitBreach : exec (.frameLimitBreach l) s = .next (settleLamps s (frameBreached s l)) :=
  congrArg _ (whenRunning_running running _)

theorem exec_noClock : exec (.noClock l) s = .next (settleLamps s (clockExpires s l)) :=
  congrArg _ (whenRunning_running running _)

theorem exec_txTimeout : exec (.txTimeout l) s = .next (settleLamps s (byteExpires s l)) :=
  congrArg _ (whenRunning_running running _)

theorem exec_noReply : exec (.noReply l) s = .next (settleLamps s (replyExpires s l)) :=
  congrArg _ (whenRunning_running running _)

end

/-- A happening that comes to one lane's update, its phase and desired image kept, is that update (R123). -/
theorem settleLamps_of_setLane {s t : State} {l : LaneId} {y : Lane} (is : t = s.setLane l y)
    (phase : y.phase = (s.lane l).phase) (desired : y.desired = (s.lane l).desired) :
    Host.Outcome.next (settleLamps s t) = (.next (s.setLane l y) : Host.Outcome State Fault Refusal) := by
  rw [is, settleLamps_setLane s l y phase desired]

/-! ## One lane's update -/

theorem saturate8_eq (x : Byte) : saturate8 x = if x = 255 then 255 else x + 1 := by
  unfold saturate8
  split
  · next most => exact most.trans (if_pos most).symm
  · next less => exact (if_neg less).symm

/-- A fault in the latch (R111, R112). -/
theorem recordFault_eq (s : State) (l : LaneId) (k : LaneFault) :
    recordFault s l k = s.setLane l ((s.lane l).withFault k (decide (s.delivery.state ≠ .off))) := by
  have first : (if (s.lane l).firstFault.isNone = true then some k else (s.lane l).firstFault) =
      if (s.lane l).firstFault = none then some k else (s.lane l).firstFault := by
    simp only [Option.isNone_iff_eq_none]
  rw [recordFault, modLane_eq, first, saturate8_eq, saturate8_eq]
  rfl

theorem recordFault_setLane (s : State) (l : LaneId) (x : Lane) (k : LaneFault) :
    recordFault (s.setLane l x) l k = s.setLane l (x.withFault k (decide (s.delivery.state ≠ .off))) := by
  rw [recordFault_eq, State.lane_setLane_self, setLane_setLane]
  rfl

theorem restActivity_eq (x : Lane) : restActivity x =
    match x.frame, x.slot with
    | some _, _ => .receiving
    | none, some _ => .held
    | none, none => .idle := by
  unfold restActivity
  cases x.frame <;> cases x.slot <;> rfl

theorem restActivity_idle {x : Lane} (quiet : x.frame = none) (empty : x.slot = none) : restActivity x = .idle := by
  rw [restActivity_eq, quiet, empty]

/-- The lane with the frame in progress ended. -/
def Lane.unframed (x : Lane) : Lane := { x with frame := none }

theorem Lane.endFrame_eq (x : Lane) :
    x.endFrame = { x with frame := none, activity := if x.slot.isSome then .held else .idle } := rfl

theorem Lane.endExchange_eq (x : Lane) :
    x.endExchange = { x with exchange := none, parityCount := none, activity := restActivity x } := rfl

/-! ## Bytes by class (R83) -/

theorem byteClass_ack : byteClass 0xB4 = .ack := by decide
theorem byteClass_hello : byteClass 0xB5 = .hello := by decide
theorem byteClass_resendReq : byteClass 0xBE = .resendReq := by decide
theorem byteClass_moduleError : byteClass 0xBF = .moduleError := by decide

theorem byteClass_code {b : Byte} (code : isKeyCode b ∨ b = 0xB0 ∨ b = 0xB8) :
    byteClass b = .keyCode ∨ byteClass b = .keyPrefix := by
  unfold byteClass
  by_cases key : isKeyCode b
  · exact .inl (if_pos key)
  · exact .inr ((if_neg key).trans (if_pos (code.resolve_left key)))

/-- A byte other than the four protocol bytes is an event byte or illegal. -/
theorem byteClass_event {b : Byte} (event : b ∉ [0xB4#8, 0xB5, 0xBE, 0xBF]) :
    byteClass b = .keyCode ∨ byteClass b = .keyPrefix ∨ byteClass b = .illegal := by
  simp only [List.mem_cons, List.not_mem_nil, or_false, not_or] at event
  obtain ⟨ack, hello, resendReq, moduleError⟩ := event
  unfold byteClass
  rw [if_neg (show ¬b = helloByte from hello), if_neg (show ¬b = ackByte from ack),
    if_neg (show ¬b = resendReqByte from resendReq), if_neg (show ¬b = moduleErrorByte from moduleError)]
  split
  · exact .inl rfl
  · split
    · exact .inr (.inl rfl)
    · exact .inr (.inr rfl)

section

variable {s : State} {l : LaneId} {b : Byte}

theorem receiveByte_event (event : b ∉ [0xB4#8, 0xB5, 0xBE, 0xBF]) :
    receiveByte s l b = if (s.lane l).phase = .running then slotByte s l b else s := by
  rcases byteClass_event event with is | is | is <;> rw [receiveByte, is]

theorem receiveByte_discards (protocol : b ∈ [0xB4#8, 0xBE, 0xBF]) : receiveByte s l b = s := by
  simp only [List.mem_cons, List.not_mem_nil, or_false] at protocol
  have class_b : byteClass b = .ack ∨ byteClass b = .resendReq ∨ byteClass b = .moduleError :=
    protocol.imp (congrArg byteClass) (Or.imp (congrArg byteClass) (congrArg byteClass))
  rcases class_b with is | is | is <;> rw [receiveByte, is]

theorem receiveByte_hello : receiveByte s l 0xB5 = helloTaken s l := by
  rw [receiveByte, byteClass_hello]

theorem slotByte_empty (empty : (s.lane l).slot = none) :
    slotByte s l b = s.setLane l { s.lane l with slot := some b, activity := .held } := by
  rw [slotByte, empty]
  rfl

theorem slotByte_full (full : (s.lane l).slot ≠ none) : slotByte s l b = recordFault s l .overrun := by
  obtain ⟨c, holds⟩ := Option.ne_none_iff_exists'.1 full
  rw [slotByte, holds]

/-! ## How a frame ends, by activity (R80, R83, R90) -/

theorem goodFrameEnds_disabled (receiving : (s.lane l).activity = .receiving) (disabled : (s.lane l).phase = .disabled) :
    goodFrameEnds s l b = s.setLane l { s.lane l with frame := none, activity := .off } := by
  rw [goodFrameEnds, receiving]
  exact if_pos disabled

theorem goodFrameEnds_receiving (receiving : (s.lane l).activity = .receiving) (enabled : (s.lane l).phase ≠ .disabled) :
    goodFrameEnds s l b = receiveByte (s.setLane l (s.lane l).endFrame) l b := by
  rw [goodFrameEnds, receiving]
  exact if_neg enabled

theorem goodFrameEnds_awaiting {ex : Exchange} (awaiting : (s.lane l).activity = .awaiting)
    (exchange : (s.lane l).exchange = some ex) :
    goodFrameEnds s l b = replyByte (s.setLane l (s.lane l).unframed) l ex b := by
  simp only [goodFrameEnds, awaiting, exchange]
  rfl

theorem badFrameEnds_disabled (receiving : (s.lane l).activity = .receiving) (disabled : (s.lane l).phase = .disabled) :
    badFrameEnds s l = s.setLane l { s.lane l with frame := none, activity := .off } := by
  rw [badFrameEnds, receiving]
  exact if_pos disabled

theorem badFrameEnds_receiving (receiving : (s.lane l).activity = .receiving) (enabled : (s.lane l).phase ≠ .disabled) :
    badFrameEnds s l = badFrameOutside (s.setLane l (s.lane l).endFrame) l := by
  rw [badFrameEnds, receiving]
  exact if_neg enabled

theorem badFrameEnds_awaiting {ex : Exchange} (awaiting : (s.lane l).activity = .awaiting)
    (exchange : (s.lane l).exchange = some ex) :
    badFrameEnds s l = badReplyFrame (s.setLane l (s.lane l).unframed) l ex := by
  simp only [badFrameEnds, awaiting, exchange]
  rfl

theorem badFrameOutside_absent (absent : (s.lane l).phase = .absent) : badFrameOutside s l = s := by
  simp [badFrameOutside, absent]

theorem badFrameOutside_full (enabled : (s.lane l).phase ≠ .absent) (full : (s.lane l).slot ≠ none) :
    badFrameOutside s l = recordFault s l .overrun := by
  obtain ⟨c, holds⟩ := Option.ne_none_iff_exists'.1 full
  simp [badFrameOutside, enabled, holds]

theorem badFrameOutside_asks (enabled : (s.lane l).phase ≠ .absent) (empty : (s.lane l).slot = none) :
    badFrameOutside s l =
      s.setLane l { (s.lane l).startExchange s.time.uptime .resend with parityCount := some 1 } := by
  simp [badFrameOutside, enabled, empty, State.modLane]

theorem Lane.frameOverdue_of {x : Lane} {now t : Word} (frame : x.frame = some t) (overdue : 2#32 ≤ now - t) :
    x.frameOverdue now = true := by
  rw [Lane.frameOverdue, frame]
  exact decide_eq_true overdue

theorem frameBreached_receiving (overdue : (s.lane l).frameOverdue s.time.uptime = true)
    (receiving : (s.lane l).activity = .receiving) :
    frameBreached s l =
      match (s.lane l).phase with
      | .disabled => endDisabledFrame s l
      | .absent => s.setLane l (s.lane l).endFrame
      | _ => recordFault (s.setLane l (s.lane l).endFrame) l .rxTimeout := by
  simp only [frameBreached, overdue, receiving]
  cases (s.lane l).phase <;> rfl

theorem frameBreached_awaiting (overdue : (s.lane l).frameOverdue s.time.uptime = true)
    (awaiting : (s.lane l).activity = .awaiting) :
    frameBreached s l = exchangeFails (s.setLane l (s.lane l).unframed) l .noReply := by
  simp only [frameBreached, overdue, awaiting]
  rfl

end

/-! ## Frames outside an exchange -/

theorem goodFrame_outside {s : State} {l : LaneId} (running : s.line = .running)
    (receiving : (s.lane l).activity = .receiving) {y : Lane} (b : Byte)
    (taken : (s.lane l).phase ≠ .disabled → receiveByte (s.setLane l (s.lane l).endFrame) l b = s.setLane l y)
    (enabled : (s.lane l).phase ≠ .disabled)
    (phase : y.phase = (s.lane l).phase) (desired : y.desired = (s.lane l).desired) :
    exec (.goodFrame l b) s = .next (s.setLane l y) :=
  (exec_goodFrame running l b).trans
    (settleLamps_of_setLane ((goodFrameEnds_receiving receiving enabled).trans (taken enabled)) phase desired)

/-- Settles O46: a byte, a bad frame and a breach outside an exchange, by class and phase. -/
theorem framesOutsideAnExchange : Obligations.FramesOutsideAnExchange := by
  unfold Obligations.FramesOutsideAnExchange
  refine ⟨fun s l b running receiving => ?_, fun s l running receiving => ?_⟩
  · intro x quiet
    have ended : (s.setLane l (s.lane l).endFrame).lane l = quiet := State.lane_setLane_self ..
    refine ⟨fun event run => ⟨fun empty => ?_, fun full => ?_⟩, fun event short => ?_, fun protocol enabled => ?_,
      fun disabled => ?_⟩
    · refine goodFrame_outside running receiving b (fun _ => ?_) (by rw [run]; decide) rfl rfl
      rw [receiveByte_event event, if_pos (by rw [ended]; exact run), slotByte_empty (by rw [ended]; exact empty), ended,
        setLane_setLane]
    · refine goodFrame_outside running receiving b (fun _ => ?_) (by rw [run]; decide) rfl rfl
      rw [receiveByte_event event, if_pos (by rw [ended]; exact run), slotByte_full (by rw [ended]; exact full)]
      exact recordFault_setLane s l quiet .overrun
    · have waits : quiet.phase ≠ .running := by rcases short with is | is | is <;> rw [show quiet.phase = _ from is] <;> decide
      refine goodFrame_outside running receiving b (fun _ => ?_)
        (by rcases short with is | is | is <;> rw [is] <;> decide) rfl rfl
      rw [receiveByte_event event, if_neg (by rw [ended]; exact waits)]
      rfl
    · exact goodFrame_outside running receiving b (fun _ => receiveByte_discards protocol) enabled rfl rfl
    · exact (exec_goodFrame running l b).trans
        (settleLamps_of_setLane (goodFrameEnds_disabled receiving disabled) rfl rfl)
  · intro x delivering quiet
    have ended : (s.setLane l (s.lane l).endFrame).lane l = quiet := State.lane_setLane_self ..
    refine ⟨fun enabled => ⟨fun empty => ?_, fun full => ?_, fun t frame overdue => ?_⟩,
      fun absent => ⟨?_, fun t frame overdue => ?_⟩, fun disabled => ⟨?_, fun t frame overdue => ?_⟩⟩
    · have asks := badFrameOutside_asks (s := s.setLane l (s.lane l).endFrame) (l := l)
        (by rw [ended]; rcases enabled with is | is | is <;> rw [show quiet.phase = _ from is] <;> decide)
        (by rw [ended]; exact empty)
      rw [ended, setLane_setLane] at asks
      exact (exec_badFrame running l).trans (settleLamps_of_setLane ((badFrameEnds_receiving receiving
        (by rcases enabled with is | is | is <;> rw [is] <;> decide)).trans asks) rfl rfl)
    · have overrun := badFrameOutside_full (s := s.setLane l (s.lane l).endFrame) (l := l)
        (by rw [ended]; rcases enabled with is | is | is <;> rw [show quiet.phase = _ from is] <;> decide)
        (by rw [ended]; exact full)
      exact (exec_badFrame running l).trans (settleLamps_of_setLane ((badFrameEnds_receiving receiving
        (by rcases enabled with is | is | is <;> rw [is] <;> decide)).trans
          (overrun.trans (recordFault_setLane s l quiet .overrun))) rfl rfl)
    · have breached := frameBreached_receiving (Lane.frameOverdue_of frame overdue) receiving
      refine (exec_frameLimitBreach running l).trans (settleLamps_of_setLane (breached.trans ?_) rfl rfl)
      rcases enabled with is | is | is <;> rw [show (s.lane l).phase = _ from is] <;>
        exact recordFault_setLane s l quiet .rxTimeout
    · exact (exec_badFrame running l).trans (settleLamps_of_setLane ((badFrameEnds_receiving receiving
        (by rw [absent]; decide)).trans (badFrameOutside_absent (by rw [ended]; exact absent))) rfl rfl)
    · have breached := frameBreached_receiving (Lane.frameOverdue_of frame overdue) receiving
      rw [absent] at breached
      exact (exec_frameLimitBreach running l).trans (settleLamps_of_setLane breached rfl rfl)
    · exact (exec_badFrame running l).trans (settleLamps_of_setLane (badFrameEnds_disabled receiving disabled) rfl rfl)
    · have breached := frameBreached_receiving (Lane.frameOverdue_of frame overdue) receiving
      rw [disabled] at breached
      exact (exec_frameLimitBreach running l).trans (settleLamps_of_setLane breached rfl rfl)

end Sys2Proof.Machine
end

section
/-! Reply positions that are filled, missed or asked for again, and a damaged byte recovered (R89 to R93, R97). -/

namespace Sys2Proof.Machine

set_option Elab.async false

/-! ## Filling a position and sending again -/

section

variable {s : State} {l : LaneId} {ex : Exchange} {b : Byte}

theorem fillPosition_due (p : ReplyPosition) (rest : List ReplyPosition) (m : ModuleId) :
    fillPosition s l ex (p :: rest) m =
      s.setLane l
        { s.lane l with
          exchange := some
            { ex with due := p :: rest, typeTaken := m.moduleType, limit := ⟨s.time.uptime, 25⟩ } } := rfl

theorem fillPosition_nextByte (more : ex.byteIndex + 1 < ex.command.bytes.length) (m : ModuleId) :
    fillPosition s l ex [] m =
      s.setLane l ((s.lane l).take s.time.uptime { ex with byteIndex := ex.byteIndex + 1 }) := if_pos more

theorem fillPosition_last (last : ¬ex.byteIndex + 1 < ex.command.bytes.length) (m : ModuleId) :
    fillPosition s l ex [] m = exchangeSucceeds s l m := if_neg last

theorem repeatCommand_again (early : ex.attempt < 3) :
    repeatCommand s l ex =
      s.setLane l
        ((s.lane l).take s.time.uptime { ex with attempt := ex.attempt + 1, byteIndex := 0, typeTaken := 0 }) :=
  if_pos early

theorem repeatCommand_fails (third : ¬ex.attempt < 3) : repeatCommand s l ex = exchangeFails s l .resendLimit :=
  if_neg third

/-! ## A byte by the position due (R90, R97) -/

theorem replyByte_ack {rest : List ReplyPosition} (due : ex.due = .ack :: rest) :
    replyByte s l ex b = ackReply s l ex rest b := by
  rw [replyByte, due]

theorem replyByte_type {rest : List ReplyPosition} (due : ex.due = .moduleType :: rest) :
    replyByte s l ex b =
      if 0x01#8 ≤ b ∧ b ≤ 0x7F#8 then fillPosition s l ex rest ⟨b, 0⟩
      else if b = 0xB5 then helloEnds s l else exchangeFails s l .badReply := by
  rw [replyByte, due]
  rfl

theorem replyByte_count {rest : List ReplyPosition} (due : ex.due = .lampCount :: rest) :
    replyByte s l ex b =
      if b ≤ 0x10#8 then fillPosition s l ex rest ⟨ex.typeTaken, b⟩
      else if b = 0xB5 then helloEnds s l else exchangeFails s l .badReply := by
  rw [replyByte, due]
  rfl

theorem replyByte_resent {rest : List ReplyPosition} (due : ex.due = .resent :: rest) :
    replyByte s l ex b =
      if b = 0xBE then repeatCommand s l ex
      else if b = 0xBF then exchangeFails s l .moduleError else resendDelivers s l b := by
  rw [replyByte, due]
  rfl

theorem ackReply_ack {rest : List ReplyPosition} (ack : byteClass b = .ack) :
    ackReply s l ex rest b = fillPosition s l ex rest ⟨ex.typeTaken, 0⟩ := by
  rw [ackReply, ack]

theorem ackReply_resendReq {rest : List ReplyPosition} (asked : byteClass b = .resendReq) :
    ackReply s l ex rest b = repeatCommand s l ex := by
  rw [ackReply, asked]

theorem ackReply_moduleError {rest : List ReplyPosition} (error : byteClass b = .moduleError) :
    ackReply s l ex rest b = exchangeFails s l .moduleError := by
  rw [ackReply, error]

theorem ackReply_hello {rest : List ReplyPosition} (hello : byteClass b = .hello) :
    ackReply s l ex rest b = helloEnds s l := by
  rw [ackReply, hello]

theorem ackReply_illegal {rest : List ReplyPosition} (illegal : byteClass b = .illegal) :
    ackReply s l ex rest b = exchangeFails s l .badReply := by
  rw [ackReply, illegal]

theorem ackReply_code {rest : List ReplyPosition} (code : byteClass b = .keyCode ∨ byteClass b = .keyPrefix) :
    ackReply s l ex rest b = strayByte s l b := by
  rcases code with is | is <;> rw [ackReply, is]

theorem strayByte_kept (run : (s.lane l).phase = .running) (empty : (s.lane l).slot = none) :
    strayByte s l b = s.setLane l { s.lane l with slot := some b } := by
  rw [strayByte, if_pos run, empty]
  rfl

theorem strayByte_full (run : (s.lane l).phase = .running) (full : (s.lane l).slot ≠ none) :
    strayByte s l b = exchangeFails s l .badReply := by
  obtain ⟨c, holds⟩ := Option.ne_none_iff_exists'.1 full
  simp only [strayByte, run, if_true, holds]

theorem strayByte_discarded (short : (s.lane l).phase ≠ .running) : strayByte s l b = s := if_neg short

theorem badReplyFrame_resent {rest : List ReplyPosition} (due : ex.due = .resent :: rest) :
    badReplyFrame s l ex = resendBad s l := by
  rw [badReplyFrame, due]

theorem badReplyFrame_repeats {p : ReplyPosition} {rest : List ReplyPosition} (due : ex.due = p :: rest)
    (other : p ≠ .resent) : badReplyFrame s l ex = repeatCommand s l ex := by
  rw [badReplyFrame, due]
  cases p with
  | resent => exact absurd rfl other
  | ack | moduleType | lampCount => rfl

theorem resendBad_again (early : (s.lane l).parityCount.getD 0 + 1 < 3) :
    resendBad s l =
      s.setLane l
        { ({ s.lane l with failures := 0 } : Lane).startExchange s.time.uptime .resend with
          parityCount := some ((s.lane l).parityCount.getD 0 + 1) } := by
  rw [resendBad]
  dsimp only
  rw [if_pos early, modLane_eq s l, modLane_setLane]
  rfl

theorem resendBad_lost (third : ¬(s.lane l).parityCount.getD 0 + 1 < 3) :
    resendBad s l = recordFault (s.setLane l ({ s.lane l with failures := 0 } : Lane).endExchange) l .parity := by
  rw [resendBad]
  dsimp only
  rw [if_neg third, modLane_eq s l, modLane_setLane]

/-! ## Frames in a reply position -/

variable {x : Lane} {p : ReplyPosition} {rest : List ReplyPosition}

theorem goodFrameEnds_awaits (awaits : Awaits (s.lane l) ex p rest) :
    goodFrameEnds s l b = replyByte (s.setLane l (s.lane l).unframed) l ex b :=
  goodFrameEnds_awaiting awaits.awaiting awaits.exchange

theorem badFrameEnds_awaits (awaits : Awaits (s.lane l) ex p rest) :
    badFrameEnds s l = badReplyFrame (s.setLane l (s.lane l).unframed) l ex :=
  badFrameEnds_awaiting awaits.awaiting awaits.exchange

/-- A good frame that fills or misses a position without an outcome is an update of its lane. -/
theorem goodFrame_awaits (running : s.line = .running) (awaits : Awaits (s.lane l) ex p rest) {y : Lane}
    (taken : replyByte (s.setLane l (s.lane l).unframed) l ex b = s.setLane l y)
    (phase : y.phase = (s.lane l).phase) (desired : y.desired = (s.lane l).desired) :
    exec (.goodFrame l b) s = .next (s.setLane l y) :=
  (exec_goodFrame running l b).trans (settleLamps_of_setLane ((goodFrameEnds_awaits awaits).trans taken) phase desired)

theorem badFrame_awaits (running : s.line = .running) (awaits : Awaits (s.lane l) ex p rest) {y : Lane}
    (taken : badReplyFrame (s.setLane l (s.lane l).unframed) l ex = s.setLane l y)
    (phase : y.phase = (s.lane l).phase) (desired : y.desired = (s.lane l).desired) :
    exec (.badFrame l) s = .next (s.setLane l y) :=
  (exec_badFrame running l).trans (settleLamps_of_setLane ((badFrameEnds_awaits awaits).trans taken) phase desired)

end

/-! ## A byte that a RESEND exchange recovers (R97) -/

section

variable {s : State} {l : LaneId} {b : Byte}

theorem resendDelivers_setLane (x : Lane) :
    resendDelivers (s.setLane l x) l b = receiveByte (s.setLane l { x.endExchange with failures := 0 }) l b := by
  rw [resendDelivers, modLane_setLane]

end

/-- Settles O47: positions filled, commands sent again, and the three ends of a RESEND exchange. -/
theorem repliesAreTakenOrAskedAgain : Obligations.RepliesAreTakenOrAskedAgain := by
  unfold Obligations.RepliesAreTakenOrAskedAgain
  refine ⟨fun s l ex running => ?_, fun s l c ex p rest running awaits early row => ?_,
    fun s l ex rest n running awaits counted empty => ?_⟩
  · intro x
    have unframed : (s.setLane l x.unframed).lane l = x.unframed := State.lane_setLane_self ..
    refine ⟨fun rest awaits => ?_, fun b rest awaits least most => ?_, fun low high awaits command index => ?_,
      fun b rest awaits code => ⟨fun run empty => ?_, fun short => ?_⟩⟩
    · refine goodFrame_awaits running awaits ?_ rfl rfl
      rw [replyByte_ack awaits.due, ackReply_ack byteClass_ack, fillPosition_due, unframed, setLane_setLane]
      rfl
    · refine goodFrame_awaits running awaits ?_ rfl rfl
      rw [replyByte_type awaits.due, if_pos ⟨least, most⟩, fillPosition_due, unframed, setLane_setLane]
      rfl
    · have more : ex.byteIndex + 1 < ex.command.bytes.length := by
        rw [command]
        show ex.byteIndex + 1 < 3
        omega
      refine goodFrame_awaits running awaits ?_ rfl rfl
      rw [replyByte_ack awaits.due, ackReply_ack byteClass_ack, fillPosition_nextByte more, unframed, setLane_setLane]
      rfl
    · refine goodFrame_awaits running awaits ?_ rfl rfl
      rw [replyByte_ack awaits.due, ackReply_code (byteClass_code code),
        strayByte_kept (by rw [unframed]; exact run) (by rw [unframed]; exact empty), unframed, setLane_setLane]
      rfl
    · refine goodFrame_awaits running awaits ?_ rfl rfl
      rw [replyByte_ack awaits.due, ackReply_code (byteClass_code code),
        strayByte_discarded (by rw [unframed]; exact short)]
      rfl
  · have again := repeatCommand_again (s := s.setLane l (s.lane l).unframed) (l := l) early
    rw [State.lane_setLane_self, setLane_setLane] at again
    rcases row with ⟨rfl, other⟩ | ⟨rfl, rfl | rfl⟩
    · exact badFrame_awaits running awaits ((badReplyFrame_repeats awaits.due other).trans again) rfl rfl
    · refine goodFrame_awaits running awaits (Eq.trans ?_ again) rfl rfl
      rw [replyByte_ack awaits.due, ackReply_resendReq byteClass_resendReq]
    · refine goodFrame_awaits running awaits (Eq.trans ?_ again) rfl rfl
      rw [replyByte_resent awaits.due, if_pos rfl]
  · intro x done
    have unframed : (s.setLane l x.unframed).lane l = x.unframed := State.lane_setLane_self ..
    have count : x.unframed.parityCount.getD 0 = n := by
      show (s.lane l).parityCount.getD 0 = n
      rw [counted]
      rfl
    have ended : { x.unframed.endExchange with failures := 0 } = done := by
      exact congrArg
        (fun a => ({ x.unframed with exchange := none, parityCount := none, activity := a, failures := 0 } : Lane))
        (restActivity_idle (x := x.unframed) rfl empty)
    have delivers (b : Byte) (event : b ∉ [0xB4#8, 0xB5, 0xBE, 0xBF]) :
        replyByte (s.setLane l x.unframed) l ex b = receiveByte (s.setLane l done) l b := by
      have other : b ≠ 0xBE ∧ b ≠ 0xBF := by
        simp only [List.mem_cons, not_or] at event
        exact ⟨event.2.2.1, event.2.2.2.1⟩
      rw [replyByte_resent awaits.due, if_neg other.1, if_neg other.2, resendDelivers_setLane, ended]
    refine ⟨fun one => ?_, fun two => ?_, fun b event run => ?_, fun b event short => ?_⟩
    · refine badFrame_awaits running awaits ?_ rfl rfl
      rw [badReplyFrame_resent awaits.due, resendBad_again (by rw [unframed, count, one]; decide), unframed, count,
        setLane_setLane, one]
      rfl
    · refine badFrame_awaits running awaits ?_ rfl rfl
      rw [badReplyFrame_resent awaits.due, resendBad_lost (by rw [unframed, count, two]; decide), unframed,
        setLane_setLane, recordFault_setLane]
      exact congrArg (fun y : Lane => s.setLane l (y.withFault .parity (decide (s.delivery.state ≠ .off)))) ended
    · refine goodFrame_awaits running awaits ?_ rfl rfl
      rw [delivers b event, receiveByte_event event, State.lane_setLane_self, if_pos run,
        slotByte_empty (by rw [State.lane_setLane_self]; exact empty), State.lane_setLane_self, setLane_setLane]
    · have waits : done.phase ≠ .running := by
        rcases short with is | is <;> rw [show done.phase = _ from is] <;> decide
      refine goodFrame_awaits running awaits ?_ rfl rfl
      rw [delivers b event, receiveByte_event event, State.lane_setLane_self, if_neg waits]

end Sys2Proof.Machine
end

section
/-! The end of an exchange that fails (R94, R109, R117, R126): the lane it leaves and the requests it ends. -/

namespace Sys2Proof.Machine

set_option Elab.async false

/-! ## Completions beside an update of one lane -/

theorem complete_setLane (s : State) (l : LaneId) (x : Lane) (i : SlotId) (r : Reply) :
    complete (s.setLane l x) i r = (complete s i r).setLane l x := by
  have elsewhere := complete_elsewhere s s.translator (s.lanes.set l x) i r
  obtain ⟨requests, link, same⟩ := complete_frame s i r
  rw [same] at elsewhere ⊢
  exact elsewhere

theorem completeAll_setLane (s : State) (l : LaneId) (x : Lane) (is : List SlotId) (r : Reply) :
    completeAll (s.setLane l x) is r = (completeAll s is r).setLane l x := by
  induction is generalizing s with
  | nil => rfl
  | cons i is ih => rw [completeAll_cons, completeAll_cons, complete_setLane, ih]

/-- A lane that does not enter RUNNING and keeps its desired image has no lamps to settle (R123). -/
theorem settleLane_self {before x : Lane} (stays : x.phase = .running → before.phase = .running)
    (desired : x.desired = before.desired) : settleLane before x = x := by
  have started : ¬(before.phase ≠ .running ∧ x.phase = .running) := fun ⟨short, run⟩ => short (stays run)
  rw [settleLane, if_neg started, if_pos desired]

/-- A lane's own update beside completions settles nothing where the lane does not enter RUNNING (R123). -/
theorem settleLamps_of_lanes {s t : State} {l : LaneId} {y : Lane} (lanes : t.lanes = (s.setLane l y).lanes)
    (stays : y.phase = .running → (s.lane l).phase = .running) (desired : y.desired = (s.lane l).desired) :
    settleLamps s t = t := by
  have lane (k : LaneId) : t.lane k = (s.setLane l y).lane k := by rw [State.lane, State.lane, lanes]
  have kept : (settleLamps s t).lanes = t.lanes := by
    refine State.lanes_ext fun k => ?_
    show (settleLamps s t).lane k = t.lane k
    rw [lane_settleLamps, lane, State.lane_setLane]
    split
    · next same => exact same ▸ settleLane_self stays desired
    · exact settleLane_self id rfl
  show { t with lanes := (settleLamps s t).lanes } = t
  rw [kept]

theorem settled_setLane {s : State} {l : LaneId} {y : Lane}
    (stays : y.phase = .running → (s.lane l).phase = .running) (desired : y.desired = (s.lane l).desired) :
    Host.Outcome.next (settleLamps s (s.setLane l y)) = (.next (s.setLane l y) : Host.Outcome State Fault Refusal) :=
  congrArg _ (settleLamps_of_lanes rfl stays desired)

theorem settled_completeAll {s : State} {l : LaneId} {y : Lane} (is : List SlotId) (r : Reply)
    (stays : y.phase = .running → (s.lane l).phase = .running) (desired : y.desired = (s.lane l).desired) :
    Host.Outcome.next (settleLamps s (completeAll (s.setLane l y) is r)) =
      (.next (completeAll (s.setLane l y) is r) : Host.Outcome State Fault Refusal) :=
  congrArg _ (settleLamps_of_lanes (completeAll_lanes ..) stays desired)

/-! ## Entering a phase (R100, R105, R107) -/

/-- The lane that enters ABSENT, STARTING or MISMATCH with a start-up entry queued (R100, R103, R109, R112). -/
def Lane.entering (x : Lane) (p : Phase) (step : Option StartStep) (k : EntryKind) (delivering : Bool) : Lane :=
  { x with
    phase := p, startStep := step, failures := 0, probeDue := none, helloDeadline := none
    list := [⟨k, none⟩], statusWanted := x.statusWanted || delivering }

/-- A phase short of RUNNING keeps start-up entries alone, and a start-up entry that is queued replaces them. -/
theorem filter_fits_startUp (list : List Entry) {p : Phase} (short : p = .absent ∨ p = .starting ∨ p = .mismatch) :
    (list.filter (·.fits p)).filter (fun e => !e.isStartUp) = [] := by
  have fits (e : Entry) : e.fits p = e.isStartUp := by rcases short with rfl | rfl | rfl <;> rfl
  rw [List.filter_filter, List.filter_eq_nil_iff]
  simp [fits]

section

variable (s : State) (l : LaneId) (x : Lane)

theorem queueStartUp_changePhase {p : Phase} (short : p = .absent ∨ p = .starting ∨ p = .mismatch)
    (step : Option StartStep) (k : EntryKind) :
    queueStartUp (changePhase (s.setLane l x) l p step) l k = s.setLane l (x.entering p step k s.delivering) := by
  rw [changePhase, modLane_setLane, queueStartUp, modLane_setLane]
  dsimp only
  rw [filter_fits_startUp x.list short]
  rfl

theorem enterMismatch_setLane :
    enterMismatch (s.setLane l x) l = s.setLane l (x.entering .mismatch none .disable s.delivering) :=
  queueStartUp_changePhase s l x (.inr (.inr rfl)) none .disable

theorem enterAbsent_setLane :
    enterAbsent (s.setLane l x) l =
      s.setLane l { x.entering .absent none .probeIdentify s.delivering with known := none } := by
  rw [enterAbsent, changePhase, modLane_setLane, setKnown, modLane_setLane, queueStartUp, modLane_setLane]
  dsimp only
  rw [filter_fits_startUp x.list (.inl rfl)]
  rfl

end

/-! ## The lane and the requests of an exchange that failed in RUNNING (R109, R117, R126) -/

theorem Lane.ended_eq (x : Lane) : { x.endExchange with inProgress := none } = x.ended :=
  congrArg (fun a => ({ x with exchange := none, parityCount := none, activity := a, inProgress := none } : Lane))
    (restActivity_eq x)

/-- The entry in progress is a LAMP. -/
def Lane.carriesLamp (x : Lane) : Bool := decide (x.inProgress.map (·.kind) = some .lamp)

/-- The requests that a failed exchange ends (R117, R126). -/
def Lane.failedWork (x : Lane) : List SlotId :=
  if x.carriesLamp then x.waiters.map (·.slot) else (x.inProgress.bind (·.request)).toList

/-- The lane after a failure in RUNNING, before a LAMP entry is queued again or the module is lost. -/
def Lane.failed (x : Lane) (k : LaneFault) (delivering : Bool) : Lane :=
  { x.ended.withFault k delivering with
    failures := x.failuresAfter k
    waiters := if x.carriesLamp then [] else x.waiters
    sent := if x.carriesLamp then none else x.sent }

theorem replyOfFailure_eq (k : LaneFault) : failureReply k = replyOfFailure k := by
  cases k <;> rfl

theorem countFailure_setLane (s : State) (l : LaneId) (x : Lane) (k : LaneFault) :
    countFailure (s.setLane l x) l k = s.setLane l { x with failures := x.failuresAfter k } := by
  unfold countFailure Lane.failuresAfter
  split
  · rfl
  · rw [modLane_setLane]

theorem completeOpt_eq (s : State) (i : Option SlotId) (r : Reply) : completeOpt s i r = completeAll s i.toList r := by
  cases i <;> rfl

/-- The entry in progress ends with a failure (R117, R126). -/
theorem failEntry_setLane (s : State) (l : LaneId) (x y : Lane) (waiters : y.waiters = x.waiters) (k : LaneFault) :
    failEntry (s.setLane l y) l x.inProgress k =
      (completeAll s x.failedWork (replyOfFailure k)).setLane l
        { y with
          waiters := if x.carriesLamp then [] else y.waiters
          sent := if x.carriesLamp then none else y.sent } := by
  rw [← replyOfFailure_eq]
  rcases entry : x.inProgress with _ | ⟨kind, request⟩
  · simp [failEntry, Lane.failedWork, Lane.carriesLamp, entry, completeAll]
  · by_cases lamp : kind = .lamp
    · subst lamp
      have carries : x.carriesLamp = true := by simp [Lane.carriesLamp, entry]
      simp only [failEntry, State.lane_setLane_self, completeAll_setLane, modLane_setLane, Lane.failedWork, carries,
        if_true, waiters]
    · have carries : x.carriesLamp = false := by simp [Lane.carriesLamp, entry, lamp]
      have ends : failEntry (s.setLane l y) l (some ⟨kind, request⟩) k =
          completeOpt (s.setLane l y) request (failureReply k) := by
        cases kind with
        | lamp => exact absurd rfl lamp
        | identify | rescan | resetModule | probeIdentify | enable | disable => rfl
      rw [ends, completeOpt_eq, completeAll_setLane]
      simp [Lane.failedWork, carries, entry]

theorem exchangeFails_running {s : State} {l : LaneId} {x : Lane} (run : x.phase = .running) (k : LaneFault) :
    exchangeFails (s.setLane l x) l k =
      let t := (completeAll s x.failedWork (replyOfFailure k)).setLane l (x.failed k s.delivering)
      if 3 ≤ x.failuresAfter k then loseModule t l
      else if x.carriesLamp then t.setLane l (x.failed k s.delivering).queueLamp else t := by
  have counted : countFailure (recordFault (s.setLane l x.ended) l k) l k =
      s.setLane l { x.ended.withFault k s.delivering with failures := x.failuresAfter k } := by
    rw [recordFault_setLane, countFailure_setLane]
    rfl
  have ended := failEntry_setLane s l x { x.ended.withFault k s.delivering with failures := x.failuresAfter k } rfl k
  rw [exchangeFails]
  simp only [State.lane_setLane_self, setLane_setLane, run, Lane.ended_eq, counted, ended]
  refine if_congr Iff.rfl rfl ?_
  rcases entry : x.inProgress with _ | ⟨kind, request⟩
  · have carries : x.carriesLamp = false := by simp [Lane.carriesLamp, entry]
    simp only [requeueLamp, carries, Bool.false_eq_true, if_false]
    simp [Lane.failed, carries]
    rfl
  · by_cases lamp : kind = .lamp
    · subst lamp
      have carries : x.carriesLamp = true := by simp [Lane.carriesLamp, entry]
      simp only [requeueLamp, carries, if_true, modLane_setLane]
      simp [Lane.failed, carries]
    · have carries : x.carriesLamp = false := by simp [Lane.carriesLamp, entry, lamp]
      have requeues (t : State) : requeueLamp t l (some ⟨kind, request⟩) = t := by
        cases kind with
        | lamp => exact absurd rfl lamp
        | identify | rescan | resetModule | probeIdentify | enable | disable => rfl
      rw [requeues]
      simp [Lane.failed, carries]
      rfl

theorem exchangeFails_startingUp {s : State} {l : LaneId} {x : Lane} (short : x.phase = .starting ∨ x.phase = .mismatch)
    (k : LaneFault) :
    exchangeFails (s.setLane l x) l k =
      s.setLane l { (x.ended.withFault k s.delivering).entering .absent none .probeIdentify s.delivering with
        known := none } := by
  have ends : exchangeFails (s.setLane l x) l k = enterAbsent (recordFault (s.setLane l x.ended) l k) l := by
    rw [exchangeFails]
    rcases short with is | is <;> simp only [State.lane_setLane_self, setLane_setLane, is, Lane.ended_eq]
  rw [ends, recordFault_setLane, enterAbsent_setLane]
  rfl

theorem exchangeFails_absent {s : State} {l : LaneId} {x : Lane} (absent : x.phase = .absent) (k : LaneFault) :
    exchangeFails (s.setLane l x) l k = s.setLane l { x.ended with probeDue := some ⟨s.time.uptime, 500⟩ } := by
  rw [exchangeFails]
  simp only [State.lane_setLane_self, setLane_setLane, absent, Lane.ended_eq, modLane_setLane]
  rfl

/-! ## The commands that make an exchange fail -/

theorem byteClass_illegal {b : Byte}
    (illegal : b ∈ [0x00#8, 0xB1, 0xB2, 0xB3, 0xB6, 0xB7, 0xB9, 0xBA, 0xBB, 0xBC, 0xBD] ∨ 0xC0#8 ≤ b) :
    byteClass b = .illegal := by
  have outside : ¬isKeyCode b ∧ ¬(b = extByte ∨ b = relByte) ∧ b ≠ helloByte ∧ b ≠ ackByte ∧ b ≠ resendReqByte ∧
      b ≠ moduleErrorByte := by
    simp only [List.mem_cons, List.not_mem_nil, or_false] at illegal
    simp only [isKeyCode, extByte, relByte, helloByte, ackByte, resendReqByte, moduleErrorByte]
    refine ⟨?_, ?_, ?_, ?_, ?_, ?_⟩ <;> bv_omega
  obtain ⟨key, mark, hello, ack, resendReq, moduleError⟩ := outside
  rw [byteClass, if_neg key, if_neg mark, if_neg hello, if_neg ack, if_neg resendReq, if_neg moduleError]

section

variable {s : State} {l : LaneId} {c : Instr} {k : LaneFault} {x : Lane}

theorem setLane_lane_self (s : State) (l : LaneId) : s.setLane l (s.lane l) = s := setLane_self s l

/-- A command that makes the exchange of lane `l` fail comes to `exchangeFails` on the lane as it stands then. -/
theorem FailsNow.exec (fails : FailsNow s l c k x) (running : s.line = .running) :
    exec c s = .next (settleLamps s (exchangeFails (s.setLane l x) l k)) := by
  have good {b : Byte} {ex : Exchange} {p : ReplyPosition} {rest : List ReplyPosition}
      (awaits : Awaits (s.lane l) ex p rest)
      (reply : replyByte (s.setLane l (s.lane l).unframed) l ex b =
        exchangeFails (s.setLane l (s.lane l).unframed) l k) :
      Machine.exec (.goodFrame l b) s = .next (settleLamps s (exchangeFails (s.setLane l (s.lane l).unframed) l k)) := by
    rw [exec_goodFrame running, goodFrameEnds_awaits awaits, reply]
  cases fails with
  | noClock ex sending exchange unclocked reached =>
    rw [exec_noClock running, clockExpires, Lane.exchangeIn_of sending exchange, setLane_self]
    simp [unclocked, reached]
  | txTimeout ex sending exchange clocked reached =>
    rw [exec_txTimeout running, byteExpires, Lane.exchangeIn_of sending exchange, setLane_self]
    simp [clocked, reached]
  | noReply ex awaiting exchange reached =>
    rw [exec_noReply running, replyExpires, Lane.exchangeIn_of awaiting exchange, setLane_self]
    simp [reached]
  | breach t awaiting frame overdue =>
    rw [exec_frameLimitBreach running, frameBreached_awaiting (Lane.frameOverdue_of frame overdue) awaiting]
    rfl
  | moduleError ex p rest awaits position =>
    refine good awaits ?_
    rcases position with rfl | rfl
    · rw [replyByte_ack awaits.due, ackReply_moduleError byteClass_moduleError]
    · rw [replyByte_resent awaits.due, if_neg (by decide), if_pos rfl]
  | illegal ex rest b awaits illegal =>
    exact good awaits (by rw [replyByte_ack awaits.due, ackReply_illegal (byteClass_illegal illegal)])
  | badType ex rest b awaits outside other =>
    refine good awaits ?_
    rw [replyByte_type awaits.due, if_neg (by rintro ⟨least, most⟩; rcases outside with rfl | above <;> bv_omega),
      if_neg other]
  | badCount ex rest b awaits above other =>
    refine good awaits ?_
    rw [replyByte_count awaits.due, if_neg (by bv_omega), if_neg other]
  | stray ex rest b awaits run full code =>
    refine good awaits ?_
    rw [replyByte_ack awaits.due, ackReply_code (byteClass_code code),
      strayByte_full (by rw [State.lane_setLane_self]; exact run)
        (by rw [State.lane_setLane_self]; exact Option.isSome_iff_ne_none.1 full)]
  | badThird ex p rest awaits other third =>
    rw [exec_badFrame running, badFrameEnds_awaits awaits, badReplyFrame_repeats awaits.due other,
      repeatCommand_fails (by omega)]
    rfl
  | askedThird ex p rest awaits position third =>
    refine good awaits ?_
    rcases position with rfl | rfl
    · rw [replyByte_ack awaits.due, ackReply_resendReq byteClass_resendReq, repeatCommand_fails (by omega)]
    · rw [replyByte_resent awaits.due, if_pos rfl, repeatCommand_fails (by omega)]

theorem FailsNow.phase (fails : FailsNow s l c k x) : x.phase = (s.lane l).phase := by
  cases fails <;> rfl

theorem FailsNow.desired (fails : FailsNow s l c k x) : x.desired = (s.lane l).desired := by
  cases fails <;> rfl

end

theorem Lane.failed_of_other {x : Lane} (carries : x.carriesLamp = false) (k : LaneFault) (delivering : Bool) :
    x.failed k delivering = { x.ended.withFault k delivering with failures := x.failuresAfter k } := by
  simp only [Lane.failed, carries, Bool.false_eq_true, if_false]
  rfl

theorem Lane.failed_of_lamp {x : Lane} (carries : x.carriesLamp = true) (k : LaneFault) (delivering : Bool) :
    x.failed k delivering =
      { x.ended.withFault k delivering with failures := x.failuresAfter k, waiters := [], sent := none } := by
  simp only [Lane.failed, carries, if_true]

theorem Lane.queueLamp_running {x : Lane} (run : x.phase = .running) :
    x.queueLamp =
      { x with list := if (∃ e ∈ x.list, e.kind = .lamp) then x.list else x.list ++ [⟨.lamp, none⟩] } := by
  rw [Lane.queueLamp_eq]
  simp only [run, ne_eq, not_true_eq_false, false_or]

/-- Settles O48: a failure short of the third in RUNNING, and one in STARTING, MISMATCH or ABSENT. -/
theorem failuresAreCountedOrGoToAbsent : Obligations.FailuresAreCountedOrGoToAbsent := by
  unfold Obligations.FailuresAreCountedOrGoToAbsent
  refine ⟨fun s l c k x running fails run few => ?_, fun s l c k x running fails laws => ⟨fun short => ?_, fun absent => ?_⟩⟩
  · intro y
    have fails_to := fails.exec running
    rw [exchangeFails_running run, if_neg (by omega)] at fails_to
    have other (carries : x.carriesLamp = false) :
        Machine.exec c s = .next ((completeAll s x.failedWork (replyOfFailure k)).setLane l y) := by
      have failed : x.failed k s.delivering = y := Lane.failed_of_other carries ..
      rw [fails_to, if_neg (by simp [carries]), failed, ← completeAll_setLane]
      exact settled_completeAll _ _ (fun run => fails.phase ▸ run) fails.desired
    refine ⟨fun none => ?_, fun e entry kind internal => ?_, fun e i entry kind request => ?_, fun e entry kind => ?_⟩
    · have carries : x.carriesLamp = false := by simp [Lane.carriesLamp, none]
      rw [other carries]
      simp [Lane.failedWork, carries, none, completeAll]
    · have carries : x.carriesLamp = false := by simp [Lane.carriesLamp, entry, kind]
      rw [other carries]
      simp [Lane.failedWork, carries, entry, internal, completeAll]
    · have carries : x.carriesLamp = false := by simp [Lane.carriesLamp, entry, kind]
      rw [other carries, ← completeAll_setLane]
      simp [Lane.failedWork, carries, entry, request, completeAll]
    · have carries : x.carriesLamp = true := by simp [Lane.carriesLamp, entry, kind]
      have queued : (x.failed k s.delivering).queueLamp =
          { y with
            waiters := []
            sent := none
            list := if (∃ e ∈ x.list, e.kind = .lamp) then x.list else x.list ++ [⟨.lamp, none⟩] } := by
        rw [Lane.failed_of_lamp carries]
        exact Lane.queueLamp_running (x := { x.ended.withFault k s.delivering with
          failures := x.failuresAfter k, waiters := [], sent := none }) run
      have work : x.failedWork = x.waiters.map (·.slot) := if_pos carries
      rw [fails_to, if_pos carries, setLane_setLane, queued, ← completeAll_setLane, work]
      exact settled_completeAll _ _ (fun run => fails.phase ▸ run) fails.desired
  · have fails_to := fails.exec running
    rw [exchangeFails_startingUp short] at fails_to
    have wanted : ((x.statusWanted || s.delivering) || s.delivering) = (x.statusWanted || s.delivering) := by
      rw [Bool.or_assoc, Bool.or_self]
    have lane : { (x.ended.withFault k s.delivering).entering .absent none .probeIdentify s.delivering with
          known := none } =
        ({ x.ended.withFault k s.delivering with
            phase := .absent, startStep := none, known := none, failures := 0, probeDue := none
            helloDeadline := none, list := [⟨.probeIdentify, none⟩] } : Lane) :=
      congrArg (fun w => ({ x.ended.withFault k s.delivering with
        phase := .absent, startStep := none, known := none, failures := 0, probeDue := none
        helloDeadline := none, list := [⟨.probeIdentify, none⟩], statusWanted := w } : Lane)) wanted
    rw [lane] at fails_to
    exact fails_to.trans (settled_setLane nofun fails.desired)
  · have fails_to := fails.exec running
    rw [exchangeFails_absent absent] at fails_to
    exact fails_to.trans (settleLamps_of_setLane rfl fails.phase fails.desired)

end Sys2Proof.Machine
end

section
/-! The end of an exchange that succeeds on a lane that stays where it is (R105, R107, R108, R116, R117, R125, R131), and
the lane's own deadlines (R105, R118). -/

namespace Sys2Proof.Machine

set_option Elab.async false

/-! ## The last reply position -/

section

variable {s : State} {l : LaneId} {ex : Exchange} {e : Entry}

/-- An entry other than a LAMP is carried out by a command of one byte (R85, R124). -/
theorem LaneLaws.lastByte {x : Lane} (laws : LaneLaws x) (exchange : x.exchange = some ex)
    (entry : x.inProgress = some e) (kind : e.kind ≠ .lamp) : ¬ex.byteIndex + 1 < ex.command.bytes.length := by
  have inExchange := laws.inExchange ex exchange
  have unsent : x.sent = none := by
    rw [← Option.not_isSome_iff_eq_none, laws.sent]
    rintro ⟨o, is, lamp⟩
    cases entry.symm.trans is
    exact kind lamp
  have carried := inExchange.command e entry
  simp only [Entry.carriedBy, unsent] at carried
  have oneByte : ex.command.bytes.length = 1 := by
    rw [carried.2, Entry.command]
    revert kind
    cases e.kind <;> simp [ModuleCommand.bytes]
  omega

/-- ACK in the last position ends the exchange (R90, R93). -/
theorem exec_lastAck (running : s.line = .running) (awaits : Awaits (s.lane l) ex .ack [])
    (last : ¬ex.byteIndex + 1 < ex.command.bytes.length) :
    exec (.goodFrame l 0xB4) s =
      .next (settleLamps s (exchangeSucceeds (s.setLane l (s.lane l).unframed) l ⟨ex.typeTaken, 0⟩)) := by
  rw [exec_goodFrame running, goodFrameEnds_awaits awaits, replyByte_ack awaits.due, ackReply_ack byteClass_ack,
    fillPosition_last last]

/-- A lamp count in the last position ends an IDENTIFY (R90, R93). -/
theorem exec_lastCount (running : s.line = .running) (awaits : Awaits (s.lane l) ex .lampCount [])
    (last : ¬ex.byteIndex + 1 < ex.command.bytes.length) {n : Byte} (count : n ≤ 0x10#8) :
    exec (.goodFrame l n) s =
      .next (settleLamps s (exchangeSucceeds (s.setLane l (s.lane l).unframed) l ⟨ex.typeTaken, n⟩)) := by
  rw [exec_goodFrame running, goodFrameEnds_awaits awaits, replyByte_count awaits.due, if_pos count,
    fillPosition_last last]

end

/-! ## Success by the entry carried (R109) -/

/-- The lane after a success, before what the entry itself brings (R94, R109). -/
def Lane.succeeded (x : Lane) : Lane := { x.ended with failures := 0 }

section

variable {s : State} {l : LaneId} {x : Lane} {m : ModuleId}

theorem Lane.succeeded_eq (x : Lane) : { x.endExchange with inProgress := none, failures := 0 } = x.succeeded :=
  congrArg (fun y : Lane => { y with failures := 0 }) x.ended_eq

/-- A successful exchange by the kind of its entry. -/
theorem exchangeSucceeds_of {e : Entry} (entry : x.inProgress = some e) : exchangeSucceeds (s.setLane l x) l m =
    match e.kind with
    | .identify =>
      hostIdentified (completeOpt (s.setLane l x.succeeded) e.request ⟨.ok, [m.moduleType, m.lampCount]⟩) l m
    | .rescan => completeOpt (s.setLane l x.succeeded) e.request (bare .ok)
    | .resetModule => resetSucceeds (completeOpt (s.setLane l x.succeeded) e.request (bare .ok)) l
    | .lamp => lampSucceeds (s.setLane l x.succeeded) l
    | .probeIdentify => checkIdentified (setKnown (s.setLane l x.succeeded) l (some m)) l
    | .enable => checkEnabled (s.setLane l x.succeeded) l
    | .disable => s.setLane l x.succeeded := by
  obtain ⟨kind, request⟩ := e
  cases kind <;>
    simp only [exchangeSucceeds, State.lane_setLane_self, setLane_setLane, x.succeeded_eq, entry]

end

/-! ## LAMP exchanges (R125, R131) -/

theorem completeWaiters_setLane (s : State) (l : LaneId) (x : Lane) (ws : List LampWaiter) :
    completeWaiters (s.setLane l x) ws = (completeWaiters s ws).setLane l x := by
  induction ws generalizing s with
  | nil => rfl
  | cons w ws ih =>
    show completeWaiters (complete (s.setLane l x) w.slot (lampsReply w.target)) ws = _
    rw [complete_setLane, ih]
    rfl

@[simp] theorem completeWaiters_lanes (s : State) (ws : List LampWaiter) : (completeWaiters s ws).lanes = s.lanes := by
  induction ws generalizing s with
  | nil => rfl
  | cons w ws ih => exact (ih _).trans (complete_lanes ..)

/-- The waiters that an acknowledged version ends (R122, R125). -/
def Lane.reachedBy (x : Lane) (version : Word) (w : LampWaiter) : Bool :=
  targetReached x.desiredVersion version w.target

/-- The lane after a LAMP exchange that confirmed an image and a version (R125). -/
def Lane.lampConfirmed (x : Lane) (image : Half) (version : Word) : Lane :=
  { x with
    acked := image, ackedVersion := version, sent := none
    waiters := x.waiters.filter fun w => !x.reachedBy version w }

theorem lampSucceeds_setLane {s : State} {l : LaneId} {x : Lane} {image : Half} {version : Word}
    (sent : x.sent = some (image, version)) :
    lampSucceeds (s.setLane l x) l =
      completeWaiters (s.setLane l (x.lampConfirmed image version)) (x.waiters.filter (x.reachedBy version)) := by
  simp only [lampSucceeds, State.lane_setLane_self, sent, modLane_setLane, completeWaiters_setLane]
  rfl

/-! ## A module type that is found (R107, R108) -/

section

variable (s : State) (l : LaneId) (x : Lane)

theorem setKnown_setLane (m : Option ModuleId) : setKnown (s.setLane l x) l m = s.setLane l { x with known := m } :=
  modLane_setLane ..

theorem typeMismatch_setLane :
    typeMismatch (s.setLane l x) l =
      s.setLane l ((x.withFault .typeMismatch s.delivering).entering .mismatch none .disable s.delivering) := by
  rw [typeMismatch, recordFault_setLane, enterMismatch_setLane]
  rfl

theorem changeStep_setLane (step : StartStep) :
    changeStep (s.setLane l x) l step = s.setLane l { x with startStep := some step, helloDeadline := none } :=
  modLane_setLane ..

theorem queueStartUp_setLane (k : EntryKind) :
    queueStartUp (s.setLane l x) l k =
      s.setLane l { x with list := x.list.filter (fun e => !e.isStartUp) ++ [⟨k, none⟩] } :=
  modLane_setLane ..

end

/-- In ABSENT, STARTING and MISMATCH only start-up entries wait (R103). -/
theorem LaneLaws.list_startUp {x : Lane} (laws : LaneLaws x) (short : x.phase ≠ .running) :
    x.list.filter (fun e => !e.isStartUp) = [] := by
  rw [List.filter_eq_nil_iff]
  intro e listed
  have waits := (laws.list.fits e listed).2
  obtain ⟨kind, request⟩ := e
  revert waits short
  cases x.phase <;> cases x.startStep with
    | none => cases kind <;> simp [Entry.mayWait, Entry.isStartUp]
    | some step => cases step <;> cases kind <;> simp [Entry.mayWait, Entry.isStartUp]

/-- With no exchange, the activity of an enabled lane is what a frame in progress and the slot call for (R101). -/
theorem LaneLaws.restActivity {x : Lane} (laws : LaneLaws x) (none : x.exchange = .none) (enabled : x.phase ≠ .disabled) :
    x.activity = Machine.restActivity x := by
  have wire := laws.wire
  have unsent : ¬(x.activity = .sending ∨ x.activity = .awaiting) := by rw [← wire.exchange, none]; simp
  rw [restActivity_eq]
  rcases frame : x.frame with _ | t
  · rcases slot : x.slot with _ | b
    · cases activity : x.activity with
      | off => exact absurd (wire.off activity) enabled
      | idle => rfl
      | receiving => simpa [frame] using wire.receiving activity
      | held => simpa [slot] using wire.held activity
      | sending => exact absurd (.inl activity) unsent
      | awaiting => exact absurd (.inr activity) unsent
    · have running := laws.phase.slot (by rw [slot]; rfl)
      cases activity : x.activity with
      | off => exact absurd (wire.off activity) enabled
      | idle => simpa [slot] using wire.idle activity
      | receiving => simpa [frame] using wire.receiving activity
      | held => rfl
      | sending => exact absurd (.inl activity) unsent
      | awaiting => exact absurd (.inr activity) unsent
  · exact (wire.frame (by rw [frame]; rfl)).resolve_right fun awaiting => unsent (.inr awaiting)

theorem LaneLaws.endExchange_of_none {x : Lane} (laws : LaneLaws x) (none : x.exchange = .none)
    (enabled : x.phase ≠ .disabled) : x.endExchange = x := by
  rw [Lane.endExchange_eq, ← laws.restActivity none enabled, ← none, ← (laws.noExchange none).2]

/-- Settles O50: a probe that falls due, and a hello deadline that passes. -/
theorem probesAndDeadlinesFallDue : Obligations.ProbesAndDeadlinesFallDue := by
  unfold Obligations.ProbesAndDeadlinesFallDue
  refine ⟨fun s l w running laws due over_ => ?_, fun s l w running laws deadline over_ => ?_⟩
  · have absent : (s.lane l).phase = .absent := laws.phase.probe (by rw [due]; rfl)
    have fallen : waitOver s.time.uptime (s.lane l).probeDue = true := by
      rw [due]
      exact decide_eq_true over_
    refine congrArg _ ((whenRunning_running running _).trans ?_)
    rw [probeFallsDue]
    dsimp only
    rw [if_pos ⟨absent, fallen⟩, modLane_eq, queueStartUp_setLane]
    dsimp only
    rw [laws.list_startUp (by rw [absent]; decide)]
    rfl
  · intro x
    have step : x.startStep = some .waitHello := laws.phase.hello.1 (by rw [deadline]; rfl)
    have starting : x.phase = .starting := laws.phase.step.1 (by rw [step]; rfl)
    have passed : waitOver s.time.uptime x.helloDeadline = true := by
      show waitOver s.time.uptime (s.lane l).helloDeadline = true
      rw [deadline]
      exact decide_eq_true over_
    have short : x.phase ≠ .running := by rw [starting]; decide
    have known : x.known = none := by
      rw [← Option.not_isSome_iff_eq_none, laws.phase.known, starting, step]
      decide
    have failures : x.failures = 0 := not_not.1 (mt laws.phase.failing short)
    have unprobed : x.probeDue = none := by
      rw [← Option.not_isSome_iff_eq_none]
      exact fun due => absurd (laws.phase.probe due) (by rw [starting]; decide)
    have empty : x.slot = none := by
      rw [← Option.not_isSome_iff_eq_none]
      exact mt laws.phase.slot short
    have expires : helloExpires s l = enterAbsent (s.setLane l x.endExchange) l := by
      rw [helloExpires]
      dsimp only
      rw [if_pos ⟨starting, step, passed⟩]
      cases exchange : x.exchange with
      | none =>
        rw [if_neg (by simp),
          laws.endExchange_of_none exchange (by rw [starting]; decide), setLane_self]
      | some ex =>
        rw [if_pos (show (some ex).isSome = true from rfl)]
        rfl
    refine congrArg _ ((whenRunning_running running _).trans (expires.trans ?_))
    rw [enterAbsent_setLane]
    refine congrArg (s.setLane l) ?_
    have rest : restActivity x = if x.frame.isSome then .receiving else .idle := by
      rw [restActivity, empty]
      rfl
    simp only [Lane.entering, Lane.endExchange_eq, rest, known, failures, unprobed]
    rfl

/-! ## Successes that end no stay (R116, R117, R125) -/

theorem matchesType_iff {expected : Byte} {m : ModuleId} :
    matchesType expected (some m) = true ↔ expected = 0 ∨ expected = m.moduleType := by
  rw [matchesType, Bool.or_eq_true, beq_iff_eq, Option.map_some, beq_iff_eq, Option.some.injEq,
    eq_comm (a := m.moduleType)]

theorem targetReached_eq (desired version target : Word) :
    targetReached desired version target =
      decide (target = version ∨ desired - version < target - version) := by
  have reached : target - version = 0 ↔ target = version := by constructor <;> intro is <;> bv_omega
  simp only [targetReached, reached]

theorem hostIdentified_fits {s : State} {l : LaneId} {m : ModuleId} (fits : matchesType (s.expectedType l) (some m) = true) :
    hostIdentified s l m = setKnown s l (some m) := if_pos fits

/-- Settles O53: RESCAN, an IDENTIFY that still fits, and LAMP exchanges. -/
theorem hostCommandsAndLampUpdatesSucceed : Obligations.HostCommandsAndLampUpdatesSucceed := by
  unfold Obligations.HostCommandsAndLampUpdatesSucceed
  refine ⟨fun s l ex e running laws awaits entry kind internal => ?_,
    fun s l ex e i running laws entry request => ?_,
    fun s l ex e low high image version running laws awaits entry kind command index sent => ?_⟩
  · rw [exec_lastAck running awaits (laws.lastByte awaits.exchange entry (by rw [kind]; decide)),
      exchangeSucceeds_of (x := (s.lane l).unframed) entry, kind, internal]
    exact settled_setLane id rfl
  · intro x y
    refine ⟨fun awaits kind => ?_, fun n awaits kind count fits => ?_⟩
    · rw [exec_lastAck running awaits (laws.lastByte awaits.exchange entry (by rw [kind]; decide)),
        exchangeSucceeds_of (x := (s.lane l).unframed) entry, kind, request]
      exact settled_completeAll [i] (bare .ok) id rfl
    · have known : hostIdentified (complete (s.setLane l y) i ⟨.ok, [ex.typeTaken, n]⟩) l ⟨ex.typeTaken, n⟩ =
          complete (s.setLane l { y with known := some ⟨ex.typeTaken, n⟩ }) i ⟨.ok, [ex.typeTaken, n]⟩ := by
        rw [hostIdentified_fits, complete_setLane, setKnown_setLane, complete_setLane]
        simpa [State.expectedType] using fits
      rw [exec_lastCount running awaits (laws.lastByte awaits.exchange entry (by rw [kind]; decide)) count,
        exchangeSucceeds_of (x := (s.lane l).unframed) entry, kind, request]
      exact (congrArg (fun t => Host.Outcome.next (settleLamps s t)) known).trans
        (settled_completeAll [i] ⟨.ok, [ex.typeTaken, n]⟩ id rfl)
  · intro x reached
    have last : ¬ex.byteIndex + 1 < ex.command.bytes.length := by
      rw [command, index]
      show ¬2 + 1 < 3
      omega
    have is_reached : x.unframed.succeeded.reachedBy version = reached :=
      funext fun w => targetReached_eq x.desiredVersion version w.target
    rw [exec_lastAck running awaits last, exchangeSucceeds_of (x := (s.lane l).unframed) entry, kind]
    show Host.Outcome.next (settleLamps s (lampSucceeds (s.setLane l x.unframed.succeeded) l)) = _
    rw [lampSucceeds_setLane (x := x.unframed.succeeded) sent, is_reached]
    have lanes := completeWaiters_lanes (s.setLane l (x.unframed.succeeded.lampConfirmed image version))
      (x.unframed.succeeded.waiters.filter reached)
    rw [settleLamps_of_lanes lanes id rfl, Lane.lampConfirmed, is_reached]
    rfl

end Sys2Proof.Machine
end

section
/-! What leaving RUNNING does (R114): the lanes, the Control Table and the Translator it leaves, and `LeftRunning` for
every happening that takes a lane out of RUNNING. -/

namespace Sys2Proof.Machine

set_option Elab.async false

/-! ## A turn considered anew (R66) -/

/-- Two states in which the Translator would judge turns alike. -/
structure SameTurns (s t : State) : Prop where
  prefixes : t.translator.prefixes = s.translator.prefixes
  start : t.translator.start = s.translator.start
  config : t.config = s.config
  table : t.table = s.table
  delivery : t.delivery = s.delivery
  queue : t.queue = s.queue
  lanes : ∀ k, (t.lane k).statusWanted = (s.lane k).statusWanted ∧ (t.lane k).slot = (s.lane k).slot

namespace SameTurns

variable {s t : State} (h : SameTurns s t)

include h

theorem eligible (k : LaneId) : eligible t k = eligible s k := by
  rw [Machine.eligible, Machine.eligible, (h.lanes k).1, (h.lanes k).2]

theorem nextLane : nextLane t = nextLane s := by
  rw [Machine.nextLane, Machine.nextLane, h.start, funext h.eligible]

theorem byteEvent (k : LaneId) (b : Byte) : byteEvent t k b = byteEvent s k b := by
  obtain ⟨prefixes, start, config, table, delivery, queue, lanes⟩ := h
  obtain ⟨_, _, _, ⟨_, _, _, _⟩, _, _, _, _, _, _, _, _⟩ := s
  obtain ⟨_, _, _, ⟨_, _, _, _⟩, _, _, _, _, _, _, _, _⟩ := t
  simp only at prefixes config table
  subst prefixes config table
  rfl

theorem turnEvent_isSome (k : LaneId) : (turnEvent t k).isSome = (turnEvent s k).isSome := by
  simp only [turnEvent, (h.lanes k).1, (h.lanes k).2, h.byteEvent]
  split <;> rfl

theorem turnHeld (k : LaneId) : turnHeld t k = turnHeld s k := by
  rw [Machine.turnHeld, Machine.turnHeld, h.turnEvent_isSome, queueFull, queueFull, h.delivery, h.queue]

theorem heldLane : heldLane t = heldLane s := by
  rw [Machine.heldLane, Machine.heldLane, h.nextLane]
  simp only [h.turnHeld]

end SameTurns

theorem heldLane_eq (s : State) : heldLane s = (nextLane s).filter (turnHeld s) := by
  unfold heldLane
  cases nextLane s <;> rfl

/-- What the table and the definitions determine of the lamps handed. -/
theorem handedLamps_congr {s t : State} (config : t.config = s.config) (table : t.table = s.table) (cs : List ControlId) :
    t.handedLamps cs = s.handedLamps cs := by
  obtain ⟨_, _, _, _, _, _, _, _, _, _, _, _⟩ := s
  obtain ⟨_, _, _, _, _, _, _, _, _, _, _, _⟩ := t
  simp only at config table
  subst config table
  rfl

/-! ## The state that leaving RUNNING leaves (R114) -/

/-- The lane that leaves RUNNING, its lamps aside (R114, R127). -/
def Lane.left (x : Lane) (delivering : Bool) : Lane :=
  { x.leaving with statusWanted := x.statusWanted || delivering }

/-- The state after the requests have ended and the bound controls are UNKNOWN, before lamps are handed. -/
def leftTable (s : State) (l : LaneId) (x : Lane) (status : Status) : State :=
  setBoundPhysical (((completeAll s x.hostWork (bare status)).setLane l x.leaving).setPrefix l .none) l .unknown

/-- The lamps that leaving RUNNING hands: those of the bound controls, now UNKNOWN (R14, R18). -/
def leftHanded (s : State) (l : LaneId) (x : Lane) (status : Status) : List (LampPosition × Bool) :=
  (leftTable s l x status).handedLamps (s.controlsBoundTo l)

/-- The state before the Translator considers its waiting turn anew. -/
def leftLanes (s : State) (l : LaneId) (x : Lane) (status : Status) : State :=
  ((leftTable s l x status).writeLamps (leftHanded s l x status)).modLane l
    fun y => { y with statusWanted := y.statusWanted || s.delivering }

section

variable (s : State) (l : LaneId) (x : Lane) (status : Status)

theorem completeAll_delivering (is : List SlotId) (r : Reply) : (completeAll s is r).delivering = s.delivering := by
  rw [State.delivering, State.delivering, completeAll_delivery]

theorem leaveRunning_setLane :
    leaveRunning (s.setLane l x) l status = reconsiderFor (leftLanes s l x status) l := by
  have bound : (leftTable s l x status).controlsBoundTo l = s.controlsBoundTo l := by
    show (completeAll s x.hostWork (bare status)).controlsBoundTo l = _
    rw [State.controlsBoundTo, State.controlsBoundTo, completeAll_config]
  have delivering : (completeAll s x.hostWork (bare status)).delivering = s.delivering := completeAll_delivering ..
  rw [leaveRunning]
  simp only [State.lane_setLane_self, completeAll_setLane, modLane_setLane]
  rw [leftLanes, leftHanded, ← bound, ← delivering]
  rfl

theorem lane_leftLanes (k : LaneId) : (leftLanes s l x status).lane k =
    if k = l then { x.left s.delivering with desired := handedImage l x (leftHanded s l x status) }
    else { s.lane k with desired := handedImage k (s.lane k) (leftHanded s l x status) } := by
  have below (k : LaneId) : (leftTable s l x status).lane k = if k = l then x.leaving else s.lane k := by
    show ((completeAll s x.hostWork (bare status)).setLane l x.leaving).lane k = _
    rw [State.lane_setLane, completeAll_lane]
  by_cases same : k = l
  · subst same
    rw [leftLanes, State.lane_modLane_self, State.lane_writeLamps, below, if_pos rfl, if_pos rfl]
    rfl
  · rw [leftLanes, State.lane_modLane_ne _ same, State.lane_writeLamps, below, if_neg same, if_neg same]
    rfl

theorem control_leftLanes (c : ControlId) : (leftLanes s l x status).control c =
    if s.boundTo c l then (s.control c).withPhysical s.time.uptime .unknown else s.control c := by
  have table : (completeAll s x.hostWork (bare status)).table = s.table := completeAll_table ..
  have config : (completeAll s x.hostWork (bare status)).config = s.config := completeAll_config ..
  have time : (completeAll s x.hostWork (bare status)).time = s.time := completeAll_time ..
  have mapped := State.control_mapControls (completeAll s x.hostWork (bare status))
    (fun c y => if (completeAll s x.hostWork (bare status)).boundTo c l then
      y.withPhysical (completeAll s x.hostWork (bare status)).time.uptime .unknown else y) c
    fun _ => by split <;> rfl
  have bound : (completeAll s x.hostWork (bare status)).boundTo c l = s.boundTo c l := by
    rw [State.boundTo, State.boundTo, State.definition, State.definition, config]
  have control : (completeAll s x.hostWork (bare status)).control c = s.control c := by
    rw [State.control, State.control, table]
  refine Eq.trans ?_ (mapped.trans ?_)
  · rfl
  · rw [bound, control, time]

end

theorem handedLamps_leftLanes (s : State) (l : LaneId) (x : Lane) (status : Status) :
    leftHanded s l x status = (leftLanes s l x status).handedLamps (s.controlsBoundTo l) :=
  (handedLamps_congr rfl rfl _).symm

/-- Leaving RUNNING changes lanes, bound controls, the Translator and what the requests it ends change (R114). -/
theorem leftLanes_frame (s : State) (l : LaneId) (x : Lane) (status : Status) :
    leftLanes s l x status =
      { s with
        requests := (completeAll s x.hostWork (bare status)).requests
        link := (completeAll s x.hostWork (bare status)).link
        lanes := (leftLanes s l x status).lanes
        table := { s.table with entries := (leftLanes s l x status).table.entries }
        translator := { s.translator with prefixes := s.translator.prefixes.set l .none } } := by
  have parts : leftLanes s l x status =
      { completeAll s x.hostWork (bare status) with
        lanes := (leftLanes s l x status).lanes
        table :=
          { (completeAll s x.hostWork (bare status)).table with entries := (leftLanes s l x status).table.entries }
        translator :=
          { (completeAll s x.hostWork (bare status)).translator with
            prefixes := (completeAll s x.hostWork (bare status)).translator.prefixes.set l .none } } := rfl
  refine parts.trans ?_
  simp only [completeAll_time, completeAll_line, completeAll_translator, completeAll_table, completeAll_queue,
    completeAll_delivery, completeAll_config, completeAll_store, completeAll_pending]

theorem reconsiderFor_eq (s : State) (l : LaneId) : reconsiderFor s l =
    { s with
      translator :=
        { s.translator with
          waiting := if s.translator.waiting = some l then heldLane s else s.translator.waiting } } := by
  unfold reconsiderFor reconsider
  by_cases waits : s.translator.waiting = some l
  · simp only [waits, if_true]
  · simp only [waits, if_false]

/-! ## `LeftRunning` -/

/-- What the end of a stay in RUNNING does to the lane after it has left: another phase, status-wanted as R112 says, and
nothing that leaving has settled. -/
structure EndsStay (f : Lane → Lane) (delivering : Bool) : Prop where
  phase : ∀ y, (f y).phase ≠ .running
  wanted : ∀ y, (f y).statusWanted = (y.statusWanted || delivering)
  slot : ∀ y, (f y).slot = y.slot
  waiters : ∀ y, (f y).waiters = y.waiters
  idle : ∀ y, y.exchange = none → y.inProgress = none → y.sent = none →
    (f y).exchange = none ∧ (f y).inProgress = none ∧ (f y).sent = none
  confirmed : ∀ y, (f y).acked = y.acked ∧ (f y).ackedVersion = y.ackedVersion
  owners : ∀ y, (f y).owners = y.owners
  version : ∀ y, (f y).desiredVersion = y.desiredVersion
  image : ∀ y d, f { y with desired := d } = { f y with desired := d }

theorem EndsStay.desired {f : Lane → Lane} {delivering : Bool} (ends : EndsStay f delivering) (y : Lane) :
    (f y).desired = y.desired := by
  have image := congrArg Lane.desired (ends.image y y.desired)
  exact image

/-- A lane short of RUNNING has its version follow its image, and no LAMP entry queued (R123). -/
theorem settleLane_short {before x : Lane} (short : x.phase ≠ .running) :
    settleLane before x =
      { x with desiredVersion := if x.desired = before.desired then x.desiredVersion else x.desiredVersion + 1 } := by
  have started : ¬(before.phase ≠ .running ∧ x.phase = .running) := fun ⟨_, run⟩ => short run
  rw [settleLane, if_neg started]
  split
  · rfl
  · rw [Lane.queueLamp, if_neg fun ⟨run, _⟩ => short run]

/-- A lane as it stands before the happening that takes it out of RUNNING, but for what ended before that and for its
latch: lamps, owners and versions are as they were. -/
structure SameLamps (x y : Lane) : Prop where
  desired : y.desired = x.desired
  version : y.desiredVersion = x.desiredVersion
  confirmed : y.acked = x.acked ∧ y.ackedVersion = x.ackedVersion
  owners : y.owners = x.owners

section

variable {s e : State} {l : LaneId} {x : Lane} {status : Status} {f : Lane → Lane}

/-- The state after the lane's stay in RUNNING has ended and the lamps of the happening are settled. -/
def stayEnded (s e : State) (l : LaneId) (x : Lane) (status : Status) (f : Lane → Lane) : State :=
  settleLamps s ((leaveRunning (e.setLane l x) l status).modLane l f)

variable (same : e = { s with requests := e.requests, link := e.link }) (lamps : SameLamps (s.lane l) x)
  (ends : EndsStay f s.delivering)

include same in
/-- What the end of a stay in RUNNING changes (R114, R66). -/
theorem stayEnded_frame : stayEnded s e l x status f =
    { s with
      requests := (completeAll e x.hostWork (bare status)).requests
      link := (completeAll e x.hostWork (bare status)).link
      lanes := (stayEnded s e l x status f).lanes
      table := { s.table with entries := (leftLanes e l x status).table.entries }
      translator :=
        { s.translator with
          prefixes := s.translator.prefixes.set l .none
          waiting :=
            if s.translator.waiting = some l then heldLane (leftLanes e l x status)
            else s.translator.waiting } } := by
  have parts : stayEnded s e l x status f =
      { reconsiderFor (leftLanes e l x status) l with lanes := (stayEnded s e l x status f).lanes } := by
    rw [stayEnded, leaveRunning_setLane]
    rfl
  have translator : (leftLanes e l x status).translator = { s.translator with prefixes := s.translator.prefixes.set l .none } := by
    rw [leftLanes_frame, same]
  refine parts.trans ?_
  rw [reconsiderFor_eq, translator]
  rw [leftLanes_frame, same]

include same in
theorem lane_of_completions (k : LaneId) : e.lane k = s.lane k := by rw [same]; rfl

include same lamps ends in
theorem lane_stayEnded (k : LaneId) : (stayEnded s e l x status f).lane k =
    if k = l then
      { f (x.left s.delivering) with
        desired := handedImage l (s.lane l) (leftHanded e l x status)
        desiredVersion :=
          if handedImage l (s.lane l) (leftHanded e l x status) = (s.lane l).desired then (s.lane l).desiredVersion
          else (s.lane l).desiredVersion + 1 }
    else (s.lane k).withDesired (handedImage k (s.lane k) (leftHanded e l x status)) := by
  have delivering : e.delivering = s.delivering := by rw [same]; rfl
  have image : handedImage l x (leftHanded e l x status) = handedImage l (s.lane l) (leftHanded e l x status) := by
    rw [handedImage, handedImage, lamps.desired, lamps.owners]
  have before (k : LaneId) : (reconsiderFor (leftLanes e l x status) l).lane k = (leftLanes e l x status).lane k := by
    rw [reconsiderFor_eq]
    rfl
  rw [stayEnded, lane_settleLamps, leaveRunning_setLane]
  by_cases here : k = l
  · subst here
    rw [State.lane_modLane_self, before, lane_leftLanes, if_pos rfl, if_pos rfl, settleLane_short (ends.phase _), image,
      delivering, ends.image]
    have version : (f (x.left s.delivering)).desiredVersion = (s.lane k).desiredVersion :=
      (ends.version _).trans lamps.version
    rw [version]
  · rw [State.lane_modLane_ne _ here, before, lane_leftLanes, if_neg here, if_neg here, lane_of_completions same]
    exact settleLane_desired _ rfl rfl

include same lamps ends in
/-- Leaving hands lamps and considers the waiting turn anew; what follows changes nothing a turn is judged by. -/
theorem sameTurns_stayEnded : SameTurns (leftLanes e l x status) (stayEnded s e l x status f) := by
  have is := stayEnded_frame (l := l) (x := x) (status := status) (f := f) same
  refine ⟨?_, ?_, ?_, ?_, ?_, ?_, fun k => ?_⟩
  · rw [is, leftLanes_frame, same]
  · rw [is, leftLanes_frame, same]
  · rw [is, leftLanes_frame, same]
  · rw [is, leftLanes_frame, same]
  · rw [is, leftLanes_frame, same]
  · rw [is, leftLanes_frame, same]
  · have delivering : e.delivering = s.delivering := by rw [same]; rfl
    rw [lane_stayEnded same lamps ends, lane_leftLanes]
    split
    · next here =>
      refine ⟨(ends.wanted _).trans ?_, ends.slot _⟩
      simp only [Lane.left, delivering, Bool.or_assoc, Bool.or_self]
    · rw [Lane.withDesired_eq, lane_of_completions same]
      exact ⟨rfl, rfl⟩

include same lamps ends in
/-- The lane that left RUNNING keeps the waiting turn with its LANE_STATUS item where it is still the first one eligible
(log 35). -/
theorem heldLane_stayEnded (next : nextLane s = some l) (on : s.delivery.state ≠ .off)
    (full : 128 ≤ s.queue.records.length) : heldLane (stayEnded s e l x status f) = some l := by
  have is := stayEnded_frame (l := l) (x := x) (status := status) (f := f) same
  have lane := lane_stayEnded (status := status) same lamps ends
  have wanted : ((stayEnded s e l x status f).lane l).statusWanted = true := by
    rw [lane, if_pos rfl]
    refine (ends.wanted _).trans ?_
    rw [State.delivering, decide_eq_true on, Bool.or_true]
  have eligible_same (k : LaneId) : eligible (stayEnded s e l x status f) k = eligible s k := by
    by_cases here : k = l
    · subst here
      rw [eligible_of_nextLane next, eligible_iff.2 (.inl wanted)]
    · rw [eligible, eligible, lane, if_neg here, Lane.withDesired_eq]
  have next' : nextLane (stayEnded s e l x status f) = some l := by
    rw [← next, nextLane, nextLane, funext eligible_same, is]
  have held : turnHeld (stayEnded s e l x status f) l = true := by
    rw [turnHeld_iff, turnEvent_status wanted, is]
    exact ⟨on, full, rfl⟩
  rw [heldLane_eq, next', Option.filter_some, if_pos held]

include same lamps ends in
/-- The end of a stay in RUNNING is what `LeftRunning` says (R114). -/
theorem leftRunning_stayEnded :
    LeftRunning s (stayEnded s e l x status f) l (completeAll e x.hostWork (bare status)) := by
  have is := stayEnded_frame (l := l) (x := x) (status := status) (f := f) same
  have turns := sameTurns_stayEnded (status := status) same lamps ends
  have lane := lane_stayEnded (status := status) same lamps ends
  have bound (c : ControlId) : e.boundTo c l = s.boundTo c l := by rw [same]; rfl
  have control (c : ControlId) : e.control c = s.control c := by rw [same]; rfl
  have time : e.time = s.time := by rw [same]
  have handed : leftHanded e l x status = (stayEnded s e l x status f).handedLamps (s.controlsBoundTo l) := by
    have listed : e.controlsBoundTo l = s.controlsBoundTo l := by rw [same]; rfl
    rw [handedLamps_congr turns.config turns.table, handedLamps_leftLanes, listed]
  have self := (lane l).trans (if_pos rfl)
  have waiting : (stayEnded s e l x status f).translator.waiting =
      if s.translator.waiting = some l then heldLane (stayEnded s e l x status f) else s.translator.waiting := by
    rw [turns.heldLane]
    exact congrArg (fun u : State => u.translator.waiting) is
  exact
    { time := by rw [is]
      line := by rw [is]
      queue := by rw [is]
      delivery := by rw [is]
      config := by rw [is]
      store := by rw [is]
      pending := by rw [is]
      requests := by rw [is]
      link := by rw [is]
      selections := by rw [is]
      control := fun c => by
        have table : (stayEnded s e l x status f).control c = (leftLanes e l x status).control c := by
          rw [State.control, State.control, turns.table]
        rw [table, control_leftLanes, bound, control, time]
      prefixes := by rw [is]
      start := by rw [is]
      learn := by rw [is]
      waiting := by rw [waiting, heldLane_eq]
      waitsOn := fun waits next on full => by
        rw [waiting, if_pos waits, heldLane_stayEnded same lamps ends next on full]
      others := fun k other => by rw [lane, if_neg other, handed]
      desired := by rw [self, handed]
      desiredVersion := by rw [self]
      confirmed := by
        rw [self]
        exact ⟨(ends.confirmed _).1.trans lamps.confirmed.1, (ends.confirmed _).2.trans lamps.confirmed.2⟩
      owners := by
        rw [self]
        exact (ends.owners _).trans lamps.owners
      slot := by
        rw [self]
        exact ends.slot _
      waiters := by
        rw [self]
        exact ends.waiters _
      idle := by
        rw [self]
        exact ends.idle _ rfl rfl rfl }

include same lamps ends in
/-- The lane whose stay in RUNNING has ended, its image and version aside. -/
theorem lane_stayEnded_self : (stayEnded s e l x status f).lane l =
    { f (x.left s.delivering) with
      desired := ((stayEnded s e l x status f).lane l).desired
      desiredVersion := ((stayEnded s e l x status f).lane l).desiredVersion } := by
  rw [lane_stayEnded same lamps ends, if_pos rfl]

end

end Sys2Proof.Machine
end

section
/-! The happenings that take a lane out of RUNNING by the module's own doing: the third failure (R109, R110) and HELLO
(R106). -/

namespace Sys2Proof.Machine

set_option Elab.async false

/-! ## The lane after it has left -/

/-- The lane enters a phase short of RUNNING with its module unknown. -/
def Lane.enteringUnknown (p : Phase) (step : Option StartStep) (k : EntryKind) (delivering : Bool) (x : Lane) : Lane :=
  { x.entering p step k delivering with known := none }

theorem endsStay_entering {p : Phase} (short : p ≠ .running) (step : Option StartStep) (k : EntryKind) (delivering : Bool) :
    EndsStay (·.entering p step k delivering) delivering :=
  ⟨fun _ => short, fun _ => rfl, fun _ => rfl, fun _ => rfl, fun _ exchange entry sent => ⟨exchange, entry, sent⟩,
    fun _ => ⟨rfl, rfl⟩, fun _ => rfl, fun _ => rfl, fun _ _ => rfl⟩

theorem endsStay_enteringUnknown {p : Phase} (short : p ≠ .running) (step : Option StartStep) (k : EntryKind)
    (delivering : Bool) : EndsStay (Lane.enteringUnknown p step k delivering) delivering :=
  ⟨fun _ => short, fun _ => rfl, fun _ => rfl, fun _ => rfl, fun _ exchange entry sent => ⟨exchange, entry, sent⟩,
    fun _ => ⟨rfl, rfl⟩, fun _ => rfl, fun _ => rfl, fun _ _ => rfl⟩

section

variable (s : State) (l : LaneId)

theorem enterAbsent_eq : enterAbsent s l =
    s.modLane l (Lane.enteringUnknown .absent none .probeIdentify s.delivering) := by
  have set := enterAbsent_setLane s l (s.lane l)
  rw [setLane_self] at set
  exact set

theorem enterMismatch_eq : enterMismatch s l = s.modLane l (·.entering .mismatch none .disable s.delivering) := by
  have set := enterMismatch_setLane s l (s.lane l)
  rw [setLane_self] at set
  exact set

theorem restartStart_changePhase :
    restartStart (changePhase s l .starting (some .identify)) l =
      s.modLane l (Lane.enteringUnknown .starting (some .identify) .probeIdentify s.delivering) := by
  rw [restartStart, changePhase, modLane_eq s, setKnown, modLane_setLane, queueStartUp, modLane_setLane]
  dsimp only
  rw [filter_fits_startUp (s.lane l).list (.inr (.inl rfl))]
  rfl

theorem leaveRunning_delivering (status : Status) : (leaveRunning s l status).delivering = s.delivering := by
  obtain ⟨_, _, _, _, _, is⟩ := leaveRunning_frame s l status
  rw [is]
  rfl

end

/-- A lane in RUNNING has no start-up entry in its list (R103). -/
theorem LaneLaws.list_running {x : Lane} (laws : LaneLaws x) (run : x.phase = .running) :
    x.list.filter (·.isStartUp) = [] := by
  rw [List.filter_eq_nil_iff]
  intro e listed
  have waits := (laws.list.fits e listed).2
  rw [run] at waits
  simpa [Entry.mayWait] using waits

theorem matchesType_none_of_ne {expected : Byte} {m : ModuleId} :
    matchesType expected (some m) = false ↔ expected ≠ 0 ∧ expected ≠ m.moduleType := by
  rw [Bool.eq_false_iff, Ne, matchesType_iff, not_or]

/-- The lane that leaves RUNNING with a fault recorded, in its new phase: stopped, its latch as the fault leaves it. -/
theorem Lane.enteringUnknown_left (x : Lane) (fault : LaneFault) (p : Phase) (step : Option StartStep) (k : EntryKind)
    (delivering : Bool) :
    Lane.enteringUnknown p step k delivering ((x.withFault fault delivering).left delivering) =
      { x.stopped.withFault fault delivering with
        phase := p, startStep := step, known := none, list := [⟨k, none⟩]
        activity := if x.frame.isSome then .receiving else .idle } := by
  simp only [Lane.enteringUnknown, Lane.entering, Lane.left, Lane.leaving, Lane.withFault, Lane.stopped, restActivity,
    Bool.or_assoc, Bool.or_self]
  rfl

theorem Lane.entering_left (x : Lane) (fault : LaneFault) (p : Phase) (step : Option StartStep) (k : EntryKind)
    (delivering : Bool) :
    ((x.withFault fault delivering).left delivering).entering p step k delivering =
      { x.stopped.withFault fault delivering with
        phase := p, startStep := step, list := [⟨k, none⟩]
        activity := if x.frame.isSome then .receiving else .idle } := by
  simp only [Lane.entering, Lane.left, Lane.leaving, Lane.withFault, Lane.stopped, restActivity, Bool.or_assoc,
    Bool.or_self]
  rfl

/-! ## The third failure (R109, R110) -/

theorem FailsNow.sameLamps {s : State} {l : LaneId} {c : Instr} {k : LaneFault} {x : Lane} (fails : FailsNow s l c k x) :
    SameLamps (s.lane l) x := by
  cases fails <;> exact ⟨rfl, rfl, ⟨rfl, rfl⟩, rfl⟩

theorem Lane.failedWork_eq (x : Lane) (s : State) (r : Reply) :
    completeAll s x.failedWork r =
      if x.carriesLamp then completeAll s (x.waiters.map (·.slot)) r
      else match x.inProgress.bind (·.request) with | some i => complete s i r | none => s := by
  rw [Lane.failedWork]
  split
  · rfl
  · cases x.inProgress.bind (·.request) <;> rfl

theorem loseModule_setLane {s e : State} {l : LaneId} {x : Lane}
    (same : e = { s with requests := e.requests, link := e.link }) :
    settleLamps s (loseModule (e.setLane l x) l) =
      stayEnded s e l (x.withFault .moduleLost s.delivering) .laneDown
        (Lane.enteringUnknown .absent none .probeIdentify s.delivering) := by
  have delivering : e.delivering = s.delivering := by rw [same]; rfl
  rw [loseModule, recordFault_setLane, enterAbsent_eq, leaveRunning_delivering, stayEnded, ← delivering]
  rfl

/-- Settles O49: the failure's own fault and reply, then the module is lost. -/
theorem thirdFailureLosesTheModule : Obligations.ThirdFailureLosesTheModule := by
  unfold Obligations.ThirdFailureLosesTheModule
  intro s l c k x running fails run two counts laws lamp ended left delivering
  have third : x.failuresAfter k = 3 := by rw [Lane.failuresAfter, if_neg counts, two]
  have is_ended : completeAll s x.failedWork (replyOfFailure k) = ended := x.failedWork_eq s _
  have same : ended = { s with requests := ended.requests, link := ended.link } := by
    rw [← is_ended]
    obtain ⟨_, _, is⟩ := completeAll_frame s x.failedWork (replyOfFailure k)
    rw [is]
  have before := fails.sameLamps
  have lamps : SameLamps (s.lane l) ((x.failed k s.delivering).withFault .moduleLost s.delivering) :=
    ⟨before.desired, before.version, before.confirmed, before.owners⟩
  have ends := endsStay_enteringUnknown (p := .absent) (by decide) none .probeIdentify s.delivering
  have work : ((x.failed k s.delivering).withFault .moduleLost s.delivering).hostWork =
      x.list.filterMap (·.request) ++ if lamp then [] else x.waiters.map (·.slot) := by
    show [] ++ x.list.filterMap (·.request) ++ (if lamp then [] else x.waiters).map (·.slot) = _
    rw [List.nil_append]
    cases lamp <;> rfl
  have leaves := leftRunning_stayEnded (status := .laneDown) same lamps ends
  rw [work] at leaves
  refine ⟨_, ?_, leaves, ?_⟩
  · rw [fails.exec running, exchangeFails_running run]
    dsimp only
    rw [if_pos (le_of_eq third.symm), is_ended, loseModule_setLane same]
  · rw [lane_stayEnded_self same lamps ends, Lane.enteringUnknown_left]
    rfl

/-! ## HELLO (R106) -/

/-- The lane that HELLO finds, its frame and its exchange at an end (R94, R97). -/
def Lane.helloed (x : Lane) : Lane :=
  { x with
    frame := none, exchange := none, parityCount := none
    activity := if x.slot.isSome then .held else .idle
    failures := if (∃ ex, x.exchange = some ex ∧ ex.command = .resend) then 0 else x.failures }

section

variable {s : State} {l : LaneId}

theorem helloEnds_setLane (x : Lane) : helloEnds (s.setLane l x) l = helloTaken (s.setLane l x.endExchange) l := by
  rw [helloEnds, modLane_setLane]

/-- The last position of a RESEND exchange is its only one, and no other command has it (R85, R97). -/
theorem ExchangeLaws.resent_iff {x : Lane} {ex : Exchange} (laws : ExchangeLaws x ex) (awaiting : x.activity = .awaiting)
    {p : ReplyPosition} {rest : List ReplyPosition} (due : ex.due = p :: rest) : p = .resent ↔ ex.command = .resend := by
  have among := (laws.awaiting awaiting).2
  rw [due] at among
  have listed : p ∈ ex.command.positions := among.mem (List.mem_cons_self ..)
  revert listed
  cases ex.command <;> cases p <;> simp [ModuleCommand.positions]

/-- A HELLO in a good frame, outside an exchange or in a reply position, goes to the phase machine (R83, R90, R97). -/
theorem goodFrameEnds_hello (laws : LaneLaws (s.lane l)) (enabled : (s.lane l).phase ≠ .disabled)
    (heard : (s.lane l).activity = .receiving ∨ (s.lane l).activity = .awaiting) :
    goodFrameEnds s l 0xB5 = helloTaken (s.setLane l (s.lane l).helloed) l := by
  rcases heard with receiving | awaiting
  · have none : (s.lane l).exchange = none := by
      rw [← Option.not_isSome_iff_eq_none, laws.wire.exchange, receiving]
      decide
    have lane : (s.lane l).endFrame = (s.lane l).helloed := by
      simp only [Lane.endFrame_eq, Lane.helloed, none, ← (laws.noExchange none).2]
      simp
    rw [goodFrameEnds_receiving receiving enabled, receiveByte_hello, lane]
  · obtain ⟨ex, exchange⟩ := Option.isSome_iff_exists.1 (laws.wire.exchange.2 (.inr awaiting))
    have inExchange := laws.inExchange ex exchange
    obtain ⟨p, rest, due⟩ := List.exists_cons_of_ne_nil (inExchange.awaiting awaiting).1
    have resent := inExchange.resent_iff awaiting due
    have asked : (∃ o, (s.lane l).exchange = some o ∧ o.command = .resend) ↔ p = .resent := by
      rw [resent, exchange]
      simp
    have ended : (s.lane l).unframed.endExchange =
        { (s.lane l).helloed with failures := (s.lane l).failures } := by
      rfl
    rw [goodFrameEnds_awaiting awaiting exchange]
    have other (h : p ≠ .resent) : helloEnds (s.setLane l (s.lane l).unframed) l =
        helloTaken (s.setLane l (s.lane l).helloed) l := by
      have failures : (s.lane l).helloed.failures = (s.lane l).failures := if_neg (mt asked.1 h)
      rw [helloEnds_setLane, ended, ← failures]
    cases p with
    | ack => rw [replyByte_ack due, ackReply_hello byteClass_hello, other (by decide)]
    | moduleType => rw [replyByte_type due, if_neg (by decide), if_pos rfl, other (by decide)]
    | lampCount => rw [replyByte_count due, if_neg (by decide), if_pos rfl, other (by decide)]
    | resent =>
      have failures : (s.lane l).helloed.failures = 0 := if_pos (asked.2 rfl)
      rw [replyByte_resent due, if_neg (by decide), if_neg (by decide), resendDelivers_setLane, receiveByte_hello, ended,
        ← failures]

/-- HELLO in RUNNING (R106, R114). -/
theorem helloTaken_running {x : Lane} (run : x.phase = .running) :
    settleLamps s (helloTaken (s.setLane l x) l) =
      stayEnded s s l (x.withFault .moduleRestart s.delivering) .laneDown
        (Lane.enteringUnknown .starting (some .identify) .probeIdentify s.delivering) := by
  rw [helloTaken]
  simp only [State.lane_setLane_self, run]
  rw [recordFault_setLane, restartStart_changePhase, leaveRunning_delivering, stayEnded]
  rfl

/-! ### HELLO outside RUNNING -/

/-- The lane that HELLO brings to step IDENTIFY from STARTING, and the one from MISMATCH. -/
theorem helloTaken_absent {x : Lane} (absent : x.phase = .absent) (list : x.list = [] ∨ x.list = [⟨.probeIdentify, none⟩]) :
    helloTaken (s.setLane l x) l =
      s.setLane l { x with inProgress := none, probeDue := none, list := [⟨.probeIdentify, none⟩] } := by
  rw [helloTaken]
  simp only [State.lane_setLane_self, absent, modLane_setLane, queueStartUp_setLane]
  rcases list with is | is <;> simp [is]

theorem helloTaken_starting {x : Lane} (starting : x.phase = .starting)
    (list : x.list.filter (fun e => !e.isStartUp) = []) (known : x.startStep = some .waitHello → x.known = none) :
    helloTaken (s.setLane l x) l =
      s.setLane l
        { x with
          inProgress := none, startStep := some .identify, helloDeadline := none, known := none
          list := [⟨.probeIdentify, none⟩] } := by
  rw [helloTaken]
  simp only [State.lane_setLane_self, starting, modLane_setLane, changeStep_setLane, restartStart, setKnown_setLane,
    queueStartUp_setLane, list]
  split
  · next step => simp [known step]
  · rfl

theorem helloTaken_mismatch {x : Lane} (mismatch : x.phase = .mismatch) :
    helloTaken (s.setLane l x) l =
      s.setLane l (Lane.enteringUnknown .starting (some .identify) .probeIdentify s.delivering { x with inProgress := none }) := by
  rw [helloTaken]
  simp only [State.lane_setLane_self, mismatch, modLane_setLane]
  rw [restartStart_changePhase, modLane_setLane]
  rfl

end

/-- In ABSENT at most one PROBE-IDENTIFY waits, and nothing else (R103). -/
theorem LaneLaws.list_absent {x : Lane} (laws : LaneLaws x) (absent : x.phase = .absent) :
    x.list = [] ∨ x.list = [⟨.probeIdentify, none⟩] := by
  have probes (e : Entry) (listed : e ∈ x.list) : e = ⟨.probeIdentify, none⟩ := by
    obtain ⟨origin, waits⟩ := laws.list.fits e listed
    obtain ⟨kind, request⟩ := e
    rw [absent] at waits
    have is : kind = .probeIdentify := by simpa [Entry.mayWait] using waits
    subst is
    simp_all [Entry.originOk]
  have few := laws.list.startUp
  rcases list : x.list with _ | ⟨e, _ | ⟨o, rest⟩⟩
  · exact .inl rfl
  · exact .inr (by rw [probes e (by simp [list])])
  · have first := probes e (by simp [list])
    have second := probes o (by simp [list])
    rw [list, first, second] at few
    simp [Entry.isStartUp] at few

/-- Settles O51: HELLO in RUNNING ends the stay; elsewhere the module's type is asked for again. -/
theorem helloRestartsTheLane : Obligations.HelloRestartsTheLane := by
  unfold Obligations.HelloRestartsTheLane
  refine ⟨fun s l running run laws heard => ?_, fun s l running laws heard => ?_⟩
  · intro x
    have ends := endsStay_enteringUnknown (p := .starting) (by decide) (some .identify) .probeIdentify s.delivering
    have lamps : SameLamps (s.lane l) (x.helloed.withFault .moduleRestart s.delivering) := ⟨rfl, rfl, ⟨rfl, rfl⟩, rfl⟩
    have leaves := leftRunning_stayEnded (l := l) (status := .laneDown) (s := s) (e := s) rfl lamps ends
    refine ⟨_, ?_, leaves, ?_⟩
    · rw [exec_goodFrame running, goodFrameEnds_hello laws (by rw [run]; decide) heard,
        helloTaken_running (x := (s.lane l).helloed) run]
    · rw [lane_stayEnded_self (s := s) (e := s) (l := l) rfl lamps ends, Lane.enteringUnknown_left]
      rfl
  · intro x y failures
    have heard' : x.activity = .receiving ∨ x.activity = .awaiting := heard.imp_right And.left
    have quiet (short : x.phase ≠ .running) : x.slot = none := by
      rw [← Option.not_isSome_iff_eq_none]
      exact mt laws.phase.slot short
    have row {t : State} (enabled : x.phase ≠ .disabled) (taken : helloTaken (s.setLane l x.helloed) l = t) :
        exec (.goodFrame l 0xB5) s = .next (settleLamps s t) := by
      rw [exec_goodFrame running, goodFrameEnds_hello laws enabled heard', taken]
    refine ⟨fun absent => ?_, fun starting => ?_, fun mismatch => ?_⟩
    · have unfailed : x.failures = 0 := not_not.1 (mt laws.phase.failing (by rw [absent]; decide))
      have lane : { x.helloed with inProgress := none, probeDue := none, list := [⟨.probeIdentify, none⟩] } =
          { y with probeDue := none } := by
        simp [Lane.helloed, y, quiet (by rw [absent]; decide), unfailed]
      rw [row (by rw [absent]; decide) (helloTaken_absent absent (laws.list_absent absent)), lane]
      exact settled_setLane id rfl
    · have failures_are : x.helloed.failures = failures := rfl
      have known (step : x.startStep = some .waitHello) : x.known = none := by
        rw [← Option.not_isSome_iff_eq_none, laws.phase.known, starting, step]
        decide
      rw [row (by rw [starting]; decide)
        (helloTaken_starting starting (laws.list_startUp (by rw [starting]; decide)) known)]
      have lane : { x.helloed with
            inProgress := none, startStep := some .identify, helloDeadline := none, known := none
            list := [⟨.probeIdentify, none⟩] } =
          { y with failures := failures, startStep := some .identify, known := none, helloDeadline := none } := by
        simp only [Lane.helloed, y, failures, quiet (by rw [starting]; decide)]
        rfl
      rw [lane]
      exact settled_setLane (fun run => absurd (starting.symm.trans run) (by decide)) rfl
    · have unstarted : x.helloDeadline = none := by
        rw [← Option.not_isSome_iff_eq_none, laws.phase.hello]
        intro step
        exact absurd (laws.phase.step.1 (by rw [step]; rfl)) (by rw [mismatch]; decide)
      have unprobed : x.probeDue = none := by
        rw [← Option.not_isSome_iff_eq_none]
        exact fun due => absurd (laws.phase.probe due) (by rw [mismatch]; decide)
      rw [row (by rw [mismatch]; decide) (helloTaken_mismatch mismatch)]
      have lane : Lane.enteringUnknown .starting (some .identify) .probeIdentify s.delivering
            { x.helloed with inProgress := none } =
          { y with
            phase := .starting, startStep := some .identify, known := none, failures := 0
            statusWanted := x.statusWanted || decide (s.delivery.state ≠ .off) } := by
        simp only [Lane.enteringUnknown, Lane.entering, Lane.helloed, y, quiet (by rw [mismatch]; decide), unstarted,
          unprobed]
        rfl
      rw [lane]
      exact settled_setLane nofun rfl

end Sys2Proof.Machine
end

section
/-! The ends of exchanges that move a lane on: the host commands that end its stay in RUNNING (R117, R118), and the
exchanges of start-up (R105, R107, R108, R113). -/

namespace Sys2Proof.Machine

set_option Elab.async false

/-! ## Host commands that end the stay (R117, R118) -/

/-- The lane that a RESET-MODULE brings to step WAIT_HELLO (R118). -/
def Lane.resetting (deadline : Wait) (delivering : Bool) (x : Lane) : Lane :=
  { x with
    phase := .starting, startStep := some .waitHello, failures := 0, probeDue := none, known := none
    list := x.list.filter (·.isStartUp), helloDeadline := some deadline
    statusWanted := x.statusWanted || delivering }

theorem endsStay_resetting (deadline : Wait) (delivering : Bool) : EndsStay (Lane.resetting deadline delivering) delivering :=
  ⟨fun _ => nofun, fun _ => rfl, fun _ => rfl, fun _ => rfl, fun _ exchange entry sent => ⟨exchange, entry, sent⟩,
    fun _ => ⟨rfl, rfl⟩, fun _ => rfl, fun _ => rfl, fun _ _ => rfl⟩

section

variable {s e : State} {l : LaneId} {x : Lane}

theorem resetSucceeds_setLane (same : e = { s with requests := e.requests, link := e.link }) :
    settleLamps s (resetSucceeds (e.setLane l x) l) =
      stayEnded s e l x .laneDown (Lane.resetting ⟨s.time.uptime, 1000⟩ s.delivering) := by
  have delivering : e.delivering = s.delivering := by rw [same]; rfl
  have time : e.time = s.time := by rw [same]
  obtain ⟨_, _, _, _, _, left⟩ := leaveRunning_frame (e.setLane l x) l .laneDown
  have now : (leaveRunning (e.setLane l x) l .laneDown).time = s.time := by rw [left, ← time]; rfl
  have step (t : State) : resetSucceeds t l =
      (leaveRunning t l .laneDown).modLane l
        (Lane.resetting ⟨(leaveRunning t l .laneDown).time.uptime, 1000⟩ (leaveRunning t l .laneDown).delivering) := by
    rw [resetSucceeds, setKnown, changePhase, modLane_eq (leaveRunning t l .laneDown), modLane_setLane, modLane_setLane]
    rfl
  rw [step, now, leaveRunning_delivering, stayEnded, ← delivering]
  rfl

theorem hostIdentified_setLane (same : e = { s with requests := e.requests, link := e.link }) {m : ModuleId}
    (unfit : matchesType (s.expectedType l) (some m) = false) :
    settleLamps s (hostIdentified (e.setLane l x) l m) =
      stayEnded s e l ({ x with known := some m }.withFault .typeMismatch s.delivering) .laneDown
        (·.entering .mismatch none .disable s.delivering) := by
  have delivering : e.delivering = s.delivering := by rw [same]; rfl
  have expected : (e.setLane l { x with known := some m }).expectedType l = s.expectedType l := by rw [same]; rfl
  rw [hostIdentified, setKnown_setLane, expected, if_neg (by rw [unfit]; decide), recordFault_setLane,
    enterMismatch_eq, leaveRunning_delivering, stayEnded,
    ← delivering]
  rfl

end

/-- The entries that carry a request run in RUNNING alone, and so does a LAMP (R103, R104). -/
theorem LaneLaws.running_of {x : Lane} (laws : LaneLaws x) {e : Entry} (entry : x.inProgress = some e)
    (host : e.isStartUp = false) : x.phase = .running := by
  have may := (laws.running e entry).2
  obtain ⟨kind, request⟩ := e
  revert may host
  cases x.phase <;> cases x.startStep with
    | none => cases kind <;> simp [Entry.mayRun, Entry.mayWait, Entry.isStartUp]
    | some step => cases step <;> cases kind <;> simp [Entry.mayRun, Entry.mayWait, Entry.isStartUp]

/-- The lane that leaves RUNNING for step WAIT_HELLO: stopped, with its list empty (R118). -/
theorem Lane.resetting_left {x : Lane} (list : x.list.filter (·.isStartUp) = []) (deadline : Wait) (delivering : Bool) :
    Lane.resetting deadline delivering (x.left delivering) =
      { x.stopped with
        phase := .starting, startStep := some .waitHello, known := none, list := [], helloDeadline := some deadline
        activity := if x.frame.isSome then .receiving else .idle
        statusWanted := x.statusWanted || delivering } := by
  simp only [Lane.resetting, Lane.left, Lane.leaving, Lane.stopped, restActivity, Bool.or_assoc, Bool.or_self, list]
  rfl

/-- Settles O54: the request ends OK, the rest of the host work LANE_DOWN, and the lane is STARTING or in MISMATCH. -/
theorem hostCommandEndsTheStay : Obligations.HostCommandEndsTheStay := by
  unfold Obligations.HostCommandEndsTheStay
  intro s l ex e i running laws entry request x rest
  refine ⟨fun awaits kind => ?_, fun n awaits kind count unfit => ?_⟩
  · have same : complete s i ⟨.ok, []⟩ =
        { s with requests := (complete s i ⟨.ok, []⟩).requests, link := (complete s i ⟨.ok, []⟩).link } := by
      obtain ⟨_, _, is⟩ := complete_frame s i ⟨.ok, []⟩
      rw [is]
    have lamps : SameLamps (s.lane l) x.unframed.succeeded := ⟨rfl, rfl, ⟨rfl, rfl⟩, rfl⟩
    have ends := endsStay_resetting ⟨s.time.uptime, 1000⟩ s.delivering
    refine ⟨_, ?_, leftRunning_stayEnded (l := l) (status := .laneDown) same lamps ends, ?_⟩
    · rw [exec_lastAck running awaits (laws.lastByte awaits.exchange entry (by rw [kind]; decide)),
        exchangeSucceeds_of (x := (s.lane l).unframed) entry, kind, request]
      refine congrArg _ (Eq.trans ?_ (resetSucceeds_setLane same))
      exact congrArg (fun t => settleLamps s (resetSucceeds t l)) (complete_setLane ..)
    · have run : x.phase = .running := laws.running_of entry (by rw [Entry.isStartUp, kind])
      rw [lane_stayEnded_self same lamps ends,
        Lane.resetting_left (x := x.unframed.succeeded) (laws.list_running run)]
      rfl
  · have same : complete s i ⟨.ok, [ex.typeTaken, n]⟩ =
        { s with
          requests := (complete s i ⟨.ok, [ex.typeTaken, n]⟩).requests
          link := (complete s i ⟨.ok, [ex.typeTaken, n]⟩).link } := by
      obtain ⟨_, _, is⟩ := complete_frame s i ⟨.ok, [ex.typeTaken, n]⟩
      rw [is]
    have lamps : SameLamps (s.lane l)
        ({ x.unframed.succeeded with known := some ⟨ex.typeTaken, n⟩ }.withFault .typeMismatch s.delivering) :=
      ⟨rfl, rfl, ⟨rfl, rfl⟩, rfl⟩
    have ends := endsStay_entering (p := .mismatch) (by decide) none .disable s.delivering
    refine ⟨_, ?_, leftRunning_stayEnded (l := l) (status := .laneDown) same lamps ends, ?_⟩
    · rw [exec_lastCount running awaits (laws.lastByte awaits.exchange entry (by rw [kind]; decide)) count,
        exchangeSucceeds_of (x := (s.lane l).unframed) entry, kind, request]
      refine congrArg _ (Eq.trans ?_ (hostIdentified_setLane same unfit))
      exact congrArg (fun t => settleLamps s (hostIdentified t l _)) (complete_setLane ..)
    · rw [lane_stayEnded_self same lamps ends, Lane.entering_left]
      rfl

/-! ## Entering RUNNING (R113, R129) -/

/-- The lane in its new phase, before its lamps are handed (R113). -/
def Lane.entered (x : Lane) (delivering : Bool) : Lane :=
  { x with
    phase := .running, startStep := none, failures := 0, probeDue := none, helloDeadline := none
    list := x.list.filter (·.fits .running), statusWanted := x.statusWanted || delivering }

/-- The Control Table once the lane has entered RUNNING: its bound controls UP in RUN mode (R13). -/
def enteredTable (s : State) (l : LaneId) : State :=
  match s.config.mode with
  | .run => setBoundPhysical s l .up
  | _ => s

/-- The lamps that entering hands: those of the bound controls, then every lamp of the lane (R18, R129). -/
def enteredHanded (s : State) (l : LaneId) : List (LampPosition × Bool) :=
  (enteredTable s l).handedLamps (s.controlsBoundTo l) ++
    ((List.finRange 16).map (⟨l, ·⟩)).map fun q => (q, (enteredTable s l).litAt q)

theorem writeLamps_writeLamps (s : State) (first second : List (LampPosition × Bool)) :
    (s.writeLamps first).writeLamps second = s.writeLamps (first ++ second) := by
  have lanes : ((s.writeLamps first).writeLamps second).lanes = (s.writeLamps (first ++ second)).lanes := by
    refine State.lanes_ext fun k => ?_
    refine (State.lane_writeLamps (s.writeLamps first) second k).trans ((State.lane_writeLamps s _ k).trans ?_).symm
    rw [State.lane_writeLamps, List.foldl_append]
  exact congrArg (fun lanes => ({ s with lanes := lanes } : State)) lanes

/-- What the table and the definitions determine of the lit values. -/
theorem litAt_congr {s t : State} (config : t.config = s.config) (table : t.table = s.table) : t.litAt = s.litAt := by
  obtain ⟨_, _, _, _, _, _, _, _, _, _, _, _⟩ := s
  obtain ⟨_, _, _, _, _, _, _, _, _, _, _, _⟩ := t
  simp only at config table
  subst config table
  rfl

section

variable (s : State) (l : LaneId)

/-- Setting the bound controls changes the dynamic parts alone. -/
theorem enteredTable_frame :
    enteredTable s l = { s with table := { s.table with entries := (enteredTable s l).table.entries } } := by
  unfold enteredTable
  split <;> rfl

theorem enteredTable_setLane (x : Lane) : (enteredTable (s.setLane l x) l).table = (enteredTable s l).table := by
  unfold enteredTable
  rw [show (s.setLane l x).config = s.config from rfl]
  cases s.config.mode <;> rfl

theorem enterRunning_setLane (x : Lane) :
    enterRunning (s.setLane l x) l =
      (enteredTable (s.setLane l (x.entered s.delivering)) l).writeLamps (enteredHanded s l) := by
  have step : changePhase (s.setLane l x) l .running none = s.setLane l (x.entered s.delivering) := modLane_setLane ..
  have config (y : Lane) : (enteredTable (s.setLane l y) l).config = s.config := by rw [enteredTable_frame]; rfl
  have self : (enteredTable s l).config = s.config := by rw [enteredTable_frame]
  have bound : (enteredTable (s.setLane l (x.entered s.delivering)) l).controlsBoundTo l = s.controlsBoundTo l := by
    rw [State.controlsBoundTo, config]
    rfl
  rw [enterRunning, step]
  show refreshFollow (handBound (enteredTable (s.setLane l (x.entered s.delivering)) l) l) l = _
  rw [refreshFollow, handBound, writeLamps_writeLamps, bound]
  refine congrArg (State.writeLamps _) ?_
  rw [enteredHanded, handedLamps_congr ((config _).trans self.symm) (enteredTable_setLane ..), List.map_map]
  refine congrArg _ (congrArg (List.map · _) (funext fun n => ?_))
  exact congrArg (fun lit => ((⟨l, n⟩ : LampPosition), lit ⟨l, n⟩))
    (litAt_congr ((config _).trans self.symm) (enteredTable_setLane ..))

theorem control_enteredTable {c : ControlId} (unlisted : lookupKey s.table.entries c = none → s.definition c = none) :
    (enteredTable s l).control c =
      if s.config.mode = .run ∧ s.boundTo c l = true then (s.control c).withPhysical s.time.uptime .up
      else s.control c := by
  unfold enteredTable
  split
  · next run =>
    have mapped := State.control_mapControls s
      (fun c y => if s.boundTo c l then y.withPhysical s.time.uptime .up else y) c
      fun absent => if_neg (by rw [State.boundTo, unlisted absent]; exact Bool.false_ne_true)
    exact mapped.trans (by simp only [run, true_and])
  · next other => rw [if_neg fun is => other is.1]

theorem mem_lampsOf (k : LaneId) (n : LampId) :
    (⟨k, n⟩ : LampPosition) ∈ (List.finRange 16).map (⟨l, ·⟩) ↔ k = l := by
  constructor
  · intro listed
    obtain ⟨m, _, is⟩ := List.mem_map.1 listed
    cases is
    rfl
  · rintro rfl
    exact List.mem_map.2 ⟨n, List.mem_finRange n, rfl⟩

/-- Lamps handed leave those that HOST owns (R123). -/
theorem getLsbD_handed_of_host {l : LaneId} {owners image : Half} {n : LampId} (host : owners.getLsbD n.val = true)
    (handed : List (LampPosition × Bool)) :
    (handed.foldl (followWrite l owners) image).getLsbD n.val = image.getLsbD n.val := by
  induction handed generalizing image with
  | nil => rfl
  | cons h handed ih =>
    rw [List.foldl_cons, ih, getLsbD_followWrite l owners image h.1 h.2, if_neg]
    rw [host]
    exact fun is => Bool.noConfusion is.2

/-- The lamps of the lane that enters are handed last: they decide its image. -/
theorem handedImage_entered {x : Lane} {image : Half}
    (shows : ∀ n : LampId, image.getLsbD n.val =
      if x.owners.getLsbD n.val then x.desired.getLsbD n.val else (enteredTable s l).litAt ⟨l, n⟩) :
    handedImage l x (enteredHanded s l) = image := by
  refine image_ext fun n => ?_
  rw [handedImage, enteredHanded, List.foldl_append, getLsbD_foldl_followWrite, shows n]
  cases owner : x.owners.getLsbD n.val with
  | false => rw [if_pos ⟨(mem_lampsOf l l n).2 rfl, rfl⟩]; rfl
  | true => rw [if_neg fun is => Bool.noConfusion is.2, getLsbD_handed_of_host owner]; rfl

/-- They leave every other lane as the bound controls' lamps leave it. -/
theorem handedImage_entered_ne {k : LaneId} (other : k ≠ l) (x : Lane) :
    handedImage k x (enteredHanded s l) =
      handedImage k x ((enteredTable s l).handedLamps (s.controlsBoundTo l)) := by
  refine image_ext fun n => ?_
  rw [handedImage, enteredHanded, List.foldl_append, getLsbD_foldl_followWrite,
    if_neg fun is => other ((mem_lampsOf l k n).1 is.1)]
  rfl

/-- The state after the lane has entered RUNNING and the lamps of the happening are settled. -/
def stayBegun (s : State) (l : LaneId) (x : Lane) : State := settleLamps s (enterRunning (s.setLane l x) l)

theorem stayBegun_frame (x : Lane) :
    stayBegun s l x =
      { s with
        table := { s.table with entries := (enteredTable s l).table.entries }
        lanes := (stayBegun s l x).lanes } := by
  have parts : settleLamps s (enterRunning (s.setLane l x) l) =
      { enteredTable (s.setLane l (x.entered s.delivering)) l with
        lanes := (settleLamps s (enterRunning (s.setLane l x) l)).lanes } := by
    rw [enterRunning_setLane]
    rfl
  refine parts.trans ?_
  rw [← enteredTable_setLane s l (x.entered s.delivering), enteredTable_frame]
  rfl

theorem lane_stayBegun (x : Lane) (k : LaneId) :
    (stayBegun s l x).lane k =
      settleLane (s.lane k)
        (if k = l then { x.entered s.delivering with desired := handedImage l x (enteredHanded s l) }
        else
          { s.lane k with
            desired := handedImage k (s.lane k) ((enteredTable s l).handedLamps (s.controlsBoundTo l)) }) := by
  have before : (enteredTable (s.setLane l (x.entered s.delivering)) l).lane k =
      if k = l then x.entered s.delivering else s.lane k := by
    rw [enteredTable_frame]
    exact State.lane_setLane ..
  rw [stayBegun, enterRunning_setLane, lane_settleLamps, State.lane_writeLamps, before]
  split
  · next here => subst here; rfl
  · next other =>
    rw [← handedImage_entered_ne s l other]
    rfl

theorem lane_stayBegun_ne (x : Lane) {k : LaneId} (other : k ≠ l) :
    (stayBegun s l x).lane k =
      (s.lane k).withDesired (handedImage k (s.lane k) ((enteredTable s l).handedLamps (s.controlsBoundTo l))) := by
  rw [lane_stayBegun, if_neg other]
  exact settleLane_desired _ rfl rfl

/-- The lane that has entered RUNNING: its versions begin anew and a LAMP entry waits (R129). -/
theorem lane_stayBegun_self {x : Lane} (short : (s.lane l).phase ≠ .running)
    (list : x.list.filter (fun e => !e.isStartUp) = []) :
    (stayBegun s l x).lane l =
      { x.entered s.delivering with
        desired := handedImage l x (enteredHanded s l), acked := 0, desiredVersion := 1, ackedVersion := 0
        list := [⟨.lamp, none⟩] } := by
  have kept : (x.entered s.delivering).list = [] := list
  rw [lane_stayBegun, if_pos rfl, settleLane, if_pos ⟨short, rfl⟩, Lane.queueLamp, if_pos]
  · rw [kept]
    rfl
  · refine ⟨rfl, ?_⟩
    rw [Lane.hasLampEntry, kept]
    rfl

end

/-! ## Start-up exchanges (R105, R107, R108) -/

/-- A start-up entry runs in ABSENT, STARTING or MISMATCH alone (R104). -/
theorem LaneLaws.short_of {x : Lane} (laws : LaneLaws x) {e : Entry} (entry : x.inProgress = some e)
    (startUp : e.isStartUp = true) :
    (x.phase = .absent ∧ e.kind = .probeIdentify) ∨
      (x.phase = .starting ∧ x.startStep = some .identify ∧ e.kind = .probeIdentify) ∨
      (x.phase = .starting ∧ x.startStep = some .enable ∧ e.kind ≠ .probeIdentify) ∨
      (x.phase = .mismatch ∧ e.kind = .disable) := by
  have may := (laws.running e entry).2
  obtain ⟨kind, request⟩ := e
  revert may startUp
  cases x.phase <;> cases x.startStep with
    | none => cases kind <;> simp [Entry.mayRun, Entry.mayWait, Entry.isStartUp]
    | some step => cases step <;> cases kind <;> simp [Entry.mayRun, Entry.mayWait, Entry.isStartUp]

/-- What a lane short of RUNNING does not have: a failure count, and a probe or a hello deadline outside its phase. -/
structure Lane.Unhurried (x : Lane) : Prop where
  failures : x.failures = 0
  probe : x.phase ≠ .absent → x.probeDue = none
  hello : x.startStep ≠ some .waitHello → x.helloDeadline = none
  slot : x.slot = none

theorem LaneLaws.unhurried {x : Lane} (laws : LaneLaws x) (short : x.phase ≠ .running) : x.Unhurried where
  failures := not_not.1 (mt laws.phase.failing short)
  probe other := by
    rw [← Option.not_isSome_iff_eq_none]
    exact mt laws.phase.probe other
  hello other := by
    rw [← Option.not_isSome_iff_eq_none, laws.phase.hello]
    exact other
  slot := by
    rw [← Option.not_isSome_iff_eq_none]
    exact mt laws.phase.slot short

/-- A start-up exchange that ends with a frame leaves the lane idle (R94). -/
theorem Lane.Unhurried.succeeded {x : Lane} (calm : x.Unhurried) :
    x.unframed.succeeded =
      { x with frame := none, exchange := none, inProgress := none, parityCount := none, activity := .idle } := by
  obtain ⟨failures, _, _, slot⟩ := calm
  cases x
  simp only at failures slot
  subst failures slot
  rfl

/-- The lane that a type brings to MISMATCH (R107). -/
theorem Lane.mismatched {x : Lane} (failures : x.failures = 0) (hello : x.helloDeadline = none) (delivering : Bool) :
    (x.withFault .typeMismatch delivering).entering .mismatch none .disable delivering =
      { x.withFault .typeMismatch delivering with
        phase := .mismatch, startStep := none, probeDue := none, list := [⟨.disable, none⟩] } := by
  cases x
  simp only at failures hello
  subst failures hello
  simp only [Lane.entering, Lane.withFault, Bool.or_assoc, Bool.or_self]

section

variable {s : State} {l : LaneId} {x : Lane}

/-- A probe finds a type that matches (R105, R107). -/
theorem checkIdentified_fits (fits : matchesType (s.expectedType l) x.known = true)
    (phase : x.phase = .absent ∨ x.phase = .starting) (failures : x.failures = 0)
    (probe : x.phase ≠ .absent → x.probeDue = none) (list : x.list.filter (fun e => !e.isStartUp) = []) :
    checkIdentified (s.setLane l x) l =
      s.setLane l
        { x with
          phase := .starting, startStep := some .enable, probeDue := none, helloDeadline := none
          list := [⟨.enable, none⟩]
          statusWanted := x.statusWanted || (decide (x.phase = .absent) && s.delivering) } := by
  rw [checkIdentified, State.lane_setLane_self]
  refine (if_pos fits).trans ?_
  rcases phase with is | is
  · rw [is]
    show queueStartUp (changePhase (s.setLane l x) l .starting (some .enable)) l .enable = _
    rw [changePhase, modLane_setLane, queueStartUp_setLane]
    dsimp only
    rw [filter_fits_startUp x.list (.inr (.inl rfl)), ← failures]
    rfl
  · rw [is]
    show queueStartUp (changeStep (s.setLane l x) l .enable) l .enable = _
    rw [changeStep_setLane, queueStartUp_setLane]
    dsimp only
    rw [list, ← probe (by rw [is]; decide), ← is]
    simp [is]

/-- A type that does not match brings the lane to MISMATCH (R107). -/
theorem checkIdentified_unfit (unfit : matchesType (s.expectedType l) x.known = false) :
    checkIdentified (s.setLane l x) l =
      s.setLane l ((x.withFault .typeMismatch s.delivering).entering .mismatch none .disable s.delivering) := by
  rw [checkIdentified, State.lane_setLane_self, ← typeMismatch_setLane]
  exact if_neg (ne_true_of_eq_false unfit)

theorem checkEnabled_fits (fits : matchesType (s.expectedType l) x.known = true) :
    checkEnabled (s.setLane l x) l = enterRunning (s.setLane l x) l := by
  rw [checkEnabled, State.lane_setLane_self]
  exact if_pos fits

theorem checkEnabled_unfit (unfit : matchesType (s.expectedType l) x.known = false) :
    checkEnabled (s.setLane l x) l =
      s.setLane l ((x.withFault .typeMismatch s.delivering).entering .mismatch none .disable s.delivering) := by
  rw [checkEnabled, State.lane_setLane_self, ← typeMismatch_setLane]
  exact if_neg (ne_true_of_eq_false unfit)

end

/-- Settles O52: a probe, SCAN-ENABLE and SCAN-DISABLE succeed. -/
theorem startUpExchangesSucceed : Obligations.StartUpExchangesSucceed := by
  unfold Obligations.StartUpExchangesSucceed
  refine ⟨fun s l ex n e running laws awaits entry kind count => ?_,
    fun s l ex e image running laws table awaits entry kind fits => ?_, fun s l ex e running laws awaits entry => ?_⟩
  · intro x delivering expected y
    have phases : x.phase = .absent ∨ x.phase = .starting ∧ x.startStep = some .identify := by
      simpa [kind] using laws.short_of entry (by rw [Entry.isStartUp, kind])
    have short : x.phase ≠ .running := by rcases phases with is | ⟨is, _⟩ <;> rw [is] <;> decide
    have calm := laws.unhurried short
    have hello : x.helloDeadline = none := calm.hello fun step => by
      rcases phases with is | ⟨_, is⟩
      · exact absurd (laws.phase.step.1 (by rw [step]; rfl)) (by rw [is]; decide)
      · exact absurd (is.symm.trans step) (by decide)
    have lane : { x.unframed.succeeded with known := some ⟨ex.typeTaken, n⟩ } = y := by
      rw [calm.succeeded]
      show _ = { x.ended with frame := none, activity := .idle, known := some ⟨ex.typeTaken, n⟩, failures := 0 }
      rw [← calm.failures]
      rfl
    have row : exec (.goodFrame l n) s = .next (settleLamps s (checkIdentified (s.setLane l y) l)) := by
      rw [exec_lastCount running awaits (laws.lastByte awaits.exchange entry (by rw [kind]; decide)) count,
        exchangeSucceeds_of (x := (s.lane l).unframed) entry, kind, ← lane]
      dsimp only
      rw [setKnown_setLane]
    refine ⟨fun fits => ?_, fun any other => ?_⟩
    · rw [row, checkIdentified_fits (x := y) (matchesType_iff.2 fits) (phases.imp_right And.left) rfl calm.probe
        (laws.list_startUp short)]
      have same : y.helloDeadline = none := hello
      rw [← same]
      exact settled_setLane nofun rfl
    · rw [row, checkIdentified_unfit (x := y) (matchesType_none_of_ne.2 ⟨any, other⟩)]
      rw [Lane.mismatched (x := y) rfl hello]
      exact settled_setLane nofun rfl
  · intro x
    obtain ⟨starting, step⟩ : x.phase = .starting ∧ x.startStep = some .enable := by
      simpa [kind] using laws.short_of entry (by rw [Entry.isStartUp, kind])
    have short : x.phase ≠ .running := by rw [starting]; decide
    have calm := laws.unhurried short
    have row : exec (.goodFrame l 0xB4) s = .next (stayBegun s l x.unframed.succeeded) := by
      rw [exec_lastAck running awaits (laws.lastByte awaits.exchange entry (by rw [kind]; decide)),
        exchangeSucceeds_of (x := (s.lane l).unframed) entry, kind]
      dsimp only
      rw [checkEnabled_fits (x := (s.lane l).unframed.succeeded) fits]
      rfl
    have control (c : ControlId) := control_enteredTable s l (c := c) table.unlisted_iff.1
    have frame := stayBegun_frame s l x.unframed.succeeded
    have tables : (stayBegun s l x.unframed.succeeded).table = (enteredTable s l).table := by
      rw [frame, enteredTable_frame]
    have config : (stayBegun s l x.unframed.succeeded).config = (enteredTable s l).config := by
      rw [frame, enteredTable_frame]
    have handed := handedLamps_congr config tables (s.controlsBoundTo l)
    refine ⟨_, row, ?_, ?_, fun c => ?_, fun k other => ?_, fun shows => ?_⟩
    · rw [tables]
      exact frame.trans (by rw [enteredTable_frame])
    · rw [frame]
    · rw [← control c, State.control, State.control, tables]
    · rw [handed, lane_stayBegun_ne s l _ other]
    · rw [litAt_congr config tables] at shows
      rw [lane_stayBegun_self s l (x := x.unframed.succeeded) short (laws.list_startUp short),
        handedImage_entered s l (x := x.unframed.succeeded) shows, calm.succeeded]
      have probe : x.probeDue = none := calm.probe (by rw [starting]; decide)
      have hello : x.helloDeadline = none := calm.hello (by rw [step]; decide)
      simp only [Lane.entered, probe, hello, x]
      rfl
  · intro x y
    refine ⟨fun kind unfit => ?_, fun kind => ?_⟩
    · obtain ⟨starting, step⟩ : x.phase = .starting ∧ x.startStep = some .enable := by
        simpa [kind] using laws.short_of entry (by rw [Entry.isStartUp, kind])
      have calm := laws.unhurried (by rw [starting]; decide)
      have probe : y.probeDue = none := calm.probe (by rw [starting]; decide)
      rw [exec_lastAck running awaits (laws.lastByte awaits.exchange entry (by rw [kind]; decide)),
        exchangeSucceeds_of (x := (s.lane l).unframed) entry, kind]
      dsimp only
      rw [calm.succeeded, checkEnabled_unfit]
      · rw [Lane.mismatched (x := y) calm.failures (calm.hello (by rw [step]; decide)), ← probe]
        exact settled_setLane nofun rfl
      · exact unfit
    · have short : x.phase ≠ .running := by
        rcases laws.short_of entry (by rw [Entry.isStartUp, kind]) with ⟨is, _⟩ | ⟨is, _⟩ | ⟨is, _⟩ | ⟨is, _⟩ <;>
          rw [is] <;> decide
      rw [exec_lastAck running awaits (laws.lastByte awaits.exchange entry (by rw [kind]; decide)),
        exchangeSucceeds_of (x := (s.lane l).unframed) entry, kind]
      dsimp only
      rw [(laws.unhurried short).succeeded]
      exact settled_setLane id rfl

end Sys2Proof.Machine
end

section
/-! Lane settings (R115): how a lane takes its setting, and SET-LANE (R145). -/

namespace Sys2Proof.Machine

set_option Elab.async false

/-! ## Disabling and enabling (R115) -/

/-- The lane that is disabled, everything under way dropped (R115). -/
def Lane.disabling (x : Lane) (delivering : Bool) : Lane :=
  { x with
    phase := .disabled, startStep := none, failures := 0, probeDue := none, helloDeadline := none
    exchange := none, inProgress := none, parityCount := none, known := none, list := []
    activity := if x.frame.isSome then .receiving else .off, statusWanted := x.statusWanted || delivering }

/-- The lane that is enabled: ABSENT, with a probe queued at once (R105, R115). -/
def Lane.enabling (x : Lane) (delivering : Bool) : Lane :=
  { x.enteringUnknown .absent none .probeIdentify delivering with activity := restActivity x }

theorem endsStay_disabling (delivering : Bool) : EndsStay (·.disabling delivering) delivering :=
  ⟨fun _ => nofun, fun _ => rfl, fun _ => rfl, fun _ => rfl, fun _ _ _ sent => ⟨rfl, rfl, sent⟩, fun _ => ⟨rfl, rfl⟩,
    fun _ => rfl, fun _ => rfl, fun _ _ => rfl⟩

section

variable {s : State} {l : LaneId}

theorem disableLane_short (short : (s.lane l).phase ≠ .running) :
    disableLane s l = s.setLane l ((s.lane l).disabling s.delivering) := by
  rw [disableLane, if_neg short]
  rw [changePhase, modLane_eq s, modLane_setLane]
  rfl

theorem disableLane_running (run : (s.lane l).phase = .running) :
    disableLane s l = (leaveRunning s l .aborted).modLane l (·.disabling s.delivering) := by
  rw [disableLane, if_pos run, ← leaveRunning_delivering s l .aborted]
  rw [changePhase, modLane_eq (leaveRunning s l .aborted), modLane_setLane]
  rfl

theorem enableLane_eq : enableLane s l = s.setLane l ((s.lane l).enabling s.delivering) := by
  rw [enableLane, enterAbsent_eq, modLane_eq s, modLane_setLane]
  rfl

/-! ## A changed expected type (R115) -/

/-- The lane in MISMATCH whose module fits its new type (R115). -/
def Lane.fitting (x : Lane) (delivering : Bool) : Lane := x.entering .starting (some .enable) .enable delivering

theorem Lane.fitting_of {x : Lane}
    (failures : x.failures = 0) (probe : x.probeDue = none) (hello : x.helloDeadline = none) :
    x.fitting false = { x with phase := .starting, startStep := some .enable, list := [⟨.enable, none⟩] } := by
  cases x
  simp only at failures probe hello
  subst failures probe hello
  simp only [Lane.fitting, Lane.entering, Bool.or_false]

theorem applyExpectedType_kept
    (kept : (s.lane l).phase = .running → matchesType (s.expectedType l) (s.lane l).known = true)
    (unfit : (s.lane l).phase = .mismatch → matchesType (s.expectedType l) (s.lane l).known = false) :
    applyExpectedType s l = s := by
  unfold applyExpectedType
  dsimp only
  split
  · next run => rw [kept run]; rfl
  · next mismatch => rw [unfit mismatch]; rfl
  all_goals rfl

theorem applyExpectedType_fits (mismatch : (s.lane l).phase = .mismatch)
    (fits : matchesType (s.expectedType l) (s.lane l).known = true) :
    applyExpectedType s l = s.setLane l ((s.lane l).fitting s.delivering) := by
  rw [applyExpectedType]
  rw [mismatch, fits]
  show queueStartUp (changePhase s l .starting (some .enable)) l .enable = _
  rw [changePhase, modLane_eq s, queueStartUp_setLane]
  dsimp only
  rw [filter_fits_startUp (s.lane l).list (.inr (.inl rfl))]
  rfl

theorem applyExpectedType_leaves (run : (s.lane l).phase = .running)
    (unfit : matchesType (s.expectedType l) (s.lane l).known = false) :
    applyExpectedType s l =
      (leaveRunning (s.setLane l ((s.lane l).withFault .typeMismatch s.delivering)) l .aborted).modLane l
        (·.entering .mismatch none .disable s.delivering) := by
  have fault : recordFault s l .typeMismatch = s.setLane l ((s.lane l).withFault .typeMismatch s.delivering) := by
    have set := recordFault_setLane s l (s.lane l) .typeMismatch
    rw [setLane_self] at set
    exact set
  have delivering := leaveRunning_delivering (s.setLane l ((s.lane l).withFault .typeMismatch s.delivering)) l .aborted
  rw [applyExpectedType]
  rw [run, unfit]
  show enterMismatch (leaveRunning (recordFault s l .typeMismatch) l .aborted) l = _
  rw [fault, enterMismatch_eq, delivering]
  rfl

/-! ## A setting taken (R115) -/

variable {old new : LaneSetting} (is : s.config.working.lanes[l] = new)

include is

theorem applySetting_disabled (off : new.enabled = false) (disabled : (s.lane l).phase = .disabled) :
    applySetting s l old = s := by
  rw [applySetting]
  rw [is, off, disabled]
  rfl

theorem applySetting_disables (off : new.enabled = false) (enabled : (s.lane l).phase ≠ .disabled) :
    applySetting s l old = disableLane s l := by
  rw [applySetting]
  rw [is, off, decide_eq_false enabled]

theorem applySetting_enables (on : new.enabled = true) (disabled : (s.lane l).phase = .disabled) :
    applySetting s l old = s.setLane l ((s.lane l).enabling s.delivering) := by
  rw [applySetting, ← enableLane_eq]
  rw [is, on, disabled]
  rfl

theorem applySetting_sameType (on : new.enabled = true) (enabled : (s.lane l).phase ≠ .disabled)
    (same : new.expectedType = old.expectedType) : applySetting s l old = s := by
  rw [applySetting]
  rw [is, on, decide_eq_false enabled]
  exact if_pos same

theorem applySetting_newType (on : new.enabled = true) (enabled : (s.lane l).phase ≠ .disabled)
    (other : new.expectedType ≠ old.expectedType) : applySetting s l old = applyExpectedType s l := by
  rw [applySetting]
  rw [is, on, decide_eq_false enabled]
  exact if_neg other

end

/-! ## A setting that ends the stay in RUNNING (R114, R115) -/

section

variable {s : State} {l : LaneId}

theorem disableLane_stayEnded (run : (s.lane l).phase = .running) :
    settleLamps s (disableLane s l) = stayEnded s s l (s.lane l) .aborted (·.disabling s.delivering) := by
  rw [disableLane_running run, stayEnded, setLane_self]

theorem applyExpectedType_stayEnded (run : (s.lane l).phase = .running)
    (unfit : matchesType (s.expectedType l) (s.lane l).known = false) :
    settleLamps s (applyExpectedType s l) =
      stayEnded s s l ((s.lane l).withFault .typeMismatch s.delivering) .aborted
        (·.entering .mismatch none .disable s.delivering) := by
  rw [applyExpectedType_leaves run unfit, stayEnded]

/-- A RUNNING lane that is disabled: stopped, with its list empty (R115). -/
theorem Lane.disabling_left (x : Lane) :
    (x.left false).disabling false =
      { x.stopped with
        phase := .disabled, known := none, list := [], activity := if x.frame.isSome then .receiving else .off } := by
  simp only [Lane.disabling, Lane.left, Lane.leaving, Lane.stopped, Bool.or_false]

end

/-! ## SET-LANE (R145) -/

section

variable {p t : State} (i : SlotId) {b e ty : Byte} {l : LaneId} {image : ConfigImage}

theorem setLaneRequest_badField (bad : 7 < b.toNat ∨ 1 < e.toNat ∨ 0x7F < ty.toNat) :
    setLaneRequest i [b, e, ty] p = complete p i (bare .badField) := by
  rw [setLaneRequest]
  rcases bad with lane | flag | high
  · rw [laneOf_eq_none lane]
  · rw [flagOf_high flag]
    split <;> simp_all
  · split
    · exact if_pos (by bv_omega)
    · rfl

/-- SET-LANE answers from the state in which the lane has taken its setting (R145). -/
theorem setLaneRequest_applies (lane : b.toNat = l.val) (flag : e.toNat ≤ 1) (type : ty.toNat ≤ 0x7F)
    (edited : image =
      { p.config.working with lanes := p.config.working.lanes.set l ⟨decide (e = 1), ty⟩ })
    (applied : settleLamps p (applySetting (setWorking p image) l p.config.working.lanes[l]) = t)
    (dirty : t.config.dirty = decide (image ≠ p.config.storeCopy)) :
    setLaneRequest i [b, e, ty] p =
      complete t i ⟨.ok, [if image = p.config.storeCopy then 0 else 1, (t.lane l).phase.code]⟩ := by
  have read : flagOf e = some (decide (e = 1)) := by
    cases is : flagOf e with
    | none => exact absurd (flagOf_eq_none_iff.1 is) (by omega)
    | some v => rw [flagOf_eq_some is]
  have code : flagCode t.config.dirty = if image = p.config.storeCopy then 0 else 1 := by
    rw [dirty]
    by_cases same : image = p.config.storeCopy <;> simp [same, flagCode]
  have changed : changeSetting p l ⟨decide (e = 1), ty⟩ = t := by
    rw [← applied, edited]
    rfl
  have low : ¬0x7F#8 < ty := by bv_omega
  simp only [setLaneRequest, laneOf_of_val lane, read, if_neg low, changed, code]

end

/-- The setting of the lane in the edited image. -/
theorem lane_setWorking {p : State} {l : LaneId} {image : ConfigImage} {new : LaneSetting}
    (edited : image = { p.config.working with lanes := p.config.working.lanes.set l new }) :
    (setWorking p image).config.working.lanes[l] = new := by
  rw [edited]
  simp [setWorking_eq]

/-- Settles O31: the refusals, then the setting by its change and the lane's phase. -/
theorem setLaneAppliesTheSetting : Obligations.SetLaneAppliesTheSetting := by
  unfold Obligations.SetLaneAppliesTheSetting
  refine ⟨fun s tag b e ty i taken config off => ?_, ?_⟩
  · intro p
    have carried : exec (.setLane tag [b, e, ty]) s = .next (setLaneRequest i [b, e, ty] p) :=
      exec_taken_carried .setLane rfl taken rfl (by rw [config]; rfl)
    refine ⟨fun bad => by rw [carried, setLaneRequest_badField (p := p) i bad], ?_⟩
    intro l x image lane is_x flag type edited q dirty
    subst is_x
    have quiet : q.delivering = false := by
      show decide (s.delivery.state ≠ .off) = false
      simp [off]
    have new : q.config.working.lanes[l] = ⟨decide (e = 1), ty⟩ := lane_setWorking (p := p) edited
    have expected : q.expectedType l = ty := congrArg LaneSetting.expectedType new
    have row {t : State} (applied : settleLamps q (applySetting q l s.config.working.lanes[l]) = t)
        (is_dirty : t.config.dirty = decide (image ≠ s.config.storeCopy)) :
        exec (.setLane tag [b, e, ty]) s = .next (complete t i ⟨.ok, [dirty, (t.lane l).phase.code]⟩) := by
      rw [carried, setLaneRequest_applies (p := p) i lane flag type edited applied is_dirty]
      rfl
    have kept (applied : applySetting q l s.config.working.lanes[l] = q) :
        exec (.setLane tag [b, e, ty]) s = .next (complete q i ⟨.ok, [dirty, (s.lane l).phase.code]⟩) :=
      row ((congrArg (settleLamps q) applied).trans (settleLamps_same q q fun _ => ⟨rfl, rfl⟩)) rfl
    have moved {y : Lane} (applied : applySetting q l s.config.working.lanes[l] = q.setLane l y)
        (short : y.phase ≠ .running) (desired : y.desired = (s.lane l).desired) :
        exec (.setLane tag [b, e, ty]) s = .next (complete (q.setLane l y) i ⟨.ok, [dirty, y.phase.code]⟩) := by
      have settled : settleLamps q (q.setLane l y) = q.setLane l y :=
        settleLamps_of_lanes rfl (fun run => absurd run short) desired
      rw [row ((congrArg (settleLamps q) applied).trans settled) rfl, State.lane_setLane_self]
    have on (yes : e = 1) : (⟨decide (e = 1), ty⟩ : LaneSetting).enabled = true := decide_eq_true yes
    have no (zero : e = 0) : (⟨decide (e = 1), ty⟩ : LaneSetting).enabled = false := by rw [zero]; rfl
    have typed (yes : e = 1) (enabled : (s.lane l).phase ≠ .disabled)
        (stays : (s.lane l).phase = .running → matchesType ty (s.lane l).known = true)
        (unfit : (s.lane l).phase = .mismatch → matchesType ty (s.lane l).known = false) :
        applySetting q l s.config.working.lanes[l] = q := by
      by_cases same : ty = s.config.working.lanes[l].expectedType
      · exact applySetting_sameType new (on yes) enabled same
      · rw [applySetting_newType new (on yes) enabled same, applyExpectedType_kept]
        · rw [expected]; exact stays
        · rw [expected]; exact unfit
    refine ⟨fun yes disabled => ?_, fun zero disabled => ?_, fun zero enabled short => ?_, fun yes enabled same => ?_,
      fun yes short => ?_, fun m known => ⟨fun yes run fits => ?_, fun yes mismatch any other => ?_,
      fun yes mismatch other fits laws => ?_⟩⟩
    · rw [moved (applySetting_enables new (on yes) disabled) nofun rfl, quiet]
      simp only [Lane.enabling, Lane.enteringUnknown, Lane.entering, Bool.or_false]
      rfl
    · rw [kept (applySetting_disabled new (no zero) disabled), disabled]
      rfl
    · rw [moved ((applySetting_disables new (no zero) enabled).trans (disableLane_short short)) nofun rfl, quiet]
      simp only [Lane.disabling, Bool.or_false]
      rfl
    · exact kept (applySetting_sameType new (on yes) enabled same)
    · have enabled : (s.lane l).phase ≠ .disabled := by rcases short with is | is <;> rw [is] <;> decide
      refine kept (typed yes enabled (fun run => ?_) fun mismatch => ?_)
      · rcases short with is | is <;> cases is.symm.trans run
      · rcases short with is | is <;> cases is.symm.trans mismatch
    · rw [kept (typed yes (by rw [run]; decide) (fun _ => by rw [known]; exact matchesType_iff.2 fits)
        fun mismatch => by cases run.symm.trans mismatch), run]
      rfl
    · rw [kept (typed yes (by rw [mismatch]; decide) (fun run => by cases run.symm.trans mismatch)
        fun _ => by rw [known]; exact matchesType_none_of_ne.2 ⟨any, other⟩), mismatch]
      rfl
    · have fits' : matchesType (q.expectedType l) (q.lane l).known = true := by
        rw [expected]
        show matchesType ty (s.lane l).known = true
        rw [known]
        exact matchesType_iff.2 fits
      rw [moved ((applySetting_newType new (on yes) (by show (s.lane l).phase ≠ _; rw [mismatch]; decide) other).trans
        (applyExpectedType_fits mismatch fits')) nofun rfl, quiet]
      have short : (s.lane l).phase ≠ .running := by rw [mismatch]; decide
      have calm := laws.unhurried short
      have hello : (s.lane l).helloDeadline = none := calm.hello fun step => by
        cases mismatch.symm.trans (laws.phase.step.1 (by rw [step]; rfl))
      have lane : (q.lane l).fitting false =
          { s.lane l with phase := .starting, startStep := some .enable, list := [⟨.enable, none⟩] } := by
        have probe : (s.lane l).probeDue = none := calm.probe (by rw [mismatch]; decide)
        show (s.lane l).fitting false = _
        exact Lane.fitting_of calm.failures probe hello
      rw [lane]
      rfl
  · intro s tag b e ty i l x m image taken config off laws lane is_x run known flag type edited leaves p q
    subst is_x
    have carried : exec (.setLane tag [b, e, ty]) s = .next (setLaneRequest i [b, e, ty] p) :=
      exec_taken_carried .setLane rfl taken rfl (by rw [config]; rfl)
    have quiet : q.delivering = false := by
      show decide (s.delivery.state ≠ .off) = false
      simp [off]
    have new : q.config.working.lanes[l] = ⟨decide (e = 1), ty⟩ := lane_setWorking (p := p) edited
    have expected : q.expectedType l = ty := congrArg LaneSetting.expectedType new
    have row {t : State} (applied : settleLamps q (applySetting q l s.config.working.lanes[l]) = t)
        (is_dirty : t.config.dirty = decide (image ≠ s.config.storeCopy)) :=
      carried.trans (congrArg _ (setLaneRequest_applies (p := p) i lane flag type edited applied is_dirty))
    have enabled : (s.lane l).phase ≠ .disabled := by rw [run]; decide
    by_cases zero : e = 0
    · have lamps : SameLamps (q.lane l) (s.lane l) := ⟨rfl, rfl, ⟨rfl, rfl⟩, rfl⟩
      have ends := endsStay_disabling q.delivering
      have applied : settleLamps q (applySetting q l s.config.working.lanes[l]) =
          stayEnded q q l (s.lane l) .aborted (·.disabling q.delivering) := by
        rw [applySetting_disables new (by rw [zero]; rfl) enabled]
        exact disableLane_stayEnded run
      have self := lane_stayEnded_self (s := q) (e := q) (l := l) (status := .aborted) rfl lamps ends
      have frame := stayEnded_frame (s := q) (e := q) (l := l) (x := s.lane l) (status := .aborted)
        (f := (·.disabling q.delivering)) rfl
      refine ⟨_, leftRunning_stayEnded (l := l) (status := .aborted) (s := q) (e := q) rfl lamps ends, ?_, ?_⟩
      · rw [row applied (by rw [frame]), self, if_pos zero]
        rfl
      · rw [self, quiet, if_pos zero, if_pos zero, if_pos zero, if_pos zero, Lane.disabling_left,
          if_pos zero]
    · obtain ⟨changed, any, other⟩ := leaves.resolve_left zero
      have yes : e = 1 := by bv_omega
      have lamps : SameLamps (q.lane l) ((s.lane l).withFault .typeMismatch q.delivering) := ⟨rfl, rfl, ⟨rfl, rfl⟩, rfl⟩
      have ends := endsStay_entering (p := .mismatch) (by decide) none .disable q.delivering
      have applied : settleLamps q (applySetting q l s.config.working.lanes[l]) =
          stayEnded q q l ((s.lane l).withFault .typeMismatch q.delivering) .aborted
            (·.entering .mismatch none .disable q.delivering) := by
        rw [applySetting_newType new (decide_eq_true yes) enabled changed]
        refine applyExpectedType_stayEnded run ?_
        rw [expected]
        exact (congrArg (matchesType ty) known).trans (matchesType_none_of_ne.2 ⟨any, other⟩)
      have self := lane_stayEnded_self (s := q) (e := q) (l := l) (status := .aborted) rfl lamps ends
      have frame := stayEnded_frame (s := q) (e := q) (l := l) (x := (s.lane l).withFault .typeMismatch q.delivering)
        (status := .aborted) (f := (·.entering .mismatch none .disable q.delivering)) rfl
      refine ⟨_, leftRunning_stayEnded (l := l) (x := (s.lane l).withFault .typeMismatch q.delivering)
        (status := .aborted) (s := q) (e := q) rfl lamps ends, ?_, ?_⟩
      · rw [row applied (by rw [frame]), self, if_neg zero]
        rfl
      · rw [self, quiet, if_neg zero, if_neg zero, if_neg zero, if_neg zero, if_neg zero, Lane.entering_left, ← known]
        rfl

end Sys2Proof.Machine
end

section
/-! Every lane takes its setting (R115, R147): lane by lane, and the state that all eight leave. -/

namespace Sys2Proof.Machine

set_option Elab.async false

/-! ## The lane that takes its setting -/

/-- A lane as settings find it: its phase laws hold, and no image is sent short of RUNNING. -/
structure Lane.Orderly (x : Lane) : Prop where
  phase : PhaseLaws x
  sent : x.phase ≠ .running → x.sent = none

theorem LaneLaws.orderly {x : Lane} (laws : LaneLaws x) : x.Orderly where
  phase := laws.phase
  sent short := by
    rw [← Option.not_isSome_iff_eq_none, laws.sent]
    rintro ⟨e, entry, lamp⟩
    exact short (laws.running_of entry (by rw [Entry.isStartUp, lamp]))

theorem Lane.Orderly.withImage {x : Lane} (orderly : x.Orderly) (image : Half) : { x with desired := image }.Orderly :=
  ⟨{ orderly.phase with }, orderly.sent⟩

/-- The setting takes the lane out of RUNNING (R115). -/
def Lane.endedBy (x : Lane) (old new : LaneSetting) : Bool :=
  decide (x.phase = .running ∧
    (new.enabled = false ∨
      (new.expectedType ≠ old.expectedType ∧ matchesType new.expectedType x.known = false)))

section

variable {x : Lane} {old new : LaneSetting}

theorem Lane.settingTaken_disabled (off : new.enabled = false) (disabled : x.phase = .disabled) :
    x.settingTaken old new = x := by
  rw [Lane.settingTaken, off, disabled]

theorem Lane.settingTaken_disables (off : new.enabled = false) (enabled : x.phase ≠ .disabled) :
    x.settingTaken old new =
      { x.stopped with
        phase := .disabled, known := none, list := [], activity := if x.frame.isSome then .receiving else .off } := by
  rw [Lane.settingTaken, off]
  cases phase : x.phase <;> simp_all

theorem Lane.settingTaken_enables (on : new.enabled = true) (disabled : x.phase = .disabled) :
    x.settingTaken old new =
      { x with
        phase := .absent, list := [⟨.probeIdentify, none⟩]
        activity := if x.frame.isSome then .receiving else .idle } := by
  rw [Lane.settingTaken, on, disabled]

/-- An enabled lane has no use for a setting that leaves its type as it was, or that its module fits as before. -/
theorem Lane.settingTaken_kept (on : new.enabled = true) (enabled : x.phase ≠ .disabled)
    (runs : x.phase = .running → new.expectedType = old.expectedType ∨ matchesType new.expectedType x.known = true)
    (differs : x.phase = .mismatch → new.expectedType = old.expectedType ∨ matchesType new.expectedType x.known = false) :
    x.settingTaken old new = x := by
  rw [Lane.settingTaken, on]
  cases phase : x.phase with
  | disabled => exact absurd phase enabled
  | absent => rfl
  | starting => rfl
  | running => rcases runs phase with is | is <;> rw [is] <;> simp
  | mismatch => rcases differs phase with is | is <;> rw [is] <;> simp

theorem Lane.settingTaken_fits (on : new.enabled = true) (mismatch : x.phase = .mismatch)
    (other : new.expectedType ≠ old.expectedType) (fits : matchesType new.expectedType x.known = true) :
    x.settingTaken old new = { x with phase := .starting, startStep := some .enable, list := [⟨.enable, none⟩] } := by
  rw [Lane.settingTaken, on, mismatch, decide_eq_false other, fits]

theorem Lane.settingTaken_mismatch (on : new.enabled = true) (run : x.phase = .running)
    (other : new.expectedType ≠ old.expectedType) (unfit : matchesType new.expectedType x.known = false) :
    x.settingTaken old new =
      { (x.stopped.withFault .typeMismatch false) with
        phase := .mismatch, list := [⟨.disable, none⟩]
        activity := if x.frame.isSome then .receiving else .idle } := by
  rw [Lane.settingTaken, on, run, decide_eq_false other, unfit]

/-- What a setting leaves of a lane does not bear on its image. -/
theorem Lane.settingTaken_withImage (image : Half) :
    { x with desired := image }.settingTaken old new = { x.settingTaken old new with desired := image } := by
  simp only [Lane.settingTaken]
  split
  · rfl
  · rfl
  · rfl
  · split <;> rfl

end

/-! ## Lanes short of RUNNING -/

namespace Lane.Orderly

variable {x : Lane} (orderly : x.Orderly)

include orderly

theorem unhurried (short : x.phase ≠ .running) : x.Unhurried where
  failures := not_not.1 (mt orderly.phase.failing short)
  probe other := by
    rw [← Option.not_isSome_iff_eq_none]
    exact mt orderly.phase.probe other
  hello other := by
    rw [← Option.not_isSome_iff_eq_none, orderly.phase.hello]
    exact other
  slot := by
    rw [← Option.not_isSome_iff_eq_none]
    exact mt orderly.phase.slot short

theorem noStep (other : x.phase ≠ .starting) : x.startStep = none := by
  rw [← Option.not_isSome_iff_eq_none, orderly.phase.step]
  exact other

theorem noHello (other : x.phase ≠ .starting) (short : x.phase ≠ .running) : x.helloDeadline = none :=
  (orderly.unhurried short).hello (by rw [orderly.noStep other]; nofun)

/-- A lane short of RUNNING that is disabled: what is under way is its own (R115). -/
theorem disabling_eq (short : x.phase ≠ .running) :
    x.disabling false =
      { x.stopped with
        phase := .disabled, known := none, list := [], activity := if x.frame.isSome then .receiving else .off } := by
  have waiters : x.waiters = [] := not_not.1 (mt orderly.phase.waiting short)
  have slot := (orderly.unhurried short).slot
  have sent := orderly.sent short
  cases x
  simp only at waiters slot sent
  subst waiters slot sent
  simp only [Lane.disabling, Lane.stopped, Bool.or_false]

theorem enabling_eq (disabled : x.phase = .disabled) :
    x.enabling false =
      { x with
        phase := .absent, list := [⟨.probeIdentify, none⟩]
        activity := if x.frame.isSome then .receiving else .idle } := by
  have short : x.phase ≠ .running := by rw [disabled]; decide
  have calm := orderly.unhurried short
  have step := orderly.noStep (by rw [disabled]; decide)
  have hello := orderly.noHello (by rw [disabled]; decide) short
  have probe := calm.probe (by rw [disabled]; decide)
  have known : x.known = none := by
    rw [← Option.not_isSome_iff_eq_none, orderly.phase.known, step, disabled]
    decide
  obtain ⟨failures, _, _, slot⟩ := calm
  cases x
  simp only at step hello probe known failures slot
  subst step hello probe known failures slot
  simp only [Lane.enabling, Lane.enteringUnknown, Lane.entering, restActivity, Bool.or_false]
  rfl

theorem fitting_eq (mismatch : x.phase = .mismatch) :
    x.fitting false = { x with phase := .starting, startStep := some .enable, list := [⟨.enable, none⟩] } := by
  have short : x.phase ≠ .running := by rw [mismatch]; decide
  have calm := orderly.unhurried short
  exact Lane.fitting_of calm.failures (calm.probe (by rw [mismatch]; decide))
    (orderly.noHello (by rw [mismatch]; decide) short)

end Lane.Orderly

/-! ## One lane takes its setting (R115) -/

section

variable {s : State} {l : LaneId} {old new : LaneSetting} (quiet : s.delivering = false)
  (is : s.config.working.lanes[l] = new)

include quiet is

/-- A setting that does not end a stay in RUNNING changes the lane alone. -/
theorem applySetting_stays (orderly : (s.lane l).Orderly) (stays : (s.lane l).endedBy old new = false) :
    applySetting s l old = s.setLane l ((s.lane l).settingTaken old new) := by
  have expected : s.expectedType l = new.expectedType := congrArg LaneSetting.expectedType is
  have fits (run : (s.lane l).phase = .running) : new.enabled = true ∧
      (new.expectedType = old.expectedType ∨ matchesType new.expectedType (s.lane l).known = true) := by
    have stays := of_decide_eq_false stays
    simp only [run, true_and, not_or, not_and, Bool.not_eq_false] at stays
    exact ⟨stays.1, or_iff_not_imp_left.2 stays.2⟩
  cases on : new.enabled with
  | false =>
    by_cases disabled : (s.lane l).phase = .disabled
    · rw [applySetting_disabled is on disabled, Lane.settingTaken_disabled on disabled, setLane_self]
    · have short : (s.lane l).phase ≠ .running := fun run => by simp [on] at fits; exact fits run
      rw [applySetting_disables is on disabled, disableLane_short short, quiet, orderly.disabling_eq short,
        Lane.settingTaken_disables on disabled]
  | true =>
    by_cases disabled : (s.lane l).phase = .disabled
    · rw [applySetting_enables is on disabled, quiet, orderly.enabling_eq disabled, Lane.settingTaken_enables on disabled]
    by_cases same : new.expectedType = old.expectedType
    · rw [applySetting_sameType is on disabled same,
        Lane.settingTaken_kept on disabled (fun _ => .inl same) (fun _ => .inl same), setLane_self]
    rw [applySetting_newType is on disabled same]
    have running (run : (s.lane l).phase = .running) := (fits run).2.resolve_left same
    by_cases now : (s.lane l).phase = .mismatch ∧ matchesType new.expectedType (s.lane l).known = true
    · obtain ⟨mismatch, fit⟩ := now
      rw [applyExpectedType_fits mismatch (by rw [expected]; exact fit), quiet, orderly.fitting_eq mismatch,
        Lane.settingTaken_fits on mismatch same fit]
    · have unfit (mismatch : (s.lane l).phase = .mismatch) : matchesType new.expectedType (s.lane l).known = false :=
        Bool.eq_false_iff.2 fun fit => now ⟨mismatch, fit⟩
      rw [applyExpectedType_kept (by rw [expected]; exact running) (by rw [expected]; exact unfit),
        Lane.settingTaken_kept on disabled (fun run => .inr (running run)) (fun mismatch => .inr (unfit mismatch)),
        setLane_self]

end

/-! ## One lane leaves RUNNING in a quiet part (R114) -/

section

variable {s : State} {l : LaneId}

/-- Where every control is UNKNOWN, leaving RUNNING changes no dynamic part (R3, R14). -/
theorem setBoundPhysical_unknown (unknown : ∀ e ∈ s.table.entries, e.2.physical = .unknown) :
    setBoundPhysical s l .unknown = s := by
  have entries : (s.table.entries.map fun e =>
      (e.1, if s.boundTo e.1 l then e.2.withPhysical s.time.uptime .unknown else e.2)) = s.table.entries := by
    refine (List.map_congr_left fun e listed => ?_).trans (List.map_id _)
    rw [ControlState.withPhysical, if_pos (unknown e listed), ite_self]
    rfl
  show { s with table := { s.table with entries := _ } } = s
  rw [entries]

/-- The lane with status-wanted raised where records are created (R32, R112). -/
def Lane.wanting (x : Lane) (delivering : Bool) : Lane := { x with statusWanted := x.statusWanted || delivering }

theorem EndsStay.wanting {f : Lane → Lane} {delivering : Bool} (ends : EndsStay f delivering) :
    EndsStay (fun y => f (y.wanting delivering)) delivering where
  phase _ := ends.phase _
  wanted y := by rw [ends.wanted, Lane.wanting, Bool.or_assoc, Bool.or_self]
  slot _ := ends.slot _
  waiters _ := ends.waiters _
  idle y := ends.idle (y.wanting delivering)
  confirmed _ := ends.confirmed _
  owners _ := ends.owners _
  version _ := ends.version _
  image y := ends.image (y.wanting delivering)

theorem modLane_modLane (s : State) (l : LaneId) (f g : Lane → Lane) :
    (s.modLane l f).modLane l g = s.modLane l fun y => g (f y) := by
  rw [modLane_eq s l f, modLane_setLane]
  rfl

/-- The end of a stay does not look at the lamps: they may be handed before it or after it. -/
theorem modLane_writeLamps {U : State} {y : Lane} {f : Lane → Lane} {delivering : Bool} (ends : EndsStay f delivering)
    {handed : List (LampPosition × Bool)} :
    ((U.setLane l y).writeLamps handed).modLane l f = (U.setLane l (f y)).writeLamps handed := by
  have lanes : (((U.setLane l y).writeLamps handed).modLane l f).lanes =
      ((U.setLane l (f y)).writeLamps handed).lanes := by
    refine State.lanes_ext fun k => ?_
    show (((U.setLane l y).writeLamps handed).modLane l f).lane k = ((U.setLane l (f y)).writeLamps handed).lane k
    by_cases here : k = l
    · subst here
      rw [State.lane_modLane_self, State.lane_writeLamps, State.lane_writeLamps, State.lane_setLane_self,
        State.lane_setLane_self, ends.image, ends.owners, ends.desired]
    · rw [State.lane_modLane_ne _ here, State.lane_writeLamps, State.lane_writeLamps, State.lane_setLane_ne _ here,
        State.lane_setLane_ne _ here]
  exact congrArg (fun lanes => ({ U with lanes := lanes } : State)) lanes

/-- A lane leaves RUNNING while delivery is OFF, no turn of it waits and every control is UNKNOWN. -/
theorem modLane_leaveRunning {x : Lane} {status : Status} {f : Lane → Lane} (ends : EndsStay f false)
    (quiet : s.delivering = false) (free : s.translator.waiting ≠ some l)
    (unknown : ∀ e ∈ s.table.entries, e.2.physical = .unknown) :
    (leaveRunning (s.setLane l x) l status).modLane l f =
      (((completeAll s x.hostWork (bare status)).setLane l (f (x.left false))).setPrefix l .none).writeLamps
        (s.handedLamps (s.controlsBoundTo l)) := by
  have table : leftTable s l x status =
      ((completeAll s x.hostWork (bare status)).setLane l x.leaving).setPrefix l .none := by
    refine setBoundPhysical_unknown fun e listed => unknown e ?_
    rwa [← completeAll_table s x.hostWork (bare status)]
  have handed : leftHanded s l x status = s.handedLamps (s.controlsBoundTo l) := by
    rw [leftHanded, table]
    exact handedLamps_congr (completeAll_config ..) (completeAll_table ..) _
  have kept : reconsiderFor (leftLanes s l x status) l = leftLanes s l x status := by
    rw [reconsiderFor, if_neg]
    rw [leftLanes_frame]
    exact free
  have left : leftLanes s l x status =
      ((((completeAll s x.hostWork (bare status)).setLane l x.leaving).setPrefix l .none).writeLamps
        (s.handedLamps (s.controlsBoundTo l))).modLane l (·.wanting false) := by
    rw [leftLanes, table, handed, quiet]
    rfl
  rw [leaveRunning_setLane, kept, left, modLane_modLane]
  exact modLane_writeLamps ends.wanting (U := (completeAll s x.hostWork (bare status)).setPrefix l .none)
    (y := x.leaving)

/-- A setting that ends the stay in RUNNING: the lane's requests end with ABORTED, the Translator forgets its EXT and BREAK bytes and the
lamps of its controls are handed (R114, R115). -/
theorem applySetting_leaves {old new : LaneSetting} (quiet : s.delivering = false)
    (is : s.config.working.lanes[l] = new) (free : s.translator.waiting ≠ some l)
    (unknown : ∀ e ∈ s.table.entries, e.2.physical = .unknown) (leaves : (s.lane l).endedBy old new = true) :
    applySetting s l old =
      (((completeAll s (s.lane l).hostWork (bare .aborted)).setLane l ((s.lane l).settingTaken old new)).setPrefix l
        .none).writeLamps (s.handedLamps (s.controlsBoundTo l)) := by
  have expected : s.expectedType l = new.expectedType := congrArg LaneSetting.expectedType is
  obtain ⟨run, why⟩ := of_decide_eq_true leaves
  have enabled : (s.lane l).phase ≠ .disabled := by rw [run]; decide
  cases on : new.enabled with
  | false =>
    have ended := modLane_leaveRunning (x := s.lane l) (status := .aborted) (endsStay_disabling false) quiet free unknown
    rw [setLane_self, Lane.disabling_left] at ended
    rw [applySetting_disables is on enabled, disableLane_running run, quiet, ended,
      Lane.settingTaken_disables on enabled]
  | true =>
    obtain ⟨other, unfit⟩ := why.resolve_left (by rw [on]; decide)
    have ended := modLane_leaveRunning (x := (s.lane l).withFault .typeMismatch false) (status := .aborted)
      (endsStay_entering (p := .mismatch) (by decide) none .disable false) quiet free unknown
    rw [Lane.entering_left] at ended
    rw [applySetting_newType is on enabled other, applyExpectedType_leaves run (by rw [expected]; exact unfit), quiet,
      ended, Lane.settingTaken_mismatch on run other unfit]
    rfl

end

/-! ## Every lane takes its setting (R147) -/

section

variable (s : State) (old : Vector LaneSetting 8)

/-- The lane takes its setting out of RUNNING. -/
def leavesBy (l : LaneId) : Bool := (s.lane l).endedBy old[l] s.config.working.lanes[l]

/-- The requests that end while the lanes of a list take their settings. -/
def settingsWork (ls : List LaneId) : List SlotId :=
  ls.flatMap fun l => if leavesBy s old l then (s.lane l).hostWork else []

/-- The lamps handed while the lanes of a list take their settings. -/
def settingsLamps (ls : List LaneId) : List (LampPosition × Bool) :=
  ls.flatMap fun l => if leavesBy s old l then s.handedLamps (s.controlsBoundTo l) else []

/-- The `prefixes` after the lanes of a list have taken their settings. -/
def settingsPrefixes (ls : List LaneId) : Vector PrefixState 8 :=
  Vector.ofFn fun l => if l ∈ ls ∧ leavesBy s old l then .none else s.prefixOf l

/-- A lane after those of a list have taken their settings, its image aside. -/
def takenLane (ls : List LaneId) (l : LaneId) : Lane :=
  if l ∈ ls then (s.lane l).settingTaken old[l] s.config.working.lanes[l] else s.lane l

/-- The lanes after those of a list have taken their settings. -/
def settingsLanes (ls : List LaneId) : Vector Lane 8 :=
  Vector.ofFn fun l =>
    { takenLane s old ls l with desired := handedImage l (s.lane l) (settingsLamps s old ls) }

/-- The state after the lanes of a list have taken their settings, where delivery is OFF and every control UNKNOWN. -/
def settingsTaken (ls : List LaneId) : State :=
  { completeAll s (settingsWork s old ls) (bare .aborted) with
    lanes := settingsLanes s old ls
    translator := { s.translator with prefixes := settingsPrefixes s old ls } }

theorem settingsTaken_lane (ls : List LaneId) (l : LaneId) :
    (settingsTaken s old ls).lane l =
      { takenLane s old ls l with desired := handedImage l (s.lane l) (settingsLamps s old ls) } := by
  have read : (settingsTaken s old ls).lane l = (settingsLanes s old ls)[l] := rfl
  rw [read, settingsLanes]
  simp

variable {s old}

theorem Lane.settingTaken_owners (x : Lane) (old new : LaneSetting) : (x.settingTaken old new).owners = x.owners := by
  simp only [Lane.settingTaken]
  split
  · rfl
  · rfl
  · rfl
  · split <;> rfl

theorem takenLane_owners (ls : List LaneId) (l : LaneId) : (takenLane s old ls l).owners = (s.lane l).owners := by
  rw [takenLane]
  split
  · exact Lane.settingTaken_owners ..
  · rfl

theorem takenLane_snoc_self (ls : List LaneId) (l : LaneId) :
    takenLane s old (ls ++ [l]) l = (s.lane l).settingTaken old[l] s.config.working.lanes[l] := if_pos (by simp)

theorem takenLane_snoc_ne (ls : List LaneId) {l k : LaneId} (other : k ≠ l) :
    takenLane s old (ls ++ [l]) k = takenLane s old ls k := by
  simp [takenLane, other]

/-- The state after one lane more, from its parts. -/
theorem settingsTaken_snoc {ls : List LaneId} {l : LaneId} {t : State}
    (is : t = { completeAll s (settingsWork s old (ls ++ [l])) (bare .aborted) with
      lanes := t.lanes, translator := { s.translator with prefixes := settingsPrefixes s old (ls ++ [l]) } })
    (lanes : ∀ k, t.lane k = (settingsTaken s old (ls ++ [l])).lane k) : t = settingsTaken s old (ls ++ [l]) := by
  have same : t.lanes = settingsLanes s old (ls ++ [l]) := State.lanes_ext lanes
  rw [is, settingsTaken, same]

theorem completeAll_elsewhere (s : State) (translator : Translator) (lanes : Vector Lane 8) (is : List SlotId)
    (r : Reply) : completeAll { s with translator := translator, lanes := lanes } is r =
      { completeAll s is r with translator := translator, lanes := lanes } := by
  induction is generalizing s with
  | nil => rfl
  | cons i is ih => rw [completeAll_cons, completeAll_cons, complete_elsewhere, ih]

theorem completeAll_append (s : State) (is js : List SlotId) (r : Reply) :
    completeAll s (is ++ js) r = completeAll (completeAll s is r) js r := by
  induction is generalizing s with
  | nil => rfl
  | cons i is ih => rw [List.cons_append, completeAll_cons, completeAll_cons, ih]

theorem settingsTaken_nil : settingsTaken s old [] = s := by
  have lanes : settingsLanes s old [] = s.lanes :=
    State.lanes_ext fun l => by simp [settingsLanes, takenLane, settingsLamps, handedImage, State.lane]
  have prefixes : settingsPrefixes s old [] = s.translator.prefixes := by
    refine Vector.ext fun l low => ?_
    simp [settingsPrefixes, State.prefixOf]
  rw [settingsTaken, lanes, prefixes]
  rfl

theorem settingsWork_snoc (ls : List LaneId) (l : LaneId) : settingsWork s old (ls ++ [l]) =
    settingsWork s old ls ++ if leavesBy s old l then (s.lane l).hostWork else [] := by
  simp [settingsWork]

theorem settingsLamps_snoc (ls : List LaneId) (l : LaneId) : settingsLamps s old (ls ++ [l]) =
    settingsLamps s old ls ++ if leavesBy s old l then s.handedLamps (s.controlsBoundTo l) else [] := by
  simp [settingsLamps]

theorem settingsPrefixes_snoc (ls : List LaneId) (l : LaneId) : settingsPrefixes s old (ls ++ [l]) =
    if leavesBy s old l then (settingsPrefixes s old ls).set l .none else settingsPrefixes s old ls := by
  refine Vector.ext fun k low => ?_
  by_cases leaves : leavesBy s old l = true
  · by_cases here : l = ⟨k, low⟩
    · subst here
      simp [settingsPrefixes, leaves]
    · have apart : l.val ≠ k := fun same => here (Fin.ext same)
      have other : (⟨k, low⟩ : LaneId) ≠ l := Ne.symm here
      simp [settingsPrefixes, leaves, apart, other]
  · by_cases here : l = ⟨k, low⟩
    · subst here
      simp [settingsPrefixes, leaves]
    · have other : (⟨k, low⟩ : LaneId) ≠ l := Ne.symm here
      simp [settingsPrefixes, leaves, other]

/-- The next lane takes its setting. -/
theorem applySetting_settingsTaken {ls : List LaneId} {l : LaneId} (quiet : s.delivering = false)
    (free : s.translator.waiting = none) (unknown : ∀ e ∈ s.table.entries, e.2.physical = .unknown)
    (orderly : (s.lane l).Orderly) (fresh : l ∉ ls) :
    applySetting (settingsTaken s old ls) l old[l] = settingsTaken s old (ls ++ [l]) := by
  obtain ⟨requests, replies, done⟩ := completeAll_frame s (settingsWork s old ls) (bare .aborted)
  have lane : (settingsTaken s old ls).lane l =
      { s.lane l with desired := handedImage l (s.lane l) (settingsLamps s old ls) } := by
    rw [settingsTaken_lane, takenLane, if_neg fresh]
  have config : (settingsTaken s old ls).config = s.config := by rw [settingsTaken, done]
  have is : (settingsTaken s old ls).config.working.lanes[l] = s.config.working.lanes[l] := by rw [config]
  have table : (settingsTaken s old ls).table = s.table := by rw [settingsTaken, done]
  have quiet' : (settingsTaken s old ls).delivering = false := by rw [settingsTaken, done]; exact quiet
  have work := settingsWork_snoc (s := s) (old := old) ls l
  have lamps := settingsLamps_snoc (s := s) (old := old) ls l
  have prefixes := settingsPrefixes_snoc (s := s) (old := old) ls l
  cases leaves : leavesBy s old l with
  | false =>
    have stays : ((settingsTaken s old ls).lane l).endedBy old[l] s.config.working.lanes[l] = false := by
      rw [lane]; exact leaves
    simp only [leaves, Bool.false_eq_true, if_false, List.append_nil] at work lamps prefixes
    rw [applySetting_stays quiet' is (by rw [lane]; exact orderly.withImage _) stays, lane, Lane.settingTaken_withImage]
    refine settingsTaken_snoc ?_ fun k => ?_
    · rw [work, prefixes]
      rfl
    · rw [State.lane_setLane, settingsTaken_lane, settingsTaken_lane, lamps]
      split
      · next here => subst here; rw [takenLane_snoc_self]
      · next other => rw [takenLane_snoc_ne ls other]
  | true =>
    have ends : ((settingsTaken s old ls).lane l).endedBy old[l] s.config.working.lanes[l] = true := by
      rw [lane]; exact leaves
    have handed : (settingsTaken s old ls).handedLamps ((settingsTaken s old ls).controlsBoundTo l) =
        s.handedLamps (s.controlsBoundTo l) := by
      rw [handedLamps_congr config table, State.controlsBoundTo, config]
      rfl
    have hostWork : ((settingsTaken s old ls).lane l).hostWork = (s.lane l).hostWork := by rw [lane]; rfl
    simp only [leaves, if_true] at work lamps prefixes
    rw [applySetting_leaves quiet' is (by rw [settingsTaken, done]; show s.translator.waiting ≠ _; rw [free]; nofun)
      (by rw [table]; exact unknown) ends, handed, hostWork, lane, Lane.settingTaken_withImage]
    refine settingsTaken_snoc ?_ fun k => ?_
    · rw [work, prefixes, completeAll_append, settingsTaken, completeAll_elsewhere]
      rfl
    · rw [State.lane_writeLamps, State.lane_setPrefix, State.lane_setLane, completeAll_lane, settingsTaken_lane,
        settingsTaken_lane, lamps]
      split
      · next here =>
        subst here
        rw [takenLane_snoc_self, handedImage, handedImage, List.foldl_append, Lane.settingTaken_owners]
      · next other =>
        rw [takenLane_snoc_ne ls other, handedImage, handedImage, List.foldl_append, takenLane_owners]

/-- All eight lanes take their settings. -/
theorem applyAllSettings_eq (quiet : s.delivering = false)
    (free : s.translator.waiting = none) (unknown : ∀ e ∈ s.table.entries, e.2.physical = .unknown)
    (orderly : ∀ l, (s.lane l).Orderly) :
    applyAllSettings s old = settingsTaken s old (List.finRange 8) := by
  have folded (done rest : List LaneId) (all : (done ++ rest).Nodup) :
      rest.foldl (fun s l => applySetting s l old[l]) (settingsTaken s old done) =
        settingsTaken s old (done ++ rest) := by
    induction rest generalizing done with
    | nil => rw [List.append_nil, List.foldl_nil]
    | cons l rest ih =>
      have fresh : l ∉ done := by
        intro listed
        exact (List.nodup_append.1 all).2.2 l listed l (List.mem_cons_self ..) rfl
      rw [List.foldl_cons, applySetting_settingsTaken quiet free unknown (orderly l) fresh,
        ih (done ++ [l]) (by simpa using all), List.append_assoc]
      rfl
  have whole := folded [] (List.finRange 8) (List.nodup_finRange 8)
  rw [settingsTaken_nil] at whole
  exact whole

end

end Sys2Proof.Machine
end

section
/-! REVERT and LOAD-DEFAULTS (R147): the working configuration replaced, the lamps it hands and the settings it changes. -/

namespace Sys2Proof.Machine

set_option Elab.async false

/-! ## Lamps that show what the table computes (R17, R18) -/

section

variable {s : State}

theorem mem_handedLamp_iff {c : ControlId} {q : LampPosition} :
    q ∈ (s.handedLamp c).map (·.1) ↔ ∃ d, s.definition c = some d ∧ d.lampPosition = some q := by
  unfold State.handedLamp
  cases defined : s.definition c with
  | none => simp
  | some d =>
    cases lamp : d.lamp with
    | none => simp [lamp, ControlDef.lampPosition]
    | some r => simp [lamp, ControlDef.lampPosition, eq_comm]

/-- What a defined control hands is what its lamp shows. -/
theorem handedLamp_shows (distinct : s.config.working.distinctLamps) {c : ControlId} {h : LampPosition × Bool}
    (handed : h ∈ s.handedLamp c) : h.2 = s.litAt h.1 := by
  unfold State.handedLamp at handed
  split at handed
  · next d defined =>
    split at handed
    · next r lamp =>
      cases List.mem_singleton.1 handed
      exact (State.litAt_of_definition distinct defined lamp).symm
    · cases handed
  · cases handed

/-- A list of lamps that show what the table computes, by its positions. -/
theorem handed_eq_map {f : LampPosition → Bool} {handed : List (LampPosition × Bool)}
    (shows : ∀ h ∈ handed, h.2 = f h.1) : handed = (handed.map (·.1)).map fun q => (q, f q) := by
  rw [List.map_map]
  refine ((List.map_congr_left fun h listed => ?_).trans (List.map_id _)).symm
  exact Prod.ext rfl (shows h listed).symm

end

section

variable {s : State} {image : ConfigImage}

theorem litAt_realigned_of_unreferenced {q : LampPosition} (free : imageReferences image q = false) :
    (realigned s image).litAt q = false := by
  refine State.litAt_unreferenced fun e listed r lamp position => ?_
  have referenced : imageReferences image q = true := by
    refine List.any_eq_true.2 ⟨e, listed, decide_eq_true ?_⟩
    rw [ControlDef.lampPosition, lamp, ← position]
    rfl
  rw [free] at referenced
  cases referenced

/-- The lamps that a new image hands (R18). -/
def replacedLamps (s : State) (image : ConfigImage) : List (LampPosition × Bool) :=
  (changedControls s image).flatMap (releasedLamp s image) ++
    (changedControls s image).flatMap (realigned s image).handedLamp

theorem replacedLamps_shows (distinct : image.distinctLamps) {h : LampPosition × Bool}
    (handed : h ∈ replacedLamps s image) : h.2 = (realigned s image).litAt h.1 := by
  obtain released | handed := List.mem_append.1 handed
  · obtain ⟨c, _, released⟩ := List.mem_flatMap.1 released
    unfold releasedLamp at released
    split at released
    · split at released
      · cases released
      · next free =>
        cases List.mem_singleton.1 released
        exact (litAt_realigned_of_unreferenced (Bool.eq_false_iff.2 free)).symm
    · cases released
  · obtain ⟨c, _, handed⟩ := List.mem_flatMap.1 handed
    exact handedLamp_shows (s := realigned s image) distinct handed

theorem mem_releasedLamp_iff {c : ControlId} {q : LampPosition} :
    q ∈ (releasedLamp s image c).map (·.1) ↔
      (s.definition c).bind (·.lampPosition) = some q ∧ imageReferences image q = false := by
  unfold releasedLamp
  cases old : (s.definition c).bind ControlDef.lampPosition with
  | none => simp
  | some p =>
    cases referenced : imageReferences image p with
    | false =>
      simp only [referenced, Bool.false_eq_true, if_false, List.map_cons, List.map_nil, List.mem_singleton,
        Option.some.injEq]
      exact ⟨by rintro rfl; exact ⟨rfl, referenced⟩, fun is => is.1.symm⟩
    | true =>
      simp only [referenced, if_true, List.map_nil, List.not_mem_nil, Option.some.injEq, false_iff, not_and,
        Bool.not_eq_false]
      rintro rfl
      exact referenced

theorem mem_flatMap_fst_iff {cs : List ControlId} {f : ControlId → List (LampPosition × Bool)} {q : LampPosition} :
    q ∈ (cs.flatMap f).map (·.1) ↔ ∃ c ∈ cs, q ∈ (f c).map (·.1) := by
  rw [List.map_flatMap, List.mem_flatMap]

/-- The lamps handed are the old and the new ones of the changed identifiers (R18). -/
theorem mem_replacedLamps_iff (wf : s.config.working.wf) (rising : sortedKeys image.controls) {q : LampPosition} :
    q ∈ (replacedLamps s image).map (·.1) ↔
      ∃ k, s.definition k ≠ lookupKey image.controls k ∧
        ((s.definition k).bind (·.lampPosition) = some q ∨
          (lookupKey image.controls k).bind (·.lampPosition) = some q) := by
  obtain ⟨-, -, -, distinct, -⟩ := wf
  rw [replacedLamps, List.map_append, List.mem_append, mem_flatMap_fst_iff, mem_flatMap_fst_iff]
  simp only [mem_changedControls_iff, mem_releasedLamp_iff, mem_handedLamp_iff]
  constructor
  · rintro (⟨k, changed, old, -⟩ | ⟨k, changed, d, defined, position⟩)
    · exact ⟨k, changed, .inl old⟩
    · have listed : lookupKey image.controls k = some d := defined
      exact ⟨k, changed, .inr (by rw [listed]; exact position)⟩
  · rintro ⟨k, changed, old | new⟩
    · cases referenced : imageReferences image q with
      | false => exact .inl ⟨k, changed, old, rfl⟩
      | true =>
        obtain ⟨j, x, listed, position⟩ := (imageReferences_iff rising q).1 referenced
        obtain ⟨d, defined, references⟩ := Option.bind_eq_some_iff.1 old
        refine .inr ⟨j, fun same => changed ?_, x, listed, position⟩
        have here : j = k := lampPosition_unique distinct defined references (same.trans listed) position
        rw [← here]
        exact same
    · obtain ⟨d, listed, position⟩ := Option.bind_eq_some_iff.1 new
      exact .inr ⟨k, changed, d, listed, position⟩

end

/-! ## The state after the replacement -/

/-- The definitions replaced and their lamps handed, before the lanes take their settings. -/
theorem lane_replaceDefinitions (s : State) (image : ConfigImage) (l : LaneId) :
    (replaceDefinitions s image).lane l =
      { s.lane l with desired := handedImage l (s.lane l) (replacedLamps s image) } := by
  rw [replaceDefinitions_eq, State.lane_writeLamps]
  rfl

/-- A lane that keeps its phase, or leaves RUNNING, and takes an image. -/
theorem settleLane_withImage {before x : Lane} (stays : x.phase = .running → before.phase = .running)
    (desired : x.desired = before.desired) (image : Half) :
    settleLane before { x with desired := image } = x.withDesired image := by
  have started : ¬(before.phase ≠ .running ∧ x.phase = .running) := fun ⟨short, run⟩ => short (stays run)
  have kept : image = x.desired → { x with desired := image } = x := fun h => by rw [h]
  simp only [settleLane, if_neg started, Lane.withDesired, ← desired]
  split
  · next h => exact kept h
  · rfl

section

variable (x : Lane) (old new : LaneSetting)

theorem Lane.settingTaken_desired : (x.settingTaken old new).desired = x.desired := by
  simp only [Lane.settingTaken]
  split
  · rfl
  · rfl
  · rfl
  · split <;> rfl

theorem Lane.settingTaken_running (run : (x.settingTaken old new).phase = .running) : x.phase = .running := by
  revert run
  simp only [Lane.settingTaken]
  split
  · exact id
  · exact nofun
  · exact nofun
  · split
    · exact nofun
    · exact nofun
    · exact id

end

section

variable {s : State} {image : ConfigImage}

theorem completeAll_replaced (s : State) (config : ConfigUnit) (table : ControlTable) (lanes : Vector Lane 8)
    (is : List SlotId) (r : Reply) :
    completeAll { s with config := config, table := table, lanes := lanes } is r =
      { completeAll s is r with config := config, table := table, lanes := lanes } := by
  induction is generalizing s with
  | nil => rfl
  | cons i is ih =>
    have first : complete { s with config := config, table := table, lanes := lanes } i r =
        { complete s i r with config := config, table := table, lanes := lanes } := by
      unfold complete
      have same : ({ s with config := config, table := table, lanes := lanes } : State).slot i = s.slot i := rfl
      rw [same]
      split <;> rfl
    rw [completeAll_cons, completeAll_cons, first, ih]

/-- The state that REVERT and LOAD-DEFAULTS leave, before the reply (R147). -/
def replaced (s : State) (image : ConfigImage) : State :=
  recomputeDirty (settleLamps s
    (settingsTaken (replaceDefinitions s image) s.config.working.lanes (List.finRange 8)))

/-- All the lamps that the replacement hands, in order. -/
def replacementLamps (s : State) (image : ConfigImage) : List (LampPosition × Bool) :=
  replacedLamps s image ++
    settingsLamps (replaceDefinitions s image) s.config.working.lanes (List.finRange 8)

theorem replaceWorking_eq (quiet : s.delivering = false) (free : s.translator.waiting = none)
    (unknown : ∀ e ∈ (realigned s image).table.entries, e.2.physical = .unknown) (orderly : ∀ l, (s.lane l).Orderly) :
    replaceWorking s image = replaced s image := by
  rw [replaceWorking, applyAllSettings_eq (s := replaceDefinitions s image) quiet free unknown fun l => ?_]
  · rfl
  rw [lane_replaceDefinitions]
  exact (orderly l).withImage _

theorem leavesBy_replaceDefinitions (l : LaneId) :
    leavesBy (replaceDefinitions s image) s.config.working.lanes l =
      (s.lane l).endedBy s.config.working.lanes[l] image.lanes[l] := by
  rw [leavesBy, lane_replaceDefinitions]
  rfl

variable (s image)

theorem replaced_frame : replaced s image =
    { completeAll s
        (settingsWork (replaceDefinitions s image) s.config.working.lanes (List.finRange 8)) (bare .aborted) with
      config := { s.config with working := image, dirty := decide (image ≠ s.config.storeCopy) }
      table := (realigned s image).table
      lanes := (replaced s image).lanes
      translator :=
        { s.translator with
          prefixes := settingsPrefixes (replaceDefinitions s image) s.config.working.lanes (List.finRange 8) } } := by
  have ended := completeAll_replaced s { s.config with working := image } (realigned s image).table
    (replaceDefinitions s image).lanes
    (settingsWork (replaceDefinitions s image) s.config.working.lanes (List.finRange 8)) (bare .aborted)
  have taken : settingsTaken (replaceDefinitions s image) s.config.working.lanes (List.finRange 8) =
      { completeAll s
          (settingsWork (replaceDefinitions s image) s.config.working.lanes (List.finRange 8)) (bare .aborted) with
        config := { s.config with working := image }
        table := (realigned s image).table
        lanes := settingsLanes (replaceDefinitions s image) s.config.working.lanes (List.finRange 8)
        translator :=
          { s.translator with
            prefixes := settingsPrefixes (replaceDefinitions s image) s.config.working.lanes (List.finRange 8) } } :=
    congrArg (fun u : State =>
      { u with
        lanes := settingsLanes (replaceDefinitions s image) s.config.working.lanes (List.finRange 8)
        translator :=
          { s.translator with
            prefixes :=
              settingsPrefixes (replaceDefinitions s image) s.config.working.lanes (List.finRange 8) } }) ended
  have parts (u : State) : recomputeDirty (settleLamps s u) =
      { u with
        lanes := (recomputeDirty (settleLamps s u)).lanes
        config := { u.config with dirty := decide (u.config.working ≠ u.config.storeCopy) } } := rfl
  refine (parts _).trans ?_
  rw [replaced, taken]

theorem lane_recomputeDirty (u : State) (l : LaneId) : (recomputeDirty u).lane l = u.lane l := rfl

theorem lane_replaced (l : LaneId) : (replaced s image).lane l =
    ((s.lane l).settingTaken s.config.working.lanes[l] image.lanes[l]).withDesired
      (handedImage l (s.lane l) (replacementLamps s image)) := by
  have taken := settingsTaken_lane (replaceDefinitions s image) s.config.working.lanes (List.finRange 8) l
  rw [takenLane, if_pos (List.mem_finRange l), lane_replaceDefinitions, Lane.settingTaken_withImage] at taken
  have image_is : handedImage l { s.lane l with desired := handedImage l (s.lane l) (replacedLamps s image) }
      (settingsLamps (replaceDefinitions s image) s.config.working.lanes (List.finRange 8)) =
      handedImage l (s.lane l) (replacementLamps s image) := by
    rw [replacementLamps, handedImage, handedImage, handedImage, List.foldl_append]
  rw [image_is] at taken
  rw [replaced, lane_recomputeDirty, lane_settleLamps, taken]
  exact settleLane_withImage (x := (s.lane l).settingTaken s.config.working.lanes[l] image.lanes[l])
    (fun run => (s.lane l).settingTaken_running _ _ run) ((s.lane l).settingTaken_desired _ _) _

end

/-! ## Dynamic parts and selections (R5, R7) -/

section

variable {s : State} {image : ConfigImage}

theorem control_realigned (k : ControlId) : (realigned s image).control k =
    ((lookupKey image.controls k).map (alignedControl s image k)).getD .fresh :=
  congrArg (fun x : Option ControlState => x.getD .fresh) (lookupKey_map image.controls (alignedControl s image) k)

theorem selection_realigned (g : GroupId) : (realigned s image).selection g = keptSelection s image g := by
  have read : (realigned s image).selection g = (Vector.ofFn fun g => keptSelection s image g)[g] := rfl
  rw [read]
  simp

/-- A group keeps its selection while the control is a member of it (R7). -/
theorem keptSelection_iff {g : GroupId} {k : ControlId} : keptSelection s image g = some k ↔
    s.selection g = some k ∧ ∃ d, lookupKey image.controls k = some d ∧ d.kind = .member g := by
  unfold keptSelection
  cases selected : s.selection g with
  | none => simp
  | some c =>
    cases defined : lookupKey image.controls c with
    | none =>
      simp only [defined]
      refine iff_of_false (by simp) ?_
      rintro ⟨same, d, listed, -⟩
      cases same
      cases defined.symm.trans listed
    | some d =>
      by_cases member : d.kind = .member g
      · simp only [defined, member, if_true]
        refine ⟨fun same => ⟨same, ?_⟩, fun is => is.1⟩
        cases same
        exact ⟨d, defined, member⟩
      · simp only [defined, if_neg member]
        refine iff_of_false (by simp) ?_
        rintro ⟨same, x, listed, is⟩
        cases same
        cases defined.symm.trans listed
        exact member is

theorem losesSelection_iff {k : ControlId} {d : ControlDef} (defined : lookupKey image.controls k = some d) :
    losesSelection s image k = true ↔ ∃ g, s.selection g = some k ∧ d.kind ≠ .member g := by
  simp only [losesSelection, List.any_eq_true, List.mem_finRange, true_and, decide_eq_true_eq]
  refine exists_congr fun g => and_congr_right fun selected => ?_
  rw [Ne, keptSelection_iff, not_and]
  refine ⟨fun lost member => lost selected ⟨d, defined, member⟩, fun out _ is => ?_⟩
  obtain ⟨x, listed, member⟩ := is
  cases defined.symm.trans listed
  exact out member

/-- The dynamic part of a control that is defined before and after, its key UNKNOWN (R5). -/
theorem alignedControl_unknown {k : ControlId} {o d : ControlDef} (old : s.definition k = some o)
    (new : lookupKey image.controls k = some d) (unknown : (s.control k).physical = .unknown) :
    alignedControl s image k d =
      { physical := .unknown
        latched := if sameKind o.kind d.kind then (s.control k).latched else false
        lastChange :=
          if (sameKind o.kind d.kind = false ∧ (s.control k).latched = true) ∨
              (∃ g, s.selection g = some k ∧ d.kind ≠ .member g) then some s.time.uptime
          else (s.control k).lastChange } := by
  have cleared : ((!sameKind o.kind d.kind && (s.control k).latched) || losesSelection s image k) = true ↔
      (sameKind o.kind d.kind = false ∧ (s.control k).latched = true) ∨
        (∃ g, s.selection g = some k ∧ d.kind ≠ .member g) := by
    rw [Bool.or_eq_true, Bool.and_eq_true, Bool.not_eq_true', losesSelection_iff new]
  rw [alignedControl_of_defined old, ← unknown]
  simp only [cleared]

end

/-- While no control is defined as UP or DOWN, none is after the replacement (R3). -/
theorem realigned_unknown {s : State} {image : ConfigImage} (unknown : ∀ k, (s.control k).physical = .unknown) :
    ∀ e ∈ (realigned s image).table.entries, e.2.physical = .unknown := by
  intro e listed
  obtain ⟨⟨k, d⟩, _, rfl⟩ := List.mem_map.1 listed
  show (alignedControl s image k d).physical = .unknown
  cases old : s.definition k with
  | none => simp only [alignedControl, old]; rfl
  | some o => rw [alignedControl_of_defined old]; exact unknown k

/-! ## A replacement by the same image -/

section

variable {s : State} (laws : ControlLaws s)

include laws

theorem realigned_self (unknown : ∀ k, (s.control k).physical = .unknown) : realigned s s.config.working = s := by
  have entries : s.config.working.controls.map (fun e => (e.1, alignedControl s s.config.working e.1 e.2)) =
      s.table.entries := by
    have kept (e : ControlId × ControlDef) (listed : e ∈ s.config.working.controls) :
        alignedControl s s.config.working e.1 e.2 = s.control e.1 := by
      have defined : s.definition e.1 = some e.2 := lookupKey_of_mem laws.rising listed
      have held : ¬∃ g, s.selection g = some e.1 ∧ e.2.kind ≠ .member g := by
        rintro ⟨g, selected, out⟩
        obtain ⟨d, is, member⟩ := laws.selected g e.1 selected
        cases defined.symm.trans is
        exact out member
      rw [alignedControl_unknown defined defined (unknown e.1), sameKind_self, if_pos rfl,
        if_neg (by simp [held]), ← unknown e.1]
    have sorted : sortedKeys s.table.entries := by
      have keys := (List.pairwise_map (f := fun e : ControlId × ControlDef => e.1)).2 laws.rising
      rw [← laws.keys] at keys
      exact List.pairwise_map.1 keys
    calc s.config.working.controls.map (fun e => (e.1, alignedControl s s.config.working e.1 e.2))
        = (s.config.working.controls.map (·.1)).map fun c => (c, s.control c) := by
          rw [List.map_map]
          exact List.map_congr_left fun e listed => Prod.ext rfl (kept e listed)
      _ = s.table.entries.map fun e => (e.1, s.control e.1) := by rw [← laws.keys, List.map_map]; rfl
      _ = s.table.entries := by
          refine (List.map_congr_left fun e listed => ?_).trans (List.map_id _)
          refine Prod.ext rfl ?_
          show s.control e.1 = e.2
          rw [State.control, lookupKey_of_mem sorted listed]
          rfl
  have selections : (Vector.ofFn fun g => keptSelection s s.config.working g) = s.table.selections := by
    refine Vector.ext fun g low => ?_
    have same : keptSelection s s.config.working ⟨g, low⟩ = s.selection ⟨g, low⟩ := by
      refine Option.ext fun k => ?_
      exact keptSelection_iff.trans (and_iff_left_of_imp (laws.selected ⟨g, low⟩ k))
    rw [Vector.getElem_ofFn, same]
    rfl
  rw [realigned, entries, selections]

/-- Where the new image is the working configuration, nothing changes (R147). -/
theorem replaced_self (unknown : ∀ k, (s.control k).physical = .unknown)
    (dirty : s.config.dirty = decide (s.config.working ≠ s.config.storeCopy))
    (kept : ∀ l, (s.lane l).settingTaken s.config.working.lanes[l] s.config.working.lanes[l] = s.lane l)
    (stays : ∀ l, (s.lane l).endedBy s.config.working.lanes[l] s.config.working.lanes[l] = false) :
    replaced s s.config.working = s := by
  have leaves (l : LaneId) : leavesBy (replaceDefinitions s s.config.working) s.config.working.lanes l = false :=
    (leavesBy_replaceDefinitions l).trans (stays l)
  have work (ls : List LaneId) :
      settingsWork (replaceDefinitions s s.config.working) s.config.working.lanes ls = [] := by
    simp [settingsWork, leaves]
  have prefixes (ls : List LaneId) :
      settingsPrefixes (replaceDefinitions s s.config.working) s.config.working.lanes ls = s.translator.prefixes := by
    refine Vector.ext fun l low => ?_
    simp only [settingsPrefixes, leaves, Bool.false_eq_true, and_false, if_false, Vector.getElem_ofFn]
    rfl
  have changed : changedControls s s.config.working = [] :=
    List.eq_nil_iff_forall_not_mem.2 fun k listed => mem_changedControls_iff.1 listed rfl
  have lamps : replacementLamps s s.config.working = [] := by
    simp [replacementLamps, replacedLamps, changed, settingsLamps, leaves]
  have lanes : (replaced s s.config.working).lanes = s.lanes := by
    refine State.lanes_ext fun l => (lane_replaced s s.config.working l).trans ?_
    rw [kept, lamps]
    exact if_pos rfl
  rw [replaced_frame, realigned_self laws unknown, work, prefixes, lanes, ← dirty]
  rfl

end

/-! ## The lamps of the replacement (R18) -/

section

variable {s : State} {image : ConfigImage}

theorem settingsLamps_shows (distinct : image.distinctLamps) {ls : List LaneId} {h : LampPosition × Bool}
    (handed : h ∈ settingsLamps (replaceDefinitions s image) s.config.working.lanes ls) :
    h.2 = (realigned s image).litAt h.1 := by
  obtain ⟨l, _, handed⟩ := List.mem_flatMap.1 handed
  split at handed
  · obtain ⟨c, _, handed⟩ := List.mem_flatMap.1 handed
    exact handedLamp_shows (s := realigned s image) distinct handed
  · cases handed

theorem mem_controlsBoundTo_iff {t : State} (rising : sortedKeys t.config.working.controls) {c : ControlId}
    {l : LaneId} : c ∈ t.controlsBoundTo l ↔ ∃ d b, t.definition c = some d ∧ d.binding = some b ∧ b.lane = l := by
  simp only [State.controlsBoundTo, List.mem_map, List.mem_filter]
  constructor
  · rintro ⟨⟨k, d⟩, ⟨listed, bound⟩, rfl⟩
    unfold defBoundTo at bound
    split at bound
    · next b binding => exact ⟨d, b, lookupKey_of_mem rising listed, binding, of_decide_eq_true bound⟩
    · cases bound
  · rintro ⟨d, b, defined, binding, here⟩
    refine ⟨(c, d), ⟨mem_of_lookupKey defined, ?_⟩, rfl⟩
    simp only [defBoundTo, binding, here, decide_true]

theorem mem_settingsLamps_iff (rising : sortedKeys image.controls) {q : LampPosition} :
    q ∈ (settingsLamps (replaceDefinitions s image) s.config.working.lanes (List.finRange 8)).map (·.1) ↔
      ∃ k d b, lookupKey image.controls k = some d ∧ d.binding = some b ∧
        (s.lane b.lane).endedBy s.config.working.lanes[b.lane] image.lanes[b.lane] = true ∧
        d.lampPosition = some q := by
  rw [settingsLamps, List.map_flatMap, List.mem_flatMap]
  constructor
  · rintro ⟨l, -, handed⟩
    rw [leavesBy_replaceDefinitions] at handed
    split at handed
    · next leaves =>
      obtain ⟨k, bound, handed⟩ := mem_flatMap_fst_iff.1 handed
      obtain ⟨x, listed, position⟩ := mem_handedLamp_iff.1 handed
      obtain ⟨d, b, defined, binding, rfl⟩ := (mem_controlsBoundTo_iff (t := replaceDefinitions s image) rising).1 bound
      have same : some d = some x := defined.symm.trans listed
      cases same
      exact ⟨k, x, b, defined, binding, leaves, position⟩
    · cases handed
  · rintro ⟨k, d, b, defined, binding, leaves, position⟩
    refine ⟨b.lane, List.mem_finRange _, ?_⟩
    rw [leavesBy_replaceDefinitions, if_pos leaves]
    refine mem_flatMap_fst_iff.2 ⟨k, ?_, mem_handedLamp_iff.2 ⟨d, defined, position⟩⟩
    exact (mem_controlsBoundTo_iff (t := replaceDefinitions s image) rising).2 ⟨d, b, defined, binding, rfl⟩

/-- A lane's image after the replacement, lamp by lamp. -/
theorem getLsbD_replacement (distinct : image.distinctLamps) (l : LaneId) (n : LampId) :
    (handedImage l (s.lane l) (replacementLamps s image)).getLsbD n.val =
      if ⟨l, n⟩ ∈ (replacementLamps s image).map (·.1) ∧ (s.lane l).owners.getLsbD n.val = false then
        (realigned s image).litAt ⟨l, n⟩
      else (s.lane l).desired.getLsbD n.val := by
  have shows (h : LampPosition × Bool) (handed : h ∈ replacementLamps s image) :
      h.2 = (realigned s image).litAt h.1 := by
    obtain first | second := List.mem_append.1 handed
    · exact replacedLamps_shows distinct first
    · exact settingsLamps_shows distinct second
  rw [handedImage]
  conv_lhs => rw [handed_eq_map shows]
  rw [getLsbD_foldl_followWrite]

end

/-! ## REVERT and LOAD-DEFAULTS (R147) -/

theorem revertRequest_eq (i : SlotId) (s : State) :
    revertRequest i [] s = complete (replaceWorking s s.config.storeCopy) i
      (dirtyReply (replaceWorking s s.config.storeCopy)) := rfl

theorem loadDefaults_eq (i : SlotId) (s : State) :
    loadDefaults i [] s = complete (replaceWorking s .defaults) i (dirtyReply (replaceWorking s .defaults)) := rfl

theorem carryOut_revert (i : SlotId) (body : List Byte) (s : State) :
    carryOut .revert i body s = revertRequest i body s := rfl

theorem carryOut_loadDefaults (i : SlotId) (body : List Byte) (s : State) :
    carryOut .loadDefaults i body s = loadDefaults i body s := rfl

section

variable {s : State} {tag : Byte} {i : SlotId} (config : s.config.mode = .config)

include config

theorem exec_revert (taken : TakenIn s tag 0x3A [] i) :
    exec (.revert tag []) s = .next (revertRequest i [] (placed s tag 0x3A [] i)) := by
  have mode : modeRefusal RequestKind.revert.modeClass s.config.mode = none := by rw [config]; rfl
  have carried := exec_taken_carried (c := .revert tag []) (s := s) (tag := tag) (i := i) (body := []) .revert rfl taken
    rfl mode
  rw [carryOut_revert] at carried
  exact carried

theorem exec_loadDefaults (taken : TakenIn s tag 0x3B [] i) :
    exec (.loadDefaults tag []) s = .next (loadDefaults i [] (placed s tag 0x3B [] i)) := by
  have mode : modeRefusal RequestKind.loadDefaults.modeClass s.config.mode = none := by rw [config]; rfl
  have carried := exec_taken_carried (c := .loadDefaults tag []) (s := s) (tag := tag) (i := i) (body := [])
    .loadDefaults rfl taken rfl mode
  rw [carryOut_loadDefaults] at carried
  exact carried

end

theorem defaults_wf : ConfigImage.defaults.wf := by decide +kernel

theorem settingsPrefixes_finRange (s : State) (old : Vector LaneSetting 8) (l : LaneId) :
    (settingsPrefixes s old (List.finRange 8))[l] = if leavesBy s old l then .none else s.prefixOf l := by
  simp [settingsPrefixes]

theorem Lane.withDesired_desired (x : Lane) (image : Half) : (x.withDesired image).desired = image := by
  rw [x.withDesired_eq]

/-- Where the module of a RUNNING lane is of the expected type, only a new type ends its stay (R107, R115). -/
theorem endedBy_of_expected {x : Lane} {old new : LaneSetting}
    (expected : x.phase = .running → matchesType old.expectedType x.known = true) :
    x.endedBy old new =
      decide (x.phase = .running ∧ (new.enabled = false ∨ matchesType new.expectedType x.known = false)) := by
  refine decide_eq_decide.2 (and_congr_right fun run => or_congr_right ?_)
  refine and_iff_right_of_imp fun unfit same => ?_
  rw [same, expected run] at unfit
  cases unfit

theorem completeAll_outline (s : State) (is : List SlotId) (r : Reply) :
    completeAll s is r = { s with requests := (completeAll s is r).requests, link := (completeAll s is r).link } := by
  obtain ⟨_, _, frame⟩ := completeAll_frame s is r
  rw [frame]

theorem ImageLaws.dirty_eq {s : State} (laws : ImageLaws s) :
    s.config.dirty = decide (s.config.working ≠ s.config.storeCopy) :=
  Bool.eq_iff_iff.2 (laws.dirty.trans decide_eq_true_iff.symm)

section

variable {x : Lane} {old : LaneSetting} (agrees : x.phase = .disabled ↔ old.enabled = false)

include agrees

/-- A lane in line with its setting has no use for the same setting again (R115). -/
theorem settingTaken_self : x.settingTaken old old = x := by
  by_cases disabled : x.phase = .disabled
  · exact Lane.settingTaken_disabled (agrees.1 disabled) disabled
  · exact Lane.settingTaken_kept (Bool.eq_true_of_not_eq_false (mt agrees.2 disabled)) disabled (fun _ => .inl rfl)
      fun _ => .inl rfl

theorem endedBy_self : x.endedBy old old = false := by
  refine decide_eq_false fun is => ?_
  obtain ⟨run, off | ⟨other, -⟩⟩ := is
  · cases run.symm.trans (agrees.2 off)
  · exact other rfl

end

/-- Settles O32: the replacement, its lanes and its lamps; under the same image nothing changes. -/
theorem revertAndLoadDefaultsReplaceTheImage : Obligations.RevertAndLoadDefaultsReplaceTheImage := by
  unfold Obligations.RevertAndLoadDefaultsReplaceTheImage
  intro s tag kind i c image commands taken config safe running p leaves u handed
  have wf : image.wf := by
    rcases commands with ⟨-, -, rfl⟩ | ⟨-, -, rfl⟩
    · exact safe.images.storeCopy
    · exact defaults_wf
  obtain ⟨rising, -, -, distinct, -⟩ := wf
  have store : p.config = s.config := placed_config ..
  have exec_is : exec c s = .next (complete (replaceWorking p image) i (dirtyReply (replaceWorking p image))) := by
    rcases commands with ⟨is, kind_is, image_is⟩ | ⟨is, kind_is, image_is⟩
    · subst kind_is
      rw [is, exec_revert config taken, revertRequest_eq, image_is, store]
    · subst kind_is
      rw [is, exec_loadDefaults config taken, loadDefaults_eq, image_is]
  have off : s.delivery.state = .off := safe.delivery.onlyInRun (by rw [config]; decide)
  have quiet : p.delivering = false := by
    show decide (s.delivery.state ≠ .off) = false
    simp [off]
  have free : p.translator.waiting = none := not_not.1 (mt safe.delivery.waits (by simp [off]))
  have unknown (k : ControlId) : (p.control k).physical = .unknown := safe.controls.physical_config config k
  have laws (l : LaneId) : LaneLaws (p.lane l) := safe.lanes running l
  have is : replaceWorking p image = replaced p image :=
    replaceWorking_eq quiet free (realigned_unknown unknown) fun l => (laws l).orderly
  have frame := replaced_frame p image
  have lane := lane_replaced p image
  have ended (l : LaneId) : (s.lane l).endedBy s.config.working.lanes[l] image.lanes[l] = leaves l :=
    endedBy_of_expected (safe.settings.expected l)
  have leavesIs (l : LaneId) : leavesBy (replaceDefinitions p image) p.config.working.lanes l = leaves l :=
    (leavesBy_replaceDefinitions l).trans (ended l)
  have work : settingsWork (replaceDefinitions p image) p.config.working.lanes (List.finRange 8) =
      (List.finRange 8).flatMap fun l => if leaves l then endedWork (s.lane l) else [] := by
    refine List.flatMap_congr fun l _ => ?_
    rw [leavesIs, lane_replaceDefinitions]
    rfl
  have ends : completeAll p (settingsWork (replaceDefinitions p image) p.config.working.lanes (List.finRange 8))
      (bare .aborted) = u := by rw [work]
  have config_is : (replaced p image).config =
      { s.config with working := image, dirty := decide (image ≠ s.config.storeCopy) } := by rw [frame, store]
  have table_is : (replaced p image).table = (realigned p image).table := by rw [frame]
  have definition (k : ControlId) : (replaced p image).definition k = lookupKey image.controls k := by
    rw [State.definition, config_is]
  have control (k : ControlId) : (replaced p image).control k = (realigned p image).control k := by
    rw [State.control, State.control, table_is]
  have lit : (replaced p image).litAt = (realigned p image).litAt :=
    litAt_congr (s := recomputeDirty (realigned p image)) (by rw [frame]; rfl) table_is
  refine ⟨replaced p image, ?_, ?_, config_is, ?_, fun l => ?_, fun k undefined => ?_, fun k d undefined defined => ?_,
    fun k o d old new => ?_, fun g k => ?_, fun l => ?_, fun l n => ?_, fun same => ?_⟩
  · rw [exec_is, is, dirtyReply_of_dirty (image := image) (other := s.config.storeCopy) (by rw [config_is])]
  · have u_is : u = { p with requests := u.requests, link := u.link } := completeAll_outline ..
    rw [frame, ends, u_is]
  · rw [frame]
    rfl
  · have prefixes : (replaced p image).translator.prefixes =
        settingsPrefixes (replaceDefinitions p image) p.config.working.lanes (List.finRange 8) := by rw [frame]
    have read : (replaced p image).prefixOf l = if leaves l then .none else p.prefixOf l := by
      rw [State.prefixOf, prefixes, settingsPrefixes_finRange, leavesIs]
      rfl
    exact read
  · rw [control, control_realigned, ← definition, undefined]
    rfl
  · rw [control, control_realigned, ← definition, defined]
    have fresh : p.definition k = none := undefined
    simp only [Option.map_some, Option.getD_some, alignedControl, fresh]
    rfl
  · rw [definition] at new
    rw [control, control_realigned, new]
    exact alignedControl_unknown (s := p) old new (unknown k)
  · have read : (replaced p image).selection g = (realigned p image).selection g := by
      rw [State.selection, State.selection, table_is]
    rw [read, selection_realigned, keptSelection_iff]
    simp only [definition]
    rfl
  · rw [lane]
    simp only [Lane.withDesired_desired]
    rfl
  · have bit : ((replaced p image).lane l).desired.getLsbD n.val =
        if ⟨l, n⟩ ∈ (replacementLamps p image).map (·.1) ∧ (s.lane l).owners.getLsbD n.val = false then
          (replaced p image).litAt ⟨l, n⟩
        else (s.lane l).desired.getLsbD n.val := by
      rw [lane, Lane.withDesired_desired, lit]
      exact getLsbD_replacement distinct l n
    have listed : (⟨l, n⟩ : LampPosition) ∈ (replacementLamps p image).map (·.1) ↔ handed ⟨l, n⟩ := by
      rw [replacementLamps, List.map_append, List.mem_append,
        mem_replacedLamps_iff (s := p) safe.images.working rising, mem_settingsLamps_iff rising]
      refine or_congr Iff.rfl (exists_congr fun k => exists_congr fun d => exists_congr fun b => ?_)
      exact and_congr_right fun _ => and_congr_right fun _ => and_congr_left' (by rw [← ended]; rfl)
    rw [bit]
    refine ⟨fun held => if_neg fun is => ?_, fun follows is => if_pos ⟨listed.2 is, follows⟩⟩
    rcases held with host | unhanded
    · rw [is.2] at host
      cases host
    · exact unhanded (listed.1 is.1)
  · have self := replaced_self (s := p) (safe.controls.placed ..) unknown safe.images.dirty_eq
      (fun l => settingTaken_self (safe.settings.enabled (by rw [config]; decide) l))
      fun l => endedBy_self (safe.settings.enabled (by rw [config]; decide) l)
    rw [same, ← store]
    exact self

end Sys2Proof.Machine
end

section
/-! The start-up vote (R153 to R155, R137), and the state after reset. -/

namespace Sys2Proof.Machine

set_option Elab.async false

/-! ## The state after reset -/

/-- Settles O55, by evaluation: every law is decided on the one state. -/
theorem resetStateKeepsTheLaws : Obligations.ResetStateKeepsTheLaws :=
  ⟨safeState_of (by decide +kernel), fun _ listed => by cases listed⟩

/-! ## The reads of the vote (R153) -/

theorem exec_bankReadEnds {s : State} (running : s.line = .running) :
    exec .bankReadEnds s = .next (bankReadEnds s) := congrArg _ (whenRunning_running running _)

theorem bankReadEnds_idle {s : State} (other : s.store.activity ≠ .voting) : bankReadEnds s = s := by
  rw [bankReadEnds]
  split
  · next is _ => exact absurd is other
  · rfl

theorem bankReadEnds_reads {s : State} {n : BankName} (voting : s.store.activity = .voting)
    (next : nextBankRead s.store = some n) :
    bankReadEnds s =
      if n = .c then completeVote { s with store := readBank s.store n }
      else { s with store := readBank s.store n } := by
  rw [bankReadEnds, voting, next]

theorem nextBankRead_a {st : Store} (a : st.views.a.standing = none) : nextBankRead st = some .a := by
  rw [nextBankRead, a]
  rfl

theorem nextBankRead_b {st : Store} (a : st.views.a.standing ≠ none) (b : st.views.b.standing = none) :
    nextBankRead st = some .b := by
  rw [nextBankRead, if_neg (by simpa using a), b]
  rfl

theorem nextBankRead_c {st : Store} (a : st.views.a.standing ≠ none) (b : st.views.b.standing ≠ none)
    (c : st.views.c.standing = none) : nextBankRead st = some .c := by
  rw [nextBankRead, if_neg (by simpa using a), if_neg (by simpa using b), c]
  rfl

theorem readsValid_iff (b : StoredBank) : b.readsValid = true ↔ b.generation ≠ 0 ∧ b.checkError = 0 := by
  rw [StoredBank.readsValid, Bool.and_eq_true, bne_iff_ne, beq_iff_eq]

/-- What a read records of a bank (R153). -/
theorem readView_eq (b : StoredBank) :
    (⟨some (if b.readsValid then .valid else .invalid), b.generation⟩ : BankView) =
      ⟨some (if b.generation ≠ 0 ∧ b.checkError = 0 then .valid else .invalid), b.generation⟩ := by
  simp only [readsValid_iff b]

/-! ## The outcome (R154) -/

section

variable {st : Store}

theorem betterBank_keeps {m n : BankName}
    (lower : isValid st n = true → (st.banks.get n).generation ≤ (st.banks.get m).generation) :
    betterBank st (some m) n = some m := by
  refine if_neg fun is => ?_
  obtain ⟨valid, less⟩ := (Bool.and_eq_true _ _).mp is
  exact BitVec.not_lt.2 (lower valid) (of_decide_eq_true less)

/-- A VALID bank wins over the candidates before it whose generations are lower. -/
theorem betterBank_takes {o : Option BankName} {n : BankName} (valid : isValid st n = true)
    (higher : ∀ m, o = some m → (st.banks.get m).generation < (st.banks.get n).generation) :
    betterBank st o n = some n := by
  cases o with
  | none => exact if_pos valid
  | some m => exact if_pos ((Bool.and_eq_true _ _).mpr ⟨valid, decide_eq_true (higher m rfl)⟩)

/-- A candidate is one of the banks compared. -/
theorem betterBank_isValid {o : Option BankName} {m n : BankName} (is : betterBank st o n = some m) :
    (m = n ∧ isValid st n = true) ∨ o = some m := by
  unfold betterBank at is
  split at is
  · split at is
    · next valid => exact .inl ⟨(Option.some.inj is).symm, valid⟩
    · cases is
  · split at is
    · next taken => exact .inl ⟨(Option.some.inj is).symm, ((Bool.and_eq_true _ _).mp taken).1⟩
    · exact .inr is

/-- The bank that wins where no two are identical: VALID, the highest generation, the first on a tie. -/
theorem bestBank_eq_some {n : BankName} (valid : isValid st n = true)
    (best : ∀ m, isValid st m = true → (st.banks.get m).generation < (st.banks.get n).generation ∨
      ((st.banks.get m).generation = (st.banks.get n).generation ∧ n.before ≤ m.before)) :
    bestBank st = some n := by
  have notAbove (m : BankName) (is : isValid st m = true) :
      (st.banks.get m).generation ≤ (st.banks.get n).generation := by
    rcases best m is with less | ⟨same, _⟩
    · exact BitVec.le_of_lt less
    · rw [same]
      exact BitVec.le_refl _
  have below (m : BankName) (is : isValid st m = true) (before : m.before < n.before) :
      (st.banks.get m).generation < (st.banks.get n).generation :=
    (best m is).resolve_right fun tie => absurd tie.2 (by omega)
  rw [bestBank]
  cases n with
  | a =>
    rw [betterBank_takes (o := none) valid nofun, betterBank_keeps (notAbove .b), betterBank_keeps (notAbove .c)]
  | b =>
    rw [betterBank_takes (n := .b) valid fun m is => ?_, betterBank_keeps (notAbove .c)]
    obtain ⟨rfl, first⟩ := (betterBank_isValid is).resolve_right nofun
    exact below .a first (by decide)
  | c =>
    refine betterBank_takes valid fun m is => ?_
    rcases betterBank_isValid is with ⟨rfl, second⟩ | is
    · exact below .b second (by decide)
    · obtain ⟨rfl, first⟩ := (betterBank_isValid is).resolve_right nofun
      exact below .a first (by decide)

theorem bestBank_eq_none (invalid : ∀ n, isValid st n = false) : bestBank st = none := by
  simp [bestBank, betterBank, invalid]

/-- Banks that agree in a vote (R149, R154). -/
def sameBanks (st : Store) (m n : BankName) : Prop :=
  isValid st m = true ∧ isValid st n = true ∧ (st.banks.get m).generation = (st.banks.get n).generation ∧
    (st.banks.get m).content = (st.banks.get n).content

theorem identicalBanks_iff {m n : BankName} : identicalBanks st m n = true ↔ sameBanks st m n := by
  rw [identicalBanks, Bool.and_eq_true, Bool.and_eq_true, decide_eq_true_iff, and_assoc, sameBanks]

theorem identicalBanks_eq_false {m n : BankName} (apart : ¬sameBanks st m n) : identicalBanks st m n = false :=
  Bool.eq_false_iff.2 (mt identicalBanks_iff.1 apart)

theorem sameBanks.symm {m n : BankName} (same : sameBanks st m n) : sameBanks st n m :=
  ⟨same.2.1, same.1, same.2.2.1.symm, same.2.2.2.symm⟩

theorem sameBanks.trans {m n o : BankName} (first : sameBanks st m n) (second : sameBanks st n o) : sameBanks st m o :=
  ⟨first.1, second.2.1, first.2.2.1.trans second.2.2.1, first.2.2.2.trans second.2.2.2⟩

theorem voteOutcome_full (ab : sameBanks st .a .b) (ac : sameBanks st .a .c) :
    voteOutcome st = outcomeOf st .a .full none := by
  rw [voteOutcome, identicalBanks_iff.2 ab, identicalBanks_iff.2 ac]

/-- Two identical banks and one apart: the pair prevails. -/
theorem voteOutcome_majority {m n o : BankName} (order : [m, n, o] ∈ [[BankName.a, .b, .c], [.a, .c, .b], [.b, .c, .a]])
    (pair : sameBanks st m n) (apart : ¬sameBanks st m o) :
    voteOutcome st = outcomeOf st m .majority (some o) := by
  simp only [List.mem_cons, List.cons.injEq, and_true, List.not_mem_nil, or_false] at order
  rcases order with ⟨rfl, rfl, rfl⟩ | ⟨rfl, rfl, rfl⟩ | ⟨rfl, rfl, rfl⟩
  · rw [voteOutcome, identicalBanks_iff.2 pair, identicalBanks_eq_false apart]
  · rw [voteOutcome, identicalBanks_iff.2 pair, identicalBanks_eq_false apart]
  · rw [voteOutcome, identicalBanks_iff.2 pair, identicalBanks_eq_false fun ab => apart ab.symm,
      identicalBanks_eq_false fun ac => apart (pair.trans ac.symm)]

section

variable (ab : ¬sameBanks st .a .b) (ac : ¬sameBanks st .a .c) (bc : ¬sameBanks st .b .c)

include ab ac bc

theorem voteOutcome_single {n : BankName} (best : bestBank st = some n) :
    voteOutcome st = outcomeOf st n .single none := by
  rw [voteOutcome, identicalBanks_eq_false ab, identicalBanks_eq_false ac, identicalBanks_eq_false bc, best]

theorem voteOutcome_blank (best : bestBank st = none) : voteOutcome st = ⟨.defaults, 0, .blank, none⟩ := by
  rw [voteOutcome, identicalBanks_eq_false ab, identicalBanks_eq_false ac, identicalBanks_eq_false bc, best]

end

end

/-! ## The image is loaded (R137) -/

section

variable {s : State} {old : Vector LaneSetting 8}

/-- Where no lane leaves RUNNING, taking the settings changes the lanes alone. -/
theorem settingsTaken_stays (stays : ∀ l, leavesBy s old l = false) (ls : List LaneId) :
    settingsTaken s old ls = { s with lanes := settingsLanes s old ls } := by
  have work : settingsWork s old ls = [] := by simp [settingsWork, stays]
  have prefixes : settingsPrefixes s old ls = s.translator.prefixes := by
    refine Vector.ext fun l low => ?_
    simp only [settingsPrefixes, stays, Bool.false_eq_true, and_false, if_false, Vector.getElem_ofFn]
    rfl
  rw [settingsTaken, work, prefixes]
  rfl

theorem lane_settingsTaken_stays (stays : ∀ l, leavesBy s old l = false) (l : LaneId) :
    (settingsTaken s old (List.finRange 8)).lane l =
      (s.lane l).settingTaken old[l] s.config.working.lanes[l] := by
  have lamps : settingsLamps s old (List.finRange 8) = [] := by simp [settingsLamps, stays]
  rw [settingsTaken_lane, lamps, takenLane, if_pos (List.mem_finRange l)]
  have kept : handedImage l (s.lane l) [] = ((s.lane l).settingTaken old[l] s.config.working.lanes[l]).desired :=
    ((s.lane l).settingTaken_desired _ _).symm
  rw [kept]

end

/-- The state in which the voted image is in use, before the lanes take their settings (R137, R22). -/
def loaded (s : State) (image : ConfigImage) : State :=
  { s with
    config := ⟨.run, image, image, false⟩
    table := ⟨image.controls.map fun e => (e.1, .fresh), Vector.replicate 32 none⟩ }

section

variable {s : State} {image : ConfigImage} (disabled : ∀ l, (s.lane l).phase = .disabled)

include disabled

theorem leavesBy_loaded (l : LaneId) : leavesBy (loaded s image) s.config.working.lanes l = false := by
  refine decide_eq_false fun is => ?_
  cases (disabled l).symm.trans is.1

omit disabled in
theorem loadImage_eq (quiet : s.delivering = false) (free : s.translator.waiting = none)
    (orderly : ∀ l, (s.lane l).Orderly) :
    loadImage s image = settingsTaken (loaded s image) s.config.working.lanes (List.finRange 8) := by
  refine applyAllSettings_eq (s := loaded s image) quiet free (fun e listed => ?_) orderly
  obtain ⟨_, _, rfl⟩ := List.mem_map.1 listed
  rfl

theorem lane_loadImage (l : LaneId) :
    (settingsTaken (loaded s image) s.config.working.lanes (List.finRange 8)).lane l =
      if image.lanes[l].enabled then
        { s.lane l with
          phase := .absent
          activity := if (s.lane l).frame.isSome then .receiving else .idle
          list := [⟨.probeIdentify, none⟩] }
      else s.lane l := by
  rw [lane_settingsTaken_stays (leavesBy_loaded disabled)]
  show (s.lane l).settingTaken s.config.working.lanes[l] image.lanes[l] = _
  cases on : image.lanes[l].enabled with
  | true => rw [Lane.settingTaken_enables on (disabled l)]; rfl
  | false => rw [Lane.settingTaken_disabled on (disabled l)]; rfl

end

/-! ## The vote (R153 to R155) -/

/-- What the vote's conclusion takes from the outcome, and what it leaves of the store (R155). -/
structure VoteKept (st t : Store) (v : VoteOutcome) : Prop where
  image : t.image = v.image
  generation : t.generation = v.generation
  standing : t.standing = v.standing
  banks : t.banks = st.banks
  restartPending : t.restartPending = st.restartPending
  commit : t.commit = st.commit

theorem concludeVote_kept (st : Store) (v : VoteOutcome) : VoteKept st (concludeVote st v) v := by
  obtain ⟨image, generation, standing, odd⟩ := v
  cases odd <;> exact ⟨rfl, rfl, rfl, rfl, rfl, rfl⟩

section

variable {st : Store} (read : ∀ n, n ≠ .c → (st.views.get n).standing =
  some (if (st.banks.get n).readsValid then .valid else .invalid))

include read

/-- What the three reads leave of each bank (R153). -/
theorem view_readBank (n : BankName) : (readBank st .c).views.get n =
    ⟨some (if (st.banks.get n).readsValid then .valid else .invalid),
      if n = .c then st.banks.c.generation else (st.views.get n).generation⟩ := by
  cases n with
  | a => exact congrArg (fun v => (⟨v, st.views.a.generation⟩ : BankView)) (read .a (by decide))
  | b => exact congrArg (fun v => (⟨v, st.views.b.generation⟩ : BankView)) (read .b (by decide))
  | c => rfl

theorem isValid_readBank (n : BankName) : isValid (readBank st .c) n = (st.banks.get n).readsValid := by
  rw [isValid, view_readBank read]
  cases (st.banks.get n).readsValid <;> rfl

/-- The standing and the generation that the vote leaves of each bank (R150, R155). -/
theorem views_concludeVote (v : VoteOutcome) (n : BankName) :
    (concludeVote (readBank st .c) v).views.get n =
      ⟨some (if v.odd ≠ some n ∧ (st.banks.get n).readsValid then .valid else .invalid),
        if n = .c then st.banks.c.generation else (st.views.get n).generation⟩ := by
  obtain ⟨image, generation, standing, odd⟩ := v
  have view := view_readBank read n
  cases odd with
  | none => exact view.trans (by simp)
  | some o =>
    have views : (concludeVote (readBank st .c) ⟨image, generation, standing, some o⟩).views =
        (readBank st .c).views.set o { (readBank st .c).views.get o with standing := some .invalid } := rfl
    rw [views]
    by_cases here : n = o
    · subst here
      rw [PerBank.get_set_self, view]
      simp
    · rw [PerBank.get_set_ne _ here, view]
      simp [Ne.symm here]

end

/-- The store once the vote has read bank C and decided (R155). -/
def voted (s : State) (v : VoteOutcome) : State := { s with store := concludeVote (readBank s.store .c) v }

/-- Settles O36: the reads one by one, then the outcome and the state it starts the part with. -/
theorem voteReadsTheBanksAndDecides : Obligations.VoteReadsTheBanksAndDecides := by
  unfold Obligations.VoteReadsTheBanksAndDecides
  refine ⟨fun s running => ?_, ?_⟩
  · intro view
    refine ⟨fun voting a => ?_, fun voting a b => ?_, fun other => ?_⟩
    · refine (exec_bankReadEnds running).trans (congrArg _ ?_)
      rw [bankReadEnds_reads voting (nextBankRead_a a), if_neg (by decide)]
      exact congrArg (fun v : BankView =>
        { s with store := { s.store with views := { s.store.views with a := v } } }) (readView_eq s.store.banks.a)
    · refine (exec_bankReadEnds running).trans (congrArg _ ?_)
      rw [bankReadEnds_reads voting (nextBankRead_b a b), if_neg (by decide)]
      exact congrArg (fun v : BankView =>
        { s with store := { s.store with views := { s.store.views with b := v } } }) (readView_eq s.store.banks.b)
    · exact (exec_bankReadEnds running).trans (congrArg _ (bankReadEnds_idle other))
  · intro s image generation standing odd running voting safe a b c read bank same outcome
    have valid := isValid_readBank read
    have same_iff (m n : BankName) : sameBanks (readBank s.store .c) m n ↔ same m n := by
      rw [sameBanks, valid, valid]
      rfl
    have vote : voteOutcome (readBank s.store .c) = ⟨image, generation, standing, odd⟩ := by
      rcases outcome with ⟨ab, ac, rfl, rfl, rfl, rfl⟩ | ⟨m, n, o, order, pair, apart, rfl, rfl, rfl, rfl⟩ |
        ⟨ab, ac, bc, ⟨n, good, best, rfl, rfl⟩, rfl, rfl⟩ | ⟨bad, rfl, rfl, rfl, rfl⟩
      · exact voteOutcome_full ((same_iff ..).2 ab) ((same_iff ..).2 ac)
      · exact voteOutcome_majority order ((same_iff ..).2 pair) (mt (same_iff ..).1 apart)
      · refine voteOutcome_single (mt (same_iff ..).1 ab) (mt (same_iff ..).1 ac) (mt (same_iff ..).1 bc)
          (bestBank_eq_some ((valid n).trans good) fun m is => best m ((valid m).symm.trans is))
      · have none (m n : BankName) : ¬sameBanks (readBank s.store .c) m n := fun is => by
          have first := is.1
          rw [valid, bad] at first
          cases first
        exact voteOutcome_blank (none _ _) (none _ _) (none _ _) (bestBank_eq_none fun n => (valid n).trans (bad n))
    have startup : s.config.mode = .startup := safe.store.voting.1 voting
    have off : s.delivery.state = .off := safe.delivery.onlyInRun (by rw [startup]; decide)
    have disabled := (safe.controls.startup startup).2
    have free : s.translator.waiting = none := not_not.1 (mt safe.delivery.waits (by simp [off]))
    have quiet : s.delivering = false := by simp [State.delivering, off]
    have ends : bankReadEnds s =
        settingsTaken (loaded (voted s ⟨image, generation, standing, odd⟩) image)
          (voted s ⟨image, generation, standing, odd⟩).config.working.lanes (List.finRange 8) := by
      rw [bankReadEnds_reads voting (nextBankRead_c a b c), if_pos rfl, completeVote]
      dsimp only
      rw [vote]
      exact loadImage_eq (s := voted s ⟨image, generation, standing, odd⟩) quiet free
        fun l => (safe.lanes running l).orderly
    have lane := lane_loadImage (s := voted s ⟨image, generation, standing, odd⟩) (image := image) disabled
    rw [settingsTaken_stays (leavesBy_loaded (s := voted s ⟨image, generation, standing, odd⟩) (image := image) disabled)] at ends lane
    have store := concludeVote_kept (readBank s.store .c) ⟨image, generation, standing, odd⟩
    refine ⟨_, (exec_bankReadEnds running).trans (congrArg _ ends), rfl, rfl, store.image, store.generation,
      store.standing, store.banks, fun even => ?_, fun o is => ?_, fun n => ?_, store.restartPending, store.commit,
      fun c => ?_, fun g => ?_, lane⟩
    · subst even
      exact ⟨rfl, (safe.controls.noWrite voting).1⟩
    · subst is
      exact ⟨rfl, rfl⟩
    · exact views_concludeVote read ⟨image, generation, standing, odd⟩ n
    · exact (congrArg (fun x : Option ControlState => x.getD .fresh)
        (lookupKey_map image.controls (fun _ _ => .fresh) c)).trans (by cases lookupKey image.controls c <;> rfl)
    · show (Vector.replicate 32 (none : Option ControlId))[g] = none
      simp

end Sys2Proof.Machine
end

section
/-! A step as a move of the part: what a step's command can do, with the command queue, the clock and the receiver, which no
law reads, taken out; and what a request that is taken can do, kind by kind. -/

namespace Sys2Proof.Machine

set_option Elab.async false

/-! ## What no law reads -/

/-- The state with another clock, receiver, count of discarded frames and queue of commands. -/
def State.seenFrom (s : State) (time : TimeBase) (rx : Option Assembly) (discarded : Half) (pending : List Instr) : State :=
  { s with time := time, pending := pending, link := { s.link with rx := rx, discarded := discarded } }

/-- No law reads the clock, the receiver, the count of discarded frames or the queue of commands. -/
theorem SafeState.seenFrom {s : State} (safe : SafeState s) (time : TimeBase) (rx : Option Assembly) (discarded : Half)
    (pending : List Instr) : SafeState (s.seenFrom time rx discarded pending) where
  delivery := { safe.delivery with }
  requests := { safe.requests with }
  restart := { safe.restart with }
  lanes := safe.lanes
  owed := safe.owed
  images := { safe.images with }
  store := { safe.store with }
  controls := { safe.controls with }
  settings := { safe.settings with }

/-! ## The images that an edit makes -/

section
variable {image : ConfigImage} {c : ControlId}

theorem eraseKey_insertKey {n : Nat} {α : Type} (t : List (Fin n × α)) (k : Fin n) (v : α) :
    eraseKey (insertKey t k v) k = eraseKey t k := by
  induction t with
  | nil => simp [insertKey, eraseKey]
  | cons e t ih =>
    obtain ⟨j, w⟩ := e
    unfold insertKey
    split
    · simp [eraseKey]
    · split
      · next same => simp [eraseKey, same]
      · unfold eraseKey at ih ⊢
        simp only [List.filter_cons, ih]

/-- A definition set takes the place of the one before. -/
theorem withDefinition_perm (rising : sortedKeys image.controls) (d : ControlDef) :
    (withDefinition image c (some d)).controls.Perm ((c, d) :: eraseKey image.controls c) := by
  have listed : lookupKey (insertKey image.controls c d) c = some d := by rw [lookupKey_insertKey, if_pos rfl]
  have perm := perm_eraseKey (sortedKeys_insertKey rising c d) listed
  rwa [eraseKey_insertKey] at perm

theorem wf_withoutDefinition (wf : image.wf) : (withDefinition image c none).wf := by
  obtain ⟨rising, defs, bindings, lamps, members, rest⟩ := wf
  have sub : (eraseKey image.controls c).Sublist image.controls := List.filter_sublist
  exact ⟨rising.sublist sub, fun e mem => defs e (sub.subset mem), bindings.sublist sub, lamps.sublist sub,
    fun g => (sub.countP_le).trans (members g), rest⟩

/-- A field of the definitions that no two may share stays so when the definition set shares it with no other. -/
theorem distinct_withDefinition {α : Type} {f : ControlDef → Option α} {d : ControlDef} (rising : sortedKeys image.controls)
    (distinct : image.controls.Pairwise fun x y => f x.2 = none ∨ f x.2 ≠ f y.2)
    (free : ∀ e ∈ image.controls, e.1 ≠ c → f d = none ∨ f d ≠ f e.2) :
    (withDefinition image c (some d)).controls.Pairwise fun x y => f x.2 = none ∨ f x.2 ≠ f y.2 := by
  have symmetric {x y : ControlId × ControlDef} (h : f x.2 = none ∨ f x.2 ≠ f y.2) : f y.2 = none ∨ f y.2 ≠ f x.2 := by
    rcases h with absent | ne
    · by_cases also : f y.2 = none
      · exact .inl also
      · exact .inr fun same => also (same.trans absent)
    · exact .inr ne.symm
  refine ((withDefinition_perm rising d).pairwise_iff symmetric).2
    (List.pairwise_cons.2 ⟨fun e mem => ?_, distinct.sublist List.filter_sublist⟩)
  obtain ⟨mem, other⟩ := List.mem_filter.1 mem
  exact free e mem (of_decide_eq_true other)

theorem wf_withDefinition {d : ControlDef} (wf : image.wf) (key : d.wf) (binding : bindingHolder image c d.binding = none)
    (lamp : lampHolder image c d.lamp = none) (room : groupIsFull image c d.kind = false) :
    (withDefinition image c (some d)).wf := by
  obtain ⟨rising, defs, bindings, lamps, members, rest⟩ := wf
  refine ⟨rising_withDefinition rising c (some d), fun e mem => ?_,
    distinct_withDefinition (f := ControlDef.binding) rising bindings fun e mem other => ?_,
    distinct_withDefinition (f := ControlDef.lampPosition) rising lamps fun e mem other => ?_, fun g => ?_, rest⟩
  · rcases mem_insertKey mem with rfl | mem
    · exact key
    · exact defs e mem
  · rw [bindingHolder_eq] at binding
    by_cases present : d.binding = none
    · exact .inl present
    · rw [if_neg present, Option.map_eq_none_iff, List.find?_eq_none] at binding
      exact .inr fun same => binding e mem (decide_eq_true ⟨other, same.symm⟩)
  · rw [lampHolder_eq] at lamp
    by_cases present : d.lampPosition = none
    · exact .inl present
    · rw [if_neg present, Option.map_eq_none_iff, List.find?_eq_none] at lamp
      exact .inr fun same => lamp e mem (decide_eq_true ⟨other, same.symm⟩)
  · rw [ConfigImage.memberCount, (withDefinition_perm rising d).countP_eq, List.countP_cons]
    have fewer : (eraseKey image.controls c).countP (fun e => decide (e.2.kind = .member g)) ≤ image.memberCount g :=
      List.filter_sublist.countP_le
    by_cases member : d.kind = .member g
    · rw [member] at room
      simp only [groupIsFull, decide_eq_false_iff_not, not_le] at room
      have counted : (eraseKey image.controls c).countP (fun e => decide (e.2.kind = .member g)) =
          image.controls.countP fun e => decide (e.1 ≠ c ∧ e.2.kind = .member g) := by
        rw [eraseKey, List.countP_filter]
        exact List.countP_congr fun e _ => by simp [and_comm]
      simp only [member, decide_true, if_true, counted]
      omega
    · simp only [member, decide_false, Bool.false_eq_true, if_false]
      exact fewer.trans (members g)

theorem bindingOf_keyCode {present lane extended code : Byte} {o : Option Binding}
    (read : bindingOf present lane extended code = some o) : ∀ b ∈ o, isKeyCode b.code := by
  rintro b rfl
  simp only [bindingOf, Option.bind_eq_bind, Option.bind_eq_some_iff] at read
  obtain ⟨flag, -, read⟩ := read
  split at read
  · simp only [Option.bind_eq_some_iff, Option.pure_def, Option.some.injEq] at read
    obtain ⟨l, -, e, -, key, code, rfl⟩ := read
    simp only [keyCodeOf] at code
    split at code
    · next isKey =>
      cases code
      exact isKey
    · cases code
  · cases read

theorem definitionOf_wf {body : List Byte} {d : ControlDef} (read : definitionOf body = some (c, d)) : d.wf := by
  unfold definitionOf at read
  split at read
  · rw [← definitionOf, definitionOf_eq_some_iff] at read
    exact bindingOf_keyCode read.2.2.1
  · cases read

end

/-! ## What a taken request does -/

/-- What a request that is answered at once does besides. -/
inductive Worked (s : State) : State → Prop where
  | nothing : Worked s s
  | opened (w : Nat) : w ≤ 64 → s.delivery.state = .off → s.config.mode = .run → Worked s (openSession s w)
  | acked (n w : Nat) : w ≤ 64 → s.delivery.state ≠ .off → n ≤ s.delivery.inFlight → Worked s (admitAck s n w)
  | closed : s.delivery.state ≠ .off → Worked s (closeSession s)
  | lampsWritten (l : LaneId) (mask values : Half) : (s.lane l).phase = .running →
      Worked s (s.modLane l fun x => x.hostLamps mask values)
  | lampsReleased (l : LaneId) (mask : Half) : Worked s (s.modLane l fun x => x.releaseLamps mask (litImage s l))
  | faultCleared (l : LaneId) :
      Worked s (s.modLane l fun x => { x with firstFault := none, lastFault := none, faultCount := 0 })
  | configEntered : s.config.mode = .run → s.delivery.state = .off →
      Worked s (settleLamps s (allUnknown (setMode s .config)))
  | configLeft : s.config.mode = .config → Worked s (leftConfig (setMode (abortLearn s) .run))
  | edited (image : ConfigImage) : s.config.mode = .config → (s.config.working.wf → image.wf) →
      image.lanes = s.config.working.lanes → Worked s (editDefinitions s image)
  | worked (image : ConfigImage) : s.config.mode = .config → (s.config.working.wf → image.wf) →
      image.controls = s.config.working.controls → image.lanes = s.config.working.lanes → Worked s (setWorking s image)
  | laneSet (l : LaneId) (new : LaneSetting) : s.config.mode = .config → new.expectedType ≤ 0x7F#8 →
      Worked s (changeSetting s l new)
  | replaced (image : ConfigImage) : s.config.mode = .config → (image = s.config.storeCopy ∨ image = .defaults) →
      Worked s (replaceWorking s image)

/-- What a request of a kind, placed in slot `i`, comes to: answered at once, or left ACTIVE with its owner (R183). -/
inductive Served (kind : Byte) (i : SlotId) (s : State) : State → Prop where
  | answered (u : State) (r : Reply) : Worked s u → (kind = RequestKind.restart.code → r ≠ bare .ok) →
      Served kind i s (complete u i r)
  | restarts : kind = RequestKind.restart.code → s.store.activity = .idle → s.store.restartPending = false →
      Served kind i s (complete { s with store := { s.store with restartPending := true } } i (bare .ok))
  | laneEntry (l : LaneId) (k : EntryKind) : kind = RequestKind.laneCommand.code → (s.lane l).phase = .running →
      (s.lane l).hostEntries < 2 → (k = .identify ∨ k = .rescan ∨ k = .resetModule) →
      Served kind i s (s.modLane l fun x => { x with list := x.list ++ [⟨k, some i⟩] })
  | lampsWait (l : LaneId) (y : Lane) (mask values : Half) : kind = RequestKind.setLamps.code →
      (s.lane l).phase = .running → y = (s.lane l).hostLamps mask values → y.ackedVersion ≠ y.desiredVersion →
      Served kind i s (s.setLane l { y with waiters := y.waiters ++ [⟨i, y.desiredVersion⟩] })
  | learning (w : LearnWaiter) : kind = RequestKind.learn.code → s.config.mode = .config → s.translator.learn = none →
      w.slot = i → Served kind i s { s with translator := { s.translator with learn := some w } }
  | committed : kind = RequestKind.commit.code → s.config.mode ≠ .startup → s.store.activity ≠ .committing →
      s.store.restartPending = false → commitGeneration s.store ≤ 4294967295 → Served kind i s (takeCommit s i)

section
variable {s : State} {i : SlotId} {body : List Byte}

/-- A request that is refused or only reads. -/
theorem Served.plain {kind : Byte} (other : kind ≠ RequestKind.restart.code) (r : Reply) : Served kind i s (complete s i r) :=
  .answered s r .nothing fun same => absurd same other

theorem Served.works {kind : Byte} {u : State} (work : Worked s u) (other : kind ≠ RequestKind.restart.code) (r : Reply) :
    Served kind i s (complete u i r) :=
  .answered u r work fun same => absurd same other

theorem Served.refused (kind : Byte) {status : Status} (bad : status ≠ .ok) : Served kind i s (complete s i (bare status)) :=
  .answered s _ .nothing fun _ same => bad (congrArg Reply.status same)

theorem restartRequest_served : Served RequestKind.restart.code i s (restartRequest i body s) := by
  unfold restartRequest
  split
  · exact .refused _ (by decide)
  · next free =>
    rw [not_or, not_not, Bool.not_eq_true] at free
    exact .restarts rfl free.1 free.2

theorem startEvents_served (mode : s.config.mode = .run) :
    Served RequestKind.startEvents.code i s (startEvents i body s) := by
  unfold startEvents
  split
  · split
    · exact .plain (by decide) _
    · next range =>
      split
      · exact .plain (by decide) _
      · next off => exact .works (.opened _ (Nat.le_of_not_lt range) (not_not.1 off) mode) (by decide) _
  · exact .plain (by decide) _

theorem ackEvents_served : Served RequestKind.ackEvents.code i s (ackEvents i body s) := by
  unfold ackEvents
  split
  · split
    · exact .plain (by decide) _
    · next range =>
      split
      · exact .plain (by decide) _
      · next delivering =>
        dsimp only
        split
        · next near => exact .works (.acked _ _ (Nat.le_of_not_lt range) delivering near) (by decide) _
        · exact .plain (by decide) _
  · exact .plain (by decide) _

theorem stopEvents_served : Served RequestKind.stopEvents.code i s (stopEvents i body s) := by
  unfold stopEvents
  dsimp only
  split
  · exact .plain (by decide) _
  · next delivering => exact .works (.closed delivering) (by decide) _

theorem readControls_served : Served RequestKind.readControls.code i s (readControls i body s) := by
  unfold readControls
  dsimp only
  repeat' split
  all_goals exact .plain (by decide) _

theorem readGroups_served : Served RequestKind.readGroups.code i s (readGroups i body s) := by
  unfold readGroups
  dsimp only
  repeat' split
  all_goals exact .plain (by decide) _

theorem readLane_served : Served RequestKind.readLane.code i s (readLane i body s) := by
  unfold readLane
  repeat' split
  all_goals exact .plain (by decide) _

theorem laneCommandOf_host {b : Byte} {k : EntryKind} (read : laneCommandOf b = some k) :
    k = .identify ∨ k = .rescan ∨ k = .resetModule := by
  unfold laneCommandOf at read
  split at read
  · exact .inl (Option.some.inj read).symm
  · split at read
    · exact .inr (.inl (Option.some.inj read).symm)
    · split at read
      · exact .inr (.inr (Option.some.inj read).symm)
      · cases read

theorem laneCommand_served : Served RequestKind.laneCommand.code i s (laneCommand i body s) := by
  unfold laneCommand
  split
  · split
    · next l k _ read =>
      split
      · exact .plain (by decide) _
      · next running =>
        split
        · exact .plain (by decide) _
        · next room =>
          exact .laneEntry l k rfl (not_not.1 running) (Nat.lt_of_not_le room) (laneCommandOf_host read)
    · exact .plain (by decide) _
  · exact .plain (by decide) _

theorem setLampsOn_served {l : LaneId} (running : (s.lane l).phase = .running) (mask values : Half) :
    Served RequestKind.setLamps.code i s (setLampsOn i l mask values s) := by
  by_cases confirmed : ((s.lane l).hostLamps mask values).ackedVersion = ((s.lane l).hostLamps mask values).desiredVersion
  · rw [setLampsOn_completes i rfl confirmed]
    exact .works (.lampsWritten l mask values running) (by decide) _
  · rw [setLampsOn_waits i rfl confirmed]
    exact .lampsWait l _ mask values rfl running rfl confirmed

theorem setLamps_served : Served RequestKind.setLamps.code i s (setLamps i body s) := by
  unfold setLamps
  split
  · split
    · split
      · exact .plain (by decide) _
      · next running => exact setLampsOn_served (not_not.1 running) _ _
    · exact .plain (by decide) _
  · exact .plain (by decide) _

theorem releaseLamps_served : Served RequestKind.releaseLamps.code i s (releaseLampsRequest i body s) := by
  unfold releaseLampsRequest
  split
  · split
    · exact .works (.lampsReleased _ _) (by decide) _
    · exact .plain (by decide) _
  · exact .plain (by decide) _

theorem clearLaneFault_served : Served RequestKind.clearLaneFault.code i s (clearLaneFault i body s) := by
  unfold clearLaneFault
  split
  · split
    · exact .works (.faultCleared _) (by decide) _
    · exact .plain (by decide) _
  · exact .plain (by decide) _

theorem enterConfig_served (started : s.config.mode ≠ .startup) :
    Served RequestKind.enterConfig.code i s (enterConfig i body s) := by
  unfold enterConfig
  split
  · exact .plain (by decide) _
  · next free =>
    rw [not_or, not_not] at free
    have run : s.config.mode = .run := by cases mode : s.config.mode <;> simp_all
    exact .works (.configEntered run free.2) (by decide) _

theorem exitConfig_served : Served RequestKind.exitConfig.code i s (exitConfig i body s) := by
  unfold exitConfig
  split
  · exact .plain (by decide) _
  · next mode => exact .works (.configLeft (not_not.1 mode)) (by decide) _

theorem defineControl_served (mode : s.config.mode = .config) :
    Served RequestKind.defineControl.code i s (defineControl i body s) := by
  unfold defineControl
  split
  · next c d read =>
    unfold defineControlAs
    dsimp only
    split
    · exact .plain (by decide) _
    · next binding =>
      split
      · exact .plain (by decide) _
      · next lamp =>
        split
        · exact .plain (by decide) _
        · next room =>
          exact .works (.edited _ mode
            (fun wf => wf_withDefinition wf (definitionOf_wf read) binding lamp (Bool.eq_false_iff.2 room)) rfl)
            (by decide) _
  · exact .plain (by decide) _

theorem deleteControl_served (mode : s.config.mode = .config) :
    Served RequestKind.deleteControl.code i s (deleteControl i body s) := by
  unfold deleteControl
  split
  · split
    · exact .plain (by decide) _
    · split
      · exact .plain (by decide) _
      · exact .works (.edited _ mode wf_withoutDefinition rfl) (by decide) _
  · exact .plain (by decide) _

theorem readControlDef_served : Served RequestKind.readControlDef.code i s (readControlDef i body s) := by
  unfold readControlDef
  repeat' split
  all_goals exact .plain (by decide) _

theorem setGroup_served (mode : s.config.mode = .config) :
    Served RequestKind.setGroup.code i s (setGroup i body s) := by
  unfold setGroup
  split
  · split
    · next g m _ _ =>
      have set : Worked s (setWorking s { s.config.working with groupModes := s.config.working.groupModes.set g m }) :=
        .worked _ mode id rfl rfl
      exact .works set (by decide) _
    · exact .plain (by decide) _
  · exact .plain (by decide) _

theorem setLane_served (mode : s.config.mode = .config) :
    Served RequestKind.setLane.code i s (setLaneRequest i body s) := by
  unfold setLaneRequest
  split
  · split
    · split
      · exact .plain (by decide) _
      · next range => exact .works (.laneSet _ _ mode (BitVec.not_lt.1 range)) (by decide) _
    · exact .plain (by decide) _
  · exact .plain (by decide) _

theorem setDelivery_served (mode : s.config.mode = .config) :
    Served RequestKind.setDelivery.code i s (setDelivery i body s) := by
  unfold setDelivery
  split
  · dsimp only
    split
    · exact .plain (by decide) _
    · next range =>
      simp only [not_or, Nat.not_lt] at range
      obtain ⟨least, most, one, fifteen⟩ := range
      have lawful (ms n : Nat) (least : 50 ≤ ms) (most : ms ≤ 2000) (one : 1 ≤ n) (fifteen : n ≤ 15) :
          Worked s (setWorking s { s.config.working with retransmitTimeout := ms, retransmitLimit := n }) := by
        refine .worked _ mode (fun wf => ?_) rfl rfl
        obtain ⟨rising, defs, bindings, lamps, members, types, -⟩ := wf
        exact ⟨rising, defs, bindings, lamps, members, types, least, most, one, fifteen⟩
      exact .works (lawful _ _ least most one fifteen) (by decide) _
  · exact .plain (by decide) _

theorem learn_served (mode : s.config.mode = .config) : Served RequestKind.learn.code i s (learnRequest i body s) := by
  unfold learnRequest
  split
  · split
    · exact .plain (by decide) _
    · split
      · exact .plain (by decide) _
      · split
        · exact .plain (by decide) _
        · next free => exact .learning _ rfl mode (by simpa using free) rfl
  · exact .plain (by decide) _

theorem commit_served (started : s.config.mode ≠ .startup) :
    Served RequestKind.commit.code i s (commitRequest i body s) := by
  unfold commitRequest
  split
  · exact .plain (by decide) _
  · next free =>
    rw [not_or, Bool.not_eq_true] at free
    split
    · exact .plain (by decide) _
    · next fits => exact .committed rfl started free.1 free.2 (Nat.le_of_not_lt fits)

/-- A request of a catalogue kind that the mode admits. -/
theorem carryOut_served (k : RequestKind) (mode : modeRefusal k.modeClass s.config.mode = none) :
    Served k.code i s (carryOut k i body s) := by
  have run (only : modeRefusal .runOnly s.config.mode = none) : s.config.mode = .run := by
    cases mode : s.config.mode <;> simp_all [modeRefusal]
  have config (only : modeRefusal .configOnly s.config.mode = none) : s.config.mode = .config := by
    cases mode : s.config.mode <;> simp_all [modeRefusal]
  have started (ready : modeRefusal .ready s.config.mode = none) : s.config.mode ≠ .startup := by
    cases mode : s.config.mode <;> simp_all [modeRefusal]
  cases k
  case identifyPart => exact .plain (by decide) _
  case getStatus => exact .plain (by decide) _
  case restart => exact restartRequest_served (body := body)
  case startEvents => exact startEvents_served (run mode)
  case ackEvents => exact ackEvents_served
  case stopEvents => exact stopEvents_served (body := body)
  case readControls => exact readControls_served
  case readGroups => exact readGroups_served
  case readLane => exact readLane_served
  case laneCommand => exact laneCommand_served
  case setLamps => exact setLamps_served
  case releaseLamps => exact releaseLamps_served
  case clearLaneFault => exact clearLaneFault_served
  case enterConfig => exact enterConfig_served (body := body) (started mode)
  case exitConfig => exact exitConfig_served (body := body)
  case defineControl => exact defineControl_served (config mode)
  case deleteControl => exact deleteControl_served (config mode)
  case readControlDef => exact readControlDef_served
  case setGroup => exact setGroup_served (config mode)
  case setLane => exact setLane_served (config mode)
  case setDelivery => exact setDelivery_served (config mode)
  case learn => exact learn_served (config mode)
  case commit => exact commit_served (body := body) (started mode)
  case revert =>
    rw [carryOut_revert, revertRequest]
    exact .works (.replaced _ (config mode) (.inl rfl)) (by decide) _
  case loadDefaults =>
    rw [carryOut_loadDefaults, loadDefaults]
    exact .works (.replaced _ (config mode) (.inr rfl)) (by decide) _
  case readStore => exact .plain (by decide) _

theorem code_of_requestKindOf {kind : Byte} {k : RequestKind} (read : requestKindOf kind = some k) : k.code = kind := by
  simpa using List.find?_some read

theorem validate_served (kind : Byte) : Served kind i s (validate s i kind body) := by
  unfold validate
  split
  · next k read =>
    rw [← code_of_requestKindOf read]
    unfold validateKind
    split
    · exact .refused _ (by decide)
    · split
      · next status refused =>
        refine .refused _ fun ok => ?_
        subst ok
        revert refused
        cases k.modeClass <;> cases s.config.mode <;> simp [modeRefusal]
      · next mode => exact carryOut_served k mode
  · exact .refused _ (by decide)

end

/-! ## What a frame from the host does -/

/-- A frame that is not ignored: refused with an unstored reply, answered again, or taken (R179 to R181). -/
inductive Received (s : State) : State → Prop where
  | refused (tag kind : Byte) (status : Status) : status = .tagConflict ∨ status = .busy →
      s.link.replies.countP ReplyEntry.isRefusal < 4 →
      Received s { s with link := { s.link with replies := s.link.replies ++ [.refusal tag kind status] } }
  | repeated (i : SlotId) : (s.slot i).isDone = true → Received s (requeue s i)
  | taken (i : SlotId) (q : RequestId) (t : State) : q.tag ≠ 0 →
      ((s.slotHolding q.tag = none ∧ s.chosenSlot = some i) ∨
        (s.slotHolding q.tag = some i ∧ (s.slot i).isDone = true)) →
      Served q.kind i (placeRequest s i q) t → Received s t

/-- A frame changes nothing that a law reads, or it is received. -/
theorem receiveFrame_cases (s : State) (tag kind : Byte) (body : List Byte) :
    (∃ discarded, receiveFrame tag kind body s = s.seenFrom s.time s.link.rx discarded s.pending) ∨
      Received s (receiveFrame tag kind body s) := by
  unfold receiveFrame
  split
  · exact .inl ⟨_, rfl⟩
  · next tagged =>
    rcases intake_cases s tag kind body with e | ⟨status, which, e⟩ | ⟨i, ⟨q, r, done⟩, e⟩ | ⟨i, place, e⟩ <;> rw [e]
    · exact .inl ⟨s.link.discarded, rfl⟩
    · unfold queueRefusal
      split
      · next room => exact .inr (.refused tag kind status which room)
      · exact .inl ⟨_, rfl⟩
    · exact .inr (.repeated i (by simp [done, RequestSlot.isDone]))
    · refine .inr (.taken i ⟨tag, bodyCheck kind body, kind⟩ _ tagged ?_ (validate_served kind))
      rcases place with free | ⟨holding, q, r, done, -⟩
      · exact .inl free
      · exact .inr ⟨holding, by simp [done, RequestSlot.isDone]⟩

/-! ## Moves -/

/-- What happens on the wires of a lane, or at one of its deadlines. -/
inductive LaneHappening (s : State) (l : LaneId) : State → Prop where
  | frameStart : LaneHappening s l (frameStarts s l)
  | goodFrame (b : Byte) : LaneHappening s l (settleLamps s (goodFrameEnds s l b))
  | badFrame : LaneHappening s l (settleLamps s (badFrameEnds s l))
  | breach : LaneHappening s l (settleLamps s (frameBreached s l))
  | exchangeStart : LaneHappening s l (exchangeStarts s l)
  | noClock : LaneHappening s l (settleLamps s (clockExpires s l))
  | byteComplete : LaneHappening s l (byteCompletes s l)
  | txTimeout : LaneHappening s l (settleLamps s (byteExpires s l))
  | noReply : LaneHappening s l (settleLamps s (replyExpires s l))
  | probeDue : LaneHappening s l (probeFallsDue s l)
  | helloDeadline : LaneHappening s l (helloExpires s l)
  | firstClock : LaneHappening s l (firstClock s l)

theorem LaneHappening.work {s t : State} {l : LaneId} (h : LaneHappening s l t) : LaneWork s t := by
  cases h
  case frameStart => exact .frameStarts s l
  case goodFrame b => exact (LaneWork.goodFrameEnds s l b).settleLamps s
  case badFrame => exact (LaneWork.badFrameEnds s l).settleLamps s
  case breach => exact (LaneWork.frameBreached s l).settleLamps s
  case exchangeStart => exact .exchangeStarts s l
  case noClock => exact (LaneWork.clockExpires s l).settleLamps s
  case byteComplete => exact .byteCompletes s l
  case txTimeout => exact (LaneWork.byteExpires s l).settleLamps s
  case noReply => exact (LaneWork.replyExpires s l).settleLamps s
  case probeDue => exact .probeFallsDue s l
  case helloDeadline => exact .helloExpires s l
  case firstClock => exact .firstClock s l

/-- What a step's command does to what the laws read. -/
inductive Move (s : State) : State → Prop where
  | same : Move s s
  | resetEnds (ending : ResetEnding) (straps : BitVec 2) : Move s (hardResetEnds s ending straps)
  | resetBegins (cause : ResetBeginning) : Move s (hardResetStarts s cause)
  | restarts (straps : BitVec 2) : Move s (restartPart s straps)
  | received (t : State) : s.line = .running → Received s t → Move s t
  | replyStarts : s.line = .running → Move s (replyStarts s)
  | replyEnds : s.line = .running → s.restartOnLine = false → Move s { s with link := { s.link with tx := .idle } }
  | reportStarts : s.line = .running → Move s (reportStarts s)
  | reportEnds : s.line = .running → Move s (reportEnds s)
  | timer : s.line = .running → Move s (timerExpires s)
  | turn : s.line = .running → Move s (settleLamps s (takeTurn s))
  | learnTimeout : s.line = .running → Move s (learnExpires s)
  | lane (l : LaneId) (t : State) : s.line = .running → LaneHappening s l t → Move s t
  | bankRead : s.line = .running → Move s (bankReadEnds s)
  | bankWrite (r : ReadBack) : s.line = .running → (∀ b, r = .other b → b.wf) → Move s (writeAttemptEnds s r)

section
variable {s t : State} (safe : SafeState s)
include safe

/-- A move of a state that differs only in what no law reads. -/
theorem seen_moves (time : TimeBase) (rx : Option Assembly) (discarded : Half) (pending : List Instr) :
    ∃ u, SafeState u ∧ Move u (s.seenFrom time rx discarded pending) :=
  ⟨_, safe.seenFrom time rx discarded pending, .same⟩

theorem receiveFrame_moves (running : s.line = .running) (tag kind : Byte) (body : List Byte) :
    ∃ u, SafeState u ∧ Move u (receiveFrame tag kind body s) := by
  rcases receiveFrame_cases s tag kind body with ⟨discarded, e⟩ | received
  · rw [e]
    exact seen_moves safe _ _ _ _
  · exact ⟨s, safe, .received _ running received⟩

theorem byteReceived_moves (running : s.line = .running) (b : Byte) (stop : Bool) :
    ∃ u, SafeState u ∧ Move u (byteReceived s b stop) := by
  have taken (rx : Option Assembly) : ∃ u, SafeState u ∧ Move u (setRx s rx) := seen_moves safe s.time rx s.link.discarded s.pending
  have discarded : ∃ u, SafeState u ∧ Move u (discardFrame s) := seen_moves safe s.time none _ s.pending
  unfold byteReceived
  split
  · split
    · exact taken _
    · exact ⟨s, safe, .same⟩
  · exact ⟨s, safe, .same⟩
  · unfold assembleByte
    dsimp only
    split
    · split
      · exact taken _
      · exact discarded
    · exact taken _
    · exact taken _
    · exact taken _
    · exact taken _
    · unfold frameEnds
      split
      · exact receiveFrame_moves (safe.seenFrom s.time none s.link.discarded s.pending) running _ _ _
      · exact discarded
  · exact discarded

theorem replyEnds_moves (running : s.line = .running) (straps : BitVec 2) :
    ∃ u, SafeState u ∧ Move u (replyEnds s straps) := by
  unfold replyEnds
  split
  · next f tx =>
    split
    · exact ⟨s, safe, .restarts straps⟩
    · next other => exact ⟨s, safe, .replyEnds running (by simp [State.restartOnLine, tx, other])⟩
  · exact ⟨s, safe, .same⟩

/-- Every command's happening is a move of a state that keeps the laws. -/
theorem Happening.moves {c : Instr} (wf : c.wf = true) (h : Happening s c t) : ∃ u, SafeState u ∧ Move u t := by
  cases h
  case held => exact ⟨s, safe, .same⟩
  case resetEnds ending straps => exact ⟨s, safe, .resetEnds ending straps⟩
  case resetBegins cause => exact ⟨s, safe, .resetBegins cause⟩
  case tick => exact seen_moves safe _ s.link.rx s.link.discarded s.pending
  case hostByte b stop running => exact byteReceived_moves safe running b stop
  case gap startBit running =>
    unfold gapExpires
    split
    · split
      · exact seen_moves safe s.time none _ s.pending
      · exact ⟨s, safe, .same⟩
    · exact ⟨s, safe, .same⟩
  case request tag kind body running _ => exact receiveFrame_moves safe running tag kind body
  case replyStarts running => exact ⟨s, safe, .replyStarts running⟩
  case reportStarts running => exact ⟨s, safe, .reportStarts running⟩
  case replyEnds straps running => exact replyEnds_moves safe running straps
  case reportEnds running => exact ⟨s, safe, .reportEnds running⟩
  case timer running => exact ⟨s, safe, .timer running⟩
  case turn running => exact ⟨s, safe, .turn running⟩
  case learnTimeout running => exact ⟨s, safe, .learnTimeout running⟩
  case frameStart l running => exact ⟨s, safe, .lane l _ running .frameStart⟩
  case goodFrame l b running => exact ⟨s, safe, .lane l _ running (.goodFrame b)⟩
  case badFrame l running => exact ⟨s, safe, .lane l _ running .badFrame⟩
  case breach l running => exact ⟨s, safe, .lane l _ running .breach⟩
  case exchangeStart l running => exact ⟨s, safe, .lane l _ running .exchangeStart⟩
  case noClock l running => exact ⟨s, safe, .lane l _ running .noClock⟩
  case byteComplete l running => exact ⟨s, safe, .lane l _ running .byteComplete⟩
  case txTimeout l running => exact ⟨s, safe, .lane l _ running .txTimeout⟩
  case noReply l running => exact ⟨s, safe, .lane l _ running .noReply⟩
  case probeDue l running => exact ⟨s, safe, .lane l _ running .probeDue⟩
  case helloDeadline l running => exact ⟨s, safe, .lane l _ running .helloDeadline⟩
  case bankRead running => exact ⟨s, safe, .bankRead running⟩
  case bankWrite r running =>
    refine ⟨s, safe, .bankWrite r running fun b back => ?_⟩
    subst back
    exact of_decide_eq_true wf
  case firstClock l running => exact ⟨s, safe, .lane l _ running .firstClock⟩

/-- Every step is a move of a state that keeps the laws. -/
theorem step_moves (wf : pendingWf s) (stepped : step s = .next t) : ∃ u, SafeState u ∧ Move u t := by
  unfold step at stepped
  split at stepped
  · cases stepped
    exact ⟨s, safe, .same⟩
  · next c rest front =>
    refine (Happening.of_exec stepped).moves (safe.seenFrom s.time s.link.rx s.link.discarded rest) ?_
    exact wf c (by rw [front]; exact List.mem_cons_self)

end

end Sys2Proof.Machine
end

section
/-! Every step keeps the laws of the Event Queue, the Delivery Unit and the Translator's wait (R25, R30, R31, R33, R39 to R41);
the forms a turn of the Translator can take (R63 to R72). -/

namespace Sys2Proof.Machine

set_option Elab.async false

/-! ## The forms of a turn -/

/-- What a byte's completed code can do (R71, R72). -/
inductive Routed (s : State) (l : LaneId) (b : Byte) : State → Prop where
  | nothing : Routed s l b s
  | learned (w : LearnWaiter) (r : Reply) : s.config.mode = .config → s.translator.learn = some w →
      Routed s l b (complete (clearLearn s) w.slot r)
  | acted (c : ControlId) (d : ControlDef) (ext release : Bool) : s.config.mode = .run →
      s.boundControl l ext b = some (c, d) → Routed s l b (takeAction s c d release)

theorem routeCode_routed (s : State) (l : LaneId) (ext release : Bool) (b : Byte) :
    Routed s l b (routeCode s l ext release b) := by
  unfold routeCode
  split
  · next run =>
    split
    · next c d bound => exact .acted c d ext release run bound
    · exact .nothing
  · next config =>
    unfold learnCode
    split
    · next w waiting =>
      split
      · exact .learned w _ config waiting
      · exact .nothing
    · exact .nothing
  · exact .nothing

/-- What a turn can do: nothing, begin to wait, or serve a lane's LANE_STATUS item or its byte (R63 to R67). -/
inductive Turned (s : State) : State → Prop where
  | idle : Turned s s
  | waits (l : LaneId) : turnHeld s l = true →
      Turned s { s with translator := { s.translator with waiting := some l } }
  | status (l : LaneId) : s.translator.waiting = none → turnHeld s l = false → (s.lane l).statusWanted = true →
      Turned s (advanceStart (statusTurn s l) l)
  | byte (l : LaneId) (b : Byte) (p : PrefixState) (u : State) : s.translator.waiting = none → turnHeld s l = false →
      (s.lane l).statusWanted = false → (s.lane l).slot = some b → Routed s l b u →
      Turned s (advanceStart ((placeRecord (u.setPrefix l p) (turnEvent s l)).modLane l Lane.slotTaken) l)

theorem takeByte_routed (s : State) (l : LaneId) (b : Byte) : ∃ p u, Routed s l b u ∧
    takeByte s l b = (placeRecord (u.setPrefix l p) (byteEvent s l b)).modLane l Lane.slotTaken := by
  unfold takeByte
  dsimp only
  split
  · exact ⟨_, _, routeCode_routed s l _ _ b, rfl⟩
  · exact ⟨_, _, .nothing, rfl⟩

theorem takeTurn_turned (s : State) : Turned s (takeTurn s) := by
  unfold takeTurn
  split
  · exact .idle
  · next l free next _ =>
    split
    · next held => exact .waits l held
    · next served =>
      have served : turnHeld s l = false := by simpa using served
      unfold serveLane
      dsimp only
      split
      · next wanted => exact .status l free served wanted
      · next unwanted =>
        have unwanted : (s.lane l).statusWanted = false := by simpa using unwanted
        split
        · next b slot =>
          obtain ⟨p, u, routed, e⟩ := takeByte_routed s l b
          rw [e, ← turnEvent_byte unwanted slot]
          exact .byte l b p u free served unwanted slot routed
        · next empty =>
          have eligible := eligible_iff.1 (eligible_of_nextLane next)
          simp [unwanted, empty] at eligible
  · exact .idle

/-! ## Queue, delivery and wait alone -/

/-- Queue and delivery are the same, and a turn that waits is the same one or one considered anew. -/
structure SameDelivery (s t : State) : Prop where
  queue : t.queue = s.queue
  delivery : t.delivery = s.delivery
  waiting : t.translator.waiting = s.translator.waiting ∨ t.waitsForSpace

theorem LaneWork.sameDelivery {s t : State} (h : LaneWork s t) : SameDelivery s t := ⟨h.queue, h.delivery, h.waiting⟩

namespace SameDelivery

/-- The operation before this one left queue, delivery and wait as they were. -/
theorem after {s t u : State} (h : SameDelivery t u) (queue : t.queue = s.queue) (delivery : t.delivery = s.delivery)
    (waiting : t.translator.waiting = s.translator.waiting) : SameDelivery s u :=
  ⟨h.queue.trans queue, h.delivery.trans delivery, h.waiting.imp_left fun same => same.trans waiting⟩

theorem of_eq {s t : State} (queue : t.queue = s.queue) (delivery : t.delivery = s.delivery)
    (waiting : t.translator.waiting = s.translator.waiting) : SameDelivery s t := ⟨queue, delivery, .inl waiting⟩

theorem complete {s t : State} (h : SameDelivery s t) (i : SlotId) (r : Reply) : SameDelivery s (complete t i r) := by
  obtain ⟨_, _, e⟩ := complete_frame t i r
  rw [e]
  exact ⟨h.queue, h.delivery, h.waiting⟩

end SameDelivery

section
variable {s t : State} (laws : DeliveryLaws s)
include laws

/-- The laws read queue, delivery, wait, mode and retransmit limit, the limit only while delivery is not OFF. -/
theorem DeliveryLaws.of_same (same : SameDelivery s t) (mode : t.config.mode ≠ .run → s.delivery.state = .off)
    (limit : s.delivery.state ≠ .off → t.config.working.retransmitLimit = s.config.working.retransmitLimit) :
    DeliveryLaws t := by
  obtain ⟨queue, delivery, waiting⟩ := same
  refine ⟨?_, ?_, ?_, ?_, ?_, ?_, fun on => ?_, fun stalled => ?_, fun other => ?_, fun waits => ?_⟩
  · rw [queue]; exact laws.capacity
  · rw [queue, delivery]; exact laws.inFlightHeld
  · rw [delivery]; exact laws.inFlightWindow
  · rw [delivery]; exact laws.windowRange
  · rw [queue]; exact laws.consecutive
  · rw [queue, delivery]; exact laws.whileOff
  · rw [delivery] at on ⊢
    rw [limit (by simp [on])]
    exact laws.whileOn on
  · rw [delivery] at stalled ⊢
    rw [limit (by simp [stalled])]
    exact laws.whileStalled stalled
  · rw [delivery]; exact mode other
  · rcases waiting with same | space
    · rw [delivery, queue]
      exact laws.waits (same ▸ waits)
    · obtain ⟨delivering, full⟩ := space waits
      refine ⟨delivering, Nat.le_antisymm ?_ full⟩
      rw [queue]
      exact laws.capacity

theorem DeliveryLaws.of_same_config (same : SameDelivery s t) (config : t.config = s.config) : DeliveryLaws t :=
  laws.of_same same (fun other => laws.onlyInRun (config ▸ other)) fun _ => by rw [config]

/-- While delivery is OFF the configuration does not matter. -/
theorem DeliveryLaws.of_same_off (same : SameDelivery s t) (off : s.delivery.state = .off) : DeliveryLaws t :=
  laws.of_same same (fun _ => off) fun delivering => absurd off delivering

theorem DeliveryLaws.of_work (work : LaneWork s t) : DeliveryLaws t := laws.of_same_config work.sameDelivery work.config

theorem DeliveryLaws.complete (i : SlotId) (r : Reply) : DeliveryLaws (complete s i r) := laws.of_work (.complete s i r)

/-! ## Records placed and taken away -/

omit laws in
theorem queueWith_congr (queue : t.queue = s.queue) (delivery : t.delivery = s.delivery) (time : t.time = s.time)
    (e : Option Event) : queueWith t e = queueWith s e := by
  cases e with
  | none => exact queue
  | some e => simp only [queueWith, queue, delivery, time]

/-- A record placed where there is room takes the next number (R30, R31). -/
theorem DeliveryLaws.recorded {e : Option Event} (room : turnHeld s l = false) (event : e = turnEvent s l)
    (free : s.translator.waiting = none) (queue : t.queue = queueWith s e) (delivery : t.delivery = s.delivery)
    (config : t.config = s.config) (waiting : t.translator.waiting = s.translator.waiting) : DeliveryLaws t := by
  by_cases placed : e = none ∨ s.delivery.state = .off
  · refine laws.of_same_config (.of_eq ?_ delivery waiting) config
    rw [queue]
    rcases placed with rfl | off
    · rfl
    · cases e with
      | none => rfl
      | some e => exact if_pos off
  · rw [not_or] at placed
    obtain ⟨present, delivering⟩ := placed
    obtain ⟨e, rfl⟩ := Option.ne_none_iff_exists'.1 present
    have space : s.queue.records.length < 128 := by
      by_contra full
      have held := turnHeld_iff.2 ⟨delivering, Nat.le_of_not_lt full, show (turnEvent s l).isSome = true by rw [← event]; rfl⟩
      exact absurd (held.symm.trans room) (by decide)
    have appended : t.queue = ⟨s.queue.records ++ [⟨s.queue.next, s.time.uptime, e⟩], s.queue.next + 1⟩ := by
      rw [queue]
      exact if_neg delivering
    have held := laws.inFlightHeld
    refine ⟨?_, ?_, ?_, ?_, ?_, fun off => ?_, ?_, ?_, ?_, fun waits => absurd (waiting.trans free) waits⟩
    · simp only [appended, List.length_append, List.length_singleton]
      omega
    · simp only [appended, delivery, List.length_append, List.length_singleton]
      omega
    · rw [delivery]; exact laws.inFlightWindow
    · rw [delivery]; exact laws.windowRange
    · rw [appended]
      intro k inside
      simp only [List.length_append, List.length_singleton] at inside ⊢
      by_cases old : k < s.queue.records.length
      · rw [List.getElem_append_left old, laws.consecutive k old]
        have later : s.queue.records.length + 1 - k = (s.queue.records.length - k) + 1 := by omega
        rw [later, BitVec.ofNat_add]
        bv_omega
      · have last : k = s.queue.records.length := by omega
        subst last
        simp
    · exact absurd (delivery ▸ off) delivering
    · rw [delivery, config]; exact laws.whileOn
    · rw [delivery, config]; exact laws.whileStalled
    · rw [delivery, config]; exact laws.onlyInRun

theorem DeliveryLaws.turned (turned : Turned s t) : DeliveryLaws t := by
  cases turned
  case idle => exact laws
  case waits l held =>
    obtain ⟨delivering, full, -⟩ := turnHeld_iff.1 held
    exact laws.of_same_config ⟨rfl, rfl, .inr fun _ => ⟨delivering, full⟩⟩ rfl
  case status l free served wanted =>
    have event : some (laneStatusEvent s l) = turnEvent s l := by simp [turnEvent, wanted]
    refine laws.recorded served event free ?_ ?_ ?_ ?_ <;> rw [statusTurn, placeRecord_eq] <;> rfl
  case byte l b p u free served unwanted slot routed =>
    have kept : u.queue = s.queue ∧ u.delivery = s.delivery ∧ u.config = s.config ∧ u.time = s.time ∧
        u.translator.waiting = s.translator.waiting := by
      cases routed
      case nothing => exact ⟨rfl, rfl, rfl, rfl, rfl⟩
      case learned w r _ _ =>
        obtain ⟨_, _, e⟩ := complete_frame (clearLearn s) w.slot r
        rw [e]
        exact ⟨rfl, rfl, rfl, rfl, rfl⟩
      case acted c d ext release _ _ =>
        unfold takeAction
        obtain ⟨_, e⟩ := actionState_frame s c d release
        rw [e]
        exact ⟨rfl, rfl, rfl, rfl, rfl⟩
    obtain ⟨queue, delivery, config, time, waiting⟩ := kept
    rw [placeRecord_eq]
    refine laws.recorded served rfl free ?_ delivery config waiting
    exact queueWith_congr queue delivery time (turnEvent s l)

/-! ## The session (R42 to R47) and its reports (R48 to R54) -/

theorem DeliveryLaws.openSession {w : Nat} (range : w ≤ 64) (off : s.delivery.state = .off) (run : s.config.mode = .run)
    (limit : 1 ≤ s.config.working.retransmitLimit) : DeliveryLaws (openSession s w) where
  capacity := laws.capacity
  inFlightHeld := Nat.zero_le _
  inFlightWindow := Nat.zero_le _
  windowRange := range
  consecutive := fun k inside => absurd inside (by
    show ¬k < s.queue.records.length
    simp [(laws.whileOff off).1])
  whileOff := nofun
  whileOn := fun _ => limit
  whileStalled := nofun
  onlyInRun := fun other => absurd run other
  waits := fun waits => absurd off (laws.waits waits).1

theorem DeliveryLaws.admitAck {n w : Nat} (range : w ≤ 64) (delivering : s.delivery.state ≠ .off)
    (near : n ≤ s.delivery.inFlight) (limit : 1 ≤ s.config.working.retransmitLimit) : DeliveryLaws (admitAck s n w) := by
  rw [admitAck_eq laws delivering]
  have held := laws.inFlightHeld
  have capacity := laws.capacity
  refine ⟨?_, ?_, Nat.min_le_right _ _, range, fun k inside => ?_, nofun, fun _ => ?_, nofun,
    fun other => absurd (laws.onlyInRun other) delivering, fun waits => ?_⟩
  · simp only [List.length_drop]
    omega
  · simp only [List.length_drop]
    omega
  · simp only [List.length_drop, List.getElem_drop] at inside ⊢
    rw [laws.consecutive (n + k) (by omega)]
    congr 2
    omega
  · dsimp only
    split
    · exact limit
    · next none =>
      rw [not_or] at none
      refine laws.whileOn ?_
      cases state : s.delivery.state <;> simp_all
  · dsimp only at waits ⊢
    split at waits
    · exact absurd rfl waits
    · next none =>
      have zero : n = 0 := by omega
      subst zero
      exact ⟨nofun, (laws.waits waits).2⟩

omit laws in
theorem DeliveryLaws.closeSession : DeliveryLaws (closeSession s) := by
  have closed : DeliveryLaws { s with
      queue := { s.queue with records := [] }
      delivery := ⟨.off, 0, 0, none, 0⟩
      translator := { s.translator with waiting := none } } :=
    ⟨Nat.zero_le _, Nat.le_refl _, Nat.le_refl _, Nat.zero_le _, fun _ inside => absurd inside (Nat.not_lt_zero _),
      fun _ => ⟨rfl, rfl, rfl, rfl⟩, nofun, nofun, fun _ => rfl, fun waits => absurd rfl waits⟩
  unfold Machine.closeSession
  rw [reconsider_of_room (by exact Nat.zero_lt_succ 127)]
  exact closed.of_same_config (.of_eq rfl rfl rfl) rfl

theorem DeliveryLaws.reportStarts : DeliveryLaws (reportStarts s) := by
  by_cases sends : s.link.tx = .idle ∧ s.link.replies = [] ∧ s.offersReport = true
  · obtain ⟨idle, empty, offers⟩ := sends
    obtain ⟨on, room, inWindow⟩ := State.offersReport_iff.1 offers
    have size : s.delivery.inFlight + s.reportSize ≤ s.queue.records.length ∧
        s.delivery.inFlight + s.reportSize ≤ s.delivery.window := by
      simp only [State.reportSize, State.unsentCount]
      omega
    rw [reportStarts_sends idle empty offers]
    exact ⟨laws.capacity, size.1, size.2, laws.windowRange, laws.consecutive, laws.whileOff, laws.whileOn,
      fun stalled => absurd (on.symm.trans stalled) (by decide), laws.onlyInRun, laws.waits⟩
  · rw [reportStarts_waits (by
      simp only [not_and_or, Bool.not_eq_true] at sends
      exact sends)]
    exact laws

theorem DeliveryLaws.reportEnds : DeliveryLaws (reportEnds s) := by
  unfold Machine.reportEnds
  split
  · refine ⟨laws.capacity, laws.inFlightHeld, laws.inFlightWindow, laws.windowRange, laws.consecutive, fun off => ?_,
      laws.whileOn, fun stalled => ?_, laws.onlyInRun, laws.waits⟩
    · obtain ⟨records, window, timer, count⟩ := laws.whileOff off
      refine ⟨records, window, ?_, count⟩
      rw [if_neg fun starts => absurd (off.symm.trans starts.2.1) (by decide)]
      exact timer
    · obtain ⟨inFlight, timer, count⟩ := laws.whileStalled stalled
      refine ⟨inFlight, ?_, count⟩
      rw [if_neg fun starts => absurd (stalled.symm.trans starts.2.1) (by decide)]
      exact timer
  · exact laws

/-- An expiry with records in flight counts, and stalls the session at the limit (R53). -/
theorem DeliveryLaws.retransmit (timer : s.delivery.timer ≠ none) : DeliveryLaws (retransmit s) := by
  have on : s.delivery.state = .on := by
    cases state : s.delivery.state
    · exact absurd (laws.whileOff state).2.2.1 timer
    · rfl
    · exact absurd (laws.whileStalled state).2.1 timer
  have below := laws.whileOn on
  unfold Machine.retransmit
  dsimp only
  by_cases stalls : s.config.working.retransmitLimit ≤ s.delivery.retransmits + 1
  · simp only [stalls, decide_true, if_true]
    refine ⟨laws.capacity, Nat.zero_le _, Nat.zero_le _, laws.windowRange, laws.consecutive, nofun, nofun,
      fun _ => ⟨rfl, rfl, ?_⟩, fun other => ?_, fun waits => ⟨nofun, (laws.waits waits).2⟩⟩
    · show s.delivery.retransmits + 1 = s.config.working.retransmitLimit
      omega
    · exact absurd ((laws.onlyInRun other).symm.trans on) (by decide)
  · simp only [stalls, decide_false, Bool.false_eq_true, if_false]
    refine ⟨laws.capacity, Nat.zero_le _, Nat.zero_le _, laws.windowRange, laws.consecutive, fun off => ?_,
      fun _ => Nat.lt_of_not_le stalls, fun stalled => ?_, laws.onlyInRun, laws.waits⟩
    · exact absurd (on.symm.trans off) (by decide)
    · exact absurd (on.symm.trans stalled) (by decide)

theorem DeliveryLaws.timerExpires : DeliveryLaws (timerExpires s) := by
  unfold Machine.timerExpires
  split
  · next w timer =>
    split
    · split
      · refine ⟨laws.capacity, laws.inFlightHeld, laws.inFlightWindow, laws.windowRange, laws.consecutive, fun off => ?_,
          laws.whileOn, fun stalled => ?_, laws.onlyInRun, laws.waits⟩
        · obtain ⟨records, window, -, count⟩ := laws.whileOff off
          exact ⟨records, window, rfl, count⟩
        · obtain ⟨inFlight, -, count⟩ := laws.whileStalled stalled
          exact ⟨inFlight, rfl, count⟩
      · exact laws.retransmit (by simp [timer])
    · exact laws
  · exact laws

end

/-! ## Requests, resets and moves -/

namespace SameDelivery

theorem abortLearn (s : State) : SameDelivery s (abortLearn s) := by
  unfold Machine.abortLearn
  split
  · exact (of_eq rfl rfl rfl : SameDelivery s (clearLearn s)).complete _ _
  · exact .of_eq rfl rfl rfl

theorem changeSetting (s : State) (l : LaneId) (new : LaneSetting) : SameDelivery s (changeSetting s l new) :=
  ((LaneWork.applySetting _ l _).settleLamps _).sameDelivery.after rfl rfl rfl

theorem replaceWorking (s : State) (image : ConfigImage) : SameDelivery s (replaceWorking s image) := by
  have applied := ((LaneWork.applyAllSettings (replaceDefinitions s image) s.config.working.lanes).settleLamps s).sameDelivery
  have queued : (replaceDefinitions s image).queue = s.queue := rfl
  have delivers : (replaceDefinitions s image).delivery = s.delivery := rfl
  have waits : (replaceDefinitions s image).translator.waiting = s.translator.waiting := rfl
  unfold Machine.replaceWorking
  generalize Machine.settleLamps s _ = u at applied ⊢
  generalize replaceDefinitions s image = t at applied queued delivers waits
  obtain ⟨queue, delivery, waiting⟩ := applied.after queued delivers waits
  exact ⟨queue, delivery, waiting⟩

theorem loadImage (s : State) (image : ConfigImage) : SameDelivery s (loadImage s image) :=
  (LaneWork.applyAllSettings _ _).sameDelivery.after rfl rfl rfl

end SameDelivery

/-- A request that is answered at once keeps the laws; the working configuration changes only in CONFIG mode, where delivery
is OFF (R41). -/
theorem DeliveryLaws.worked {s u : State} (laws : DeliveryLaws s) (wf : s.config.working.wf) (work : Worked s u) :
    DeliveryLaws u := by
  obtain ⟨-, -, -, -, -, -, -, -, limit, -⟩ := wf
  have off (config : s.config.mode = .config) : s.delivery.state = .off := laws.onlyInRun (by rw [config]; nofun)
  cases work
  case nothing => exact laws
  case opened w range off run => exact laws.openSession range off run limit
  case acked n w range delivering near => exact laws.admitAck range delivering near limit
  case closed => exact .closeSession
  case lampsWritten l mask values _ => exact laws.of_work (.modLane s l _)
  case lampsReleased l mask => exact laws.of_work (.modLane s l _)
  case faultCleared l => exact laws.of_work (.modLane s l _)
  case configEntered off => exact laws.of_same_off (.of_eq rfl rfl rfl) off
  case configLeft config =>
    obtain ⟨queue, delivery, waiting⟩ := SameDelivery.abortLearn s
    exact laws.of_same_off ⟨queue, delivery, waiting⟩ (off config)
  case edited image config _ _ => exact laws.of_same_off (.of_eq rfl rfl rfl) (off config)
  case worked image config _ _ _ => exact laws.of_same_off (.of_eq rfl rfl rfl) (off config)
  case laneSet l new config _ => exact laws.of_same_off (.changeSetting s l new) (off config)
  case replaced image config _ => exact laws.of_same_off (.replaceWorking s image) (off config)

theorem DeliveryLaws.served {s t : State} {kind : Byte} {i : SlotId} (laws : DeliveryLaws s) (wf : s.config.working.wf)
    (served : Served kind i s t) : DeliveryLaws t := by
  cases served
  case answered u r work _ => exact (laws.worked wf work).complete i r
  case restarts => exact (laws.of_same_config (.of_eq rfl rfl rfl) rfl : DeliveryLaws { s with
      store := { s.store with restartPending := true } }).complete i _
  case laneEntry l k _ _ _ _ => exact laws.of_work (.modLane s l _)
  case lampsWait l y _ _ _ _ _ _ => exact laws.of_work (.setLane s l _)
  case learning w _ _ _ _ => exact laws.of_same_config (.of_eq rfl rfl rfl) rfl
  case committed => exact laws.of_same_config (.of_eq rfl rfl rfl) rfl

theorem DeliveryLaws.received {s t : State} (laws : DeliveryLaws s) (wf : s.config.working.wf) (received : Received s t) :
    DeliveryLaws t := by
  cases received
  case refused => exact laws.of_same_config (.of_eq rfl rfl rfl) rfl
  case repeated i _ => exact laws.of_same_config (.of_eq rfl rfl rfl) rfl
  case taken i q _ _ served => 
    have placed : DeliveryLaws (placeRequest s i q) := laws.of_same_config (.of_eq rfl rfl rfl) rfl
    exact placed.served wf served

/-- After a reset delivery is OFF and the queue is empty (R37, R61). -/
theorem DeliveryLaws.resetBlocks (s : State) (cause : ResetCause) (straps : BitVec 2) :
    DeliveryLaws (resetBlocks s cause straps) :=
  resetStateKeepsTheLaws.1.delivery.of_same_config (.of_eq rfl rfl rfl) rfl

theorem DeliveryLaws.nextBank {s : State} (laws : DeliveryLaws s) (n : BankName) (c : CommitContext) :
    DeliveryLaws (nextBank s n c) := by
  unfold Machine.nextBank
  dsimp only
  split
  · exact laws.of_same_config (.of_eq rfl rfl rfl) rfl
  · exact laws.of_same_config (.of_eq rfl rfl rfl) rfl
  · dsimp only [commitEnds]
    refine DeliveryLaws.complete ?_ _ _
    exact laws.of_same (.of_eq rfl rfl rfl) laws.onlyInRun fun _ => rfl

theorem DeliveryLaws.writeAttemptEnds {s : State} (laws : DeliveryLaws s) (r : ReadBack) :
    DeliveryLaws (writeAttemptEnds s r) := by
  have stored (st : Store) : DeliveryLaws { s with store := st } := laws.of_same_config (.of_eq rfl rfl rfl) rfl
  unfold Machine.writeAttemptEnds
  dsimp only
  split
  · exact laws
  · split
    · exact stored _
    · exact stored _
    · unfold commitAttemptEnds
      split
      · exact (stored _).nextBank _ _
      · exact stored _
      · exact (stored _).nextBank _ _
    · exact stored _

theorem DeliveryLaws.bankReadEnds {s : State} (safe : SafeState s) : DeliveryLaws (bankReadEnds s) := by
  have laws := safe.delivery
  unfold Machine.bankReadEnds
  split
  · next n voting _ =>
    dsimp only
    split
    · have off : s.delivery.state = .off := laws.onlyInRun (by rw [safe.store.voting.1 voting]; nofun)
      exact laws.of_same_off ((SameDelivery.loadImage _ _).after rfl rfl rfl) off
    · exact laws.of_same_config (.of_eq rfl rfl rfl) rfl
  · exact laws

theorem DeliveryLaws.moved {s t : State} (safe : SafeState s) (move : Move s t) : DeliveryLaws t := by
  have laws := safe.delivery
  cases move
  case same => exact laws
  case resetEnds ending straps => exact .resetBlocks _ _ straps
  case resetBegins cause => exact laws.of_same_config (.of_eq rfl rfl rfl) rfl
  case restarts straps => exact .resetBlocks _ _ straps
  case received _ received => exact laws.received safe.images.working received
  case replyStarts =>
    unfold Machine.replyStarts
    repeat' split
    · exact laws.of_same_config (.of_eq rfl rfl rfl) rfl
    · exact laws
    · exact laws
  case replyEnds => exact laws.of_same_config (.of_eq rfl rfl rfl) rfl
  case reportStarts => exact laws.reportStarts
  case reportEnds => exact laws.reportEnds
  case timer => exact laws.timerExpires
  case turn => exact (laws.turned (takeTurn_turned s)).of_same_config (.of_eq rfl rfl rfl) rfl
  case learnTimeout =>
    unfold learnExpires
    repeat' split
    · exact (laws.of_same_config (.of_eq rfl rfl rfl) rfl : DeliveryLaws (clearLearn s)).complete _ _
    · exact laws
    · exact laws
  case lane l _ happening => exact laws.of_work happening.work
  case bankRead => exact .bankReadEnds safe
  case bankWrite r _ _ => exact laws.writeAttemptEnds r

/-- Settles O56: each move keeps the laws. -/
theorem stepsKeepTheDeliveryLaws : Obligations.StepsKeepTheDeliveryLaws := by
  unfold Obligations.StepsKeepTheDeliveryLaws
  intro s t wf safe stepped
  obtain ⟨u, safe, move⟩ := step_moves safe wf stepped
  exact .moved safe move

end Sys2Proof.Machine
end

section
/-! The laws of one lane under what can be done to it: what its laws read, what a lane at rest has to keep, the lists, the
lamps and the exchange in progress (R86, R99 to R104, R122 to R126). -/

namespace Sys2Proof.Machine

set_option Elab.async false

/-! ## What the laws do not read -/

section
variable {x : Lane} (laws : LaneLaws x)
include laws

/-- No law reads the fault latch, the status-wanted flag or the owners. -/
theorem LaneLaws.withLatch (first last : Option LaneFault) (count since : Byte) (wanted : Bool) (owners : Half) :
    LaneLaws { x with
      firstFault := first, lastFault := last, faultCount := count, faultsSince := since, statusWanted := wanted
      owners := owners } where
  phase := { laws.phase with }
  list := { laws.list with }
  wire := { laws.wire with }
  inExchange ex is := { laws.inExchange ex is with }
  noExchange := laws.noExchange
  running := laws.running
  sent := laws.sent
  lamps := { laws.lamps with }

theorem LaneLaws.withFault (k : LaneFault) (delivering : Bool) : LaneLaws (x.withFault k delivering) :=
  laws.withLatch _ _ _ _ _ _

/-- Short of RUNNING no law reads the images and versions. -/
theorem LaneLaws.withLamps (short : x.phase ≠ .running) (desired acked : Half) (version confirmed : Word) :
    LaneLaws { x with
      desired := desired, acked := acked, desiredVersion := version, ackedVersion := confirmed } where
  phase := { laws.phase with }
  list := { laws.list with }
  wire := { laws.wire with }
  inExchange ex is := { laws.inExchange ex is with }
  noExchange := laws.noExchange
  running := laws.running
  sent := laws.sent
  lamps := ⟨fun run => absurd run short, fun run => absurd run short⟩

/-- A lane in an exchange is enabled. -/
theorem LaneLaws.enabled_of_exchange {ex : Exchange} (exchange : x.exchange = some ex) : x.phase ≠ .disabled := by
  intro disabled
  have busy := laws.wire.exchange.1 (by rw [exchange]; rfl)
  rcases laws.wire.disabled disabled with off | receiving
  · rw [off] at busy
    exact absurd busy (by decide)
  · rw [receiving] at busy
    exact absurd busy (by decide)

theorem LaneLaws.exchange_none (idle : x.activity ≠ .sending) (silent : x.activity ≠ .awaiting) : x.exchange = none := by
  rw [← Option.not_isSome_iff_eq_none, laws.wire.exchange]
  rintro (is | is)
  · exact idle is
  · exact silent is

/-- No image is sent where no entry is in progress. -/
theorem LaneLaws.unsent (idle : x.inProgress = none) : x.sent = none := by
  rw [← Option.not_isSome_iff_eq_none, laws.sent, idle]
  rintro ⟨e, is, -⟩
  cases is

theorem LaneLaws.sent_none {e : Entry} (entry : x.inProgress = some e) (other : e.kind ≠ .lamp) : x.sent = none := by
  rw [← Option.not_isSome_iff_eq_none, laws.sent]
  rintro ⟨o, is, lamp⟩
  cases entry.symm.trans is
  exact other lamp

end

/-! ## Lanes at rest -/

/-- A lane with no exchange, no entry in progress and no image sent, in the activity that its frame and slot call for
(R94, R101). -/
structure Lane.AtRest (x : Lane) : Prop where
  exchange : x.exchange = none
  inProgress : x.inProgress = none
  parity : x.parityCount = none
  sent : x.sent = none
  activity : x.activity = restActivity x

theorem wireLaws_of_rest {x : Lane} (rest : x.AtRest) (enabled : x.phase ≠ .disabled) : WireLaws x := by
  obtain ⟨exchange, -, -, -, activity⟩ := rest
  rw [restActivity_eq] at activity
  refine ⟨?_, fun frame => ?_, fun receiving => ?_, fun idle => ?_, fun held => ?_, fun off => ?_,
    fun disabled => absurd disabled enabled⟩ <;>
    rcases is_frame : x.frame with _ | f <;> rcases is_slot : x.slot with _ | b <;> simp_all

/-- A lane at rest keeps the laws if it keeps those of phase, list and lamps. -/
theorem LaneLaws.of_rest {x : Lane} (rest : x.AtRest) (enabled : x.phase ≠ .disabled) (phase : PhaseLaws x)
    (list : ListLaws x) (lamps : LampLaws x) : LaneLaws x where
  phase := phase
  list := list
  wire := wireLaws_of_rest rest enabled
  inExchange ex is := by rw [rest.exchange] at is; cases is
  noExchange _ := ⟨rest.inProgress, rest.parity⟩
  running e is := by rw [rest.inProgress] at is; cases is
  sent := by rw [rest.sent, rest.inProgress]; simp
  lamps := lamps

theorem LaneLaws.atRest {x : Lane} (laws : LaneLaws x) (none : x.exchange = .none) (enabled : x.phase ≠ .disabled) :
    x.AtRest :=
  ⟨none, (laws.noExchange none).1, (laws.noExchange none).2, laws.unsent (laws.noExchange none).1,
    laws.restActivity none enabled⟩

theorem lampLaws_short {x : Lane} (short : x.phase ≠ .running) : LampLaws x :=
  ⟨fun run => absurd run short, fun run => absurd run short⟩

theorem lampLaws_queued {x : Lane} (queued : x.hasLampEntry = true) : LampLaws x := by
  refine ⟨fun _ none => ?_, fun _ none => ?_⟩ <;> exact absurd (queued.symm.trans none) (by decide)

/-! ## Command lists (R103) -/

theorem countP_le_add {α : Type} {p a b : α → Bool} {l : List α} (covers : ∀ e ∈ l, p e = true → a e = true ∨ b e = true) :
    l.countP p ≤ l.countP a + l.countP b := by
  induction l with
  | nil => simp
  | cons e l ih =>
    have rest := ih fun o mem => covers o (List.mem_cons_of_mem e mem)
    have here := covers e List.mem_cons_self
    simp only [List.countP_cons]
    cases is_p : p e <;> cases is_a : a e <;> cases is_b : b e <;> simp_all <;> omega

theorem Entry.startUp_of_mayWait {e : Entry} {p : Phase} {step : Option StartStep} (waits : e.mayWait p step = true)
    (short : p ≠ .running) : e.isStartUp = true := by
  obtain ⟨kind, request⟩ := e
  revert waits short
  cases p <;> cases step with
    | none => cases kind <;> simp [Entry.mayWait, Entry.isStartUp]
    | some step => cases step <;> cases kind <;> simp [Entry.mayWait, Entry.isStartUp]

/-- The bounds on the kinds bound the list (R103). -/
theorem ListLaws.of_counts {x : Lane} (fits : ∀ e ∈ x.list, e.originOk = true ∧ e.mayWait x.phase x.startStep = true)
    (host : x.list.countP (fun e => e.request.isSome) ≤ 2)
    (lamp : x.list.countP (fun e => decide (e.kind = .lamp)) ≤ 1)
    (rescan : x.list.countP (fun e => decide (e = ⟨.rescan, none⟩)) ≤ 1)
    (startUp : x.list.countP (·.isStartUp) ≤ 1) : ListLaws x where
  fits := fits
  host := host
  lamp := lamp
  rescan := rescan
  startUp := startUp
  short := by
    by_cases run : x.phase = .running
    · have others : x.list.countP (fun _ => true) ≤ x.list.countP (fun e => e.request.isSome) +
          x.list.countP (fun e => decide (e.kind = .lamp) || decide (e = ⟨.rescan, none⟩)) := by
        refine countP_le_add fun e mem _ => ?_
        obtain ⟨origin, waits⟩ := fits e mem
        obtain ⟨kind, request⟩ := e
        rw [run] at waits
        revert origin waits
        cases kind <;> cases request <;> simp [Entry.originOk, Entry.mayWait, Entry.isStartUp]
      have internal : x.list.countP (fun e => decide (e.kind = .lamp) || decide (e = ⟨.rescan, none⟩)) ≤
          x.list.countP (fun e => decide (e.kind = .lamp)) + x.list.countP (fun e => decide (e = ⟨.rescan, none⟩)) :=
        countP_le_add fun e _ either => by simpa using either
      rw [List.countP_true] at others
      omega
    · have all : x.list.countP (·.isStartUp) = x.list.length :=
        List.countP_eq_length.2 fun e mem => Entry.startUp_of_mayWait (fits e mem).2 run
      omega

theorem ListLaws.nil {x : Lane} (list : x.list = []) : ListLaws x :=
  .of_counts (by simp [list]) (by simp [list]) (by simp [list]) (by simp [list]) (by simp [list])

/-- A list of one start-up entry or LAMP. -/
theorem ListLaws.single {x : Lane} {k : EntryKind} (list : x.list = [⟨k, none⟩])
    (waits : (⟨k, none⟩ : Entry).mayWait x.phase x.startStep = true) (internal : (⟨k, none⟩ : Entry).originOk = true) :
    ListLaws x := by
  refine .of_counts (fun e mem => ?_) ?_ ?_ ?_ ?_
  · rw [list, List.mem_singleton] at mem
    subst mem
    exact ⟨internal, waits⟩
  all_goals
    rw [list]
    exact List.countP_le_length.trans (by simp)

section
variable {x : Lane} (laws : ListLaws x)
include laws

/-- Entries that leave the list take nothing from its laws. -/
theorem ListLaws.sublist {y : Lane} (sub : y.list.Sublist x.list) (phase : y.phase = x.phase)
    (step : y.startStep = x.startStep) : ListLaws y :=
  .of_counts (fun e mem => by rw [phase, step]; exact laws.fits e (sub.subset mem)) (sub.countP_le.trans laws.host)
    (sub.countP_le.trans laws.lamp) (sub.countP_le.trans laws.rescan) (sub.countP_le.trans laws.startUp)

/-- An entry that RUNNING admits joins the list, where the bound on its kind leaves room. -/
theorem ListLaws.joined (run : x.phase = .running) {e : Entry} (origin : e.originOk = true) (later : e.isStartUp = false)
    (host : x.list.countP (fun e => e.request.isSome) + (if e.request.isSome then 1 else 0) ≤ 2)
    (lamp : x.list.countP (fun e => decide (e.kind = .lamp)) + (if e.kind = .lamp then 1 else 0) ≤ 1)
    (rescan : x.list.countP (fun e => decide (e = ⟨.rescan, none⟩)) + (if e = ⟨.rescan, none⟩ then 1 else 0) ≤ 1)
    {y : Lane} (list : y.list = x.list ++ [e]) (phase : y.phase = x.phase) (step : y.startStep = x.startStep) :
    ListLaws y := by
  refine .of_counts (fun o mem => ?_) ?_ ?_ ?_ ?_
  · rw [list, List.mem_append, List.mem_singleton] at mem
    rw [phase, step]
    rcases mem with mem | rfl
    · exact laws.fits o mem
    · refine ⟨origin, ?_⟩
      rw [run]
      simp [Entry.mayWait, later]
  · rw [list, List.countP_append, List.countP_singleton]
    exact host
  · rw [list, List.countP_append, List.countP_singleton]
    simpa using lamp
  · rw [list, List.countP_append, List.countP_singleton]
    simpa using rescan
  · rw [list, List.countP_append, List.countP_singleton, later]
    exact laws.startUp

theorem ListLaws.queueLamp : ListLaws x.queueLamp := by
  unfold Lane.queueLamp
  split
  · next joins =>
    obtain ⟨run, absent⟩ := joins
    have none : x.list.countP (fun e => decide (e.kind = .lamp)) = 0 := by
      rw [List.countP_eq_zero]
      simpa [Lane.hasLampEntry] using absent
    exact laws.joined run (e := ⟨.lamp, .none⟩) rfl rfl (by simpa using laws.host) (by simp [none])
      (by simpa using laws.rescan) rfl rfl rfl
  · exact laws

end

theorem queueLamp_list (x : Lane) : x.queueLamp = { x with list := x.queueLamp.list } := by
  unfold Lane.queueLamp
  split <;> rfl

theorem queueLamp_hasLampEntry {x : Lane} (run : x.phase = .running) : x.queueLamp.hasLampEntry = true := by
  unfold Lane.queueLamp
  split
  · simp [Lane.hasLampEntry]
  · next stays =>
    rw [not_and, Bool.not_eq_false] at stays
    exact stays run

/-! ## Lamps (R123, R130, R132) -/

section
variable {x : Lane} (laws : LaneLaws x)
include laws

/-- A lane whose desired image and command list change. -/
theorem LaneLaws.withWork {desired : Half} {version : Word} {list : List Entry}
    (lists : ListLaws { x with desired := desired, desiredVersion := version, list := list })
    (lamps : LampLaws { x with desired := desired, desiredVersion := version, list := list }) :
    LaneLaws { x with desired := desired, desiredVersion := version, list := list } where
  phase := { laws.phase with }
  list := lists
  wire := { laws.wire with }
  inExchange ex is := { laws.inExchange ex is with }
  noExchange := laws.noExchange
  running := laws.running
  sent := laws.sent
  lamps := lamps

/-- A RUNNING lane with a LAMP entry queued for its image. -/
theorem LaneLaws.withLampEntry (run : x.phase = .running) (desired : Half) (version : Word) :
    LaneLaws ({ x with desired := desired, desiredVersion := version } : Lane).queueLamp := by
  have list := ({ laws.list with } : ListLaws { x with desired := desired, desiredVersion := version }).queueLamp
  have queued := queueLamp_hasLampEntry (x := { x with desired := desired, desiredVersion := version }) run
  rw [queueLamp_list] at list queued ⊢
  exact laws.withWork list (lampLaws_queued queued)

theorem LaneLaws.withDesired (image : Half) : LaneLaws (x.withDesired image) := by
  unfold Lane.withDesired
  split
  · exact laws
  · by_cases run : x.phase = .running
    · exact laws.withLampEntry run image (x.desiredVersion + 1)
    · rw [Lane.queueLamp, if_neg fun queues => run queues.1]
      exact laws.withLamps run image x.acked (x.desiredVersion + 1) x.ackedVersion

/-- A SET-LAMPS that waits joins the waiters where the module has not confirmed the desired version (R130). -/
theorem LaneLaws.waited (run : x.phase = .running) (unconfirmed : x.ackedVersion ≠ x.desiredVersion) (w : LampWaiter) :
    LaneLaws { x with waiters := x.waiters ++ [w] } where
  phase := { laws.phase with waiting := fun _ => run }
  list := { laws.list with }
  wire := { laws.wire with }
  inExchange ex is := { laws.inExchange ex is with }
  noExchange := laws.noExchange
  running := laws.running
  sent := laws.sent
  lamps :=
    ⟨fun run none unsent => absurd (laws.lamps.confirmed run none unsent).2.1 unconfirmed, laws.lamps.carried⟩

/-- An entry that RUNNING admits, other than a LAMP, joins the list. -/
theorem LaneLaws.joined (run : x.phase = .running) {e : Entry} (origin : e.originOk = true) (later : e.isStartUp = false)
    (other : e.kind ≠ .lamp) (host : x.list.countP (fun e => e.request.isSome) + (if e.request.isSome then 1 else 0) ≤ 2)
    (rescan : x.list.countP (fun e => decide (e = ⟨.rescan, none⟩)) + (if e = ⟨.rescan, none⟩ then 1 else 0) ≤ 1) :
    LaneLaws { x with list := x.list ++ [e] } := by
  have entry : Lane.hasLampEntry { x with list := x.list ++ [e] } = x.hasLampEntry := by
    simp [Lane.hasLampEntry, other]
  have list : ListLaws { x with list := x.list ++ [e] } :=
    laws.list.joined run origin later host (by rw [if_neg other]; exact laws.list.lamp) rescan rfl rfl rfl
  exact laws.withWork (desired := x.desired) (version := x.desiredVersion) list
    ⟨fun run none => laws.lamps.confirmed run (entry ▸ none), fun run none => laws.lamps.carried run (entry ▸ none)⟩

theorem LaneLaws.queueRescan : LaneLaws x.queueRescan := by
  unfold Lane.queueRescan
  split
  · next joins =>
    obtain ⟨run, absent⟩ := joins
    have none : x.list.countP (fun e => decide (e = ⟨.rescan, none⟩)) = 0 := by
      rw [List.countP_eq_zero]
      simpa using absent
    exact laws.joined run (e := ⟨.rescan, .none⟩) rfl rfl (by decide) (by simpa using laws.list.host) (by simp [none])
  · exact laws

end

end Sys2Proof.Machine
end

section
/-! The laws of one lane at the start of its life-cycle, at the end of an exchange, and through an exchange (R82 to R97, R104 to
R118). -/

namespace Sys2Proof.Machine

set_option Elab.async false

/-! ## Lanes short of RUNNING -/

/-- A module that a probe can find (R90). -/
def ModuleId.proper (m : ModuleId) : Prop := 0x01#8 ≤ m.moduleType ∧ m.moduleType ≤ 0x7F#8 ∧ m.lampCount ≤ 0x10#8

/-- The life-cycle fields of a lane in ABSENT, in a step of STARTING, or in MISMATCH (R105 to R108, R118). -/
inductive Lane.StartsAt (x : Lane) : Prop where
  | absent : x.phase = .absent → x.startStep = none → x.helloDeadline = none → x.known = none →
      (x.list = [] ∨ x.list = [⟨.probeIdentify, none⟩]) → x.StartsAt
  | identify : x.phase = .starting → x.startStep = some .identify → x.probeDue = none → x.helloDeadline = none →
      x.known = none → x.list = [⟨.probeIdentify, none⟩] → x.StartsAt
  | enable (m : ModuleId) : x.phase = .starting → x.startStep = some .enable → x.probeDue = none →
      x.helloDeadline = none → x.known = some m → m.proper → x.list = [⟨.enable, none⟩] → x.StartsAt
  | waitHello (w : Wait) : x.phase = .starting → x.startStep = some .waitHello → x.probeDue = none →
      x.helloDeadline = some w → x.known = none → x.list = [] → x.StartsAt
  | mismatch (m : ModuleId) : x.phase = .mismatch → x.startStep = none → x.probeDue = none → x.helloDeadline = none →
      x.known = some m → m.proper → x.list = [⟨.disable, none⟩] → x.StartsAt

/-- What only RUNNING fills: the slot, the failure count and the waiters (R99, R109). -/
structure Lane.Calm (x : Lane) : Prop where
  slot : x.slot = none
  failures : x.failures = 0
  waiters : x.waiters = []

theorem LaneLaws.calm {x : Lane} (laws : LaneLaws x) (short : x.phase ≠ .running) : x.Calm :=
  ⟨(laws.unhurried short).slot, (laws.unhurried short).failures, not_not.1 (mt laws.phase.waiting short)⟩

section
variable {x : Lane} (start : x.StartsAt)
include start

theorem Lane.StartsAt.short : x.phase ≠ .running ∧ x.phase ≠ .disabled := by
  cases start with
  | absent phase | identify phase | enable _ phase | waitHello _ phase | mismatch _ phase => rw [phase]; decide

theorem Lane.StartsAt.phaseLaws (calm : x.Calm) : PhaseLaws x := by
  obtain ⟨slot, failures, waiters⟩ := calm
  cases start with
  | absent phase step hello known list =>
    exact ⟨by simp [phase, step], by simp [slot], by simp [slot], fun _ => phase, by simp [hello, step], by omega,
      by simp [failures], by simp [waiters], by simp [known, phase, step], by simp [known]⟩
  | identify phase step probe hello known list =>
    exact ⟨by simp [phase, step], by simp [slot], by simp [slot], by simp [probe], by simp [hello, step], by omega,
      by simp [failures], by simp [waiters], by simp [known, phase, step], by simp [known]⟩
  | enable m phase step probe hello known proper list =>
    refine ⟨by simp [phase, step], by simp [slot], by simp [slot], by simp [probe], by simp [hello, step], by omega,
      by simp [failures], by simp [waiters], by simp [known, phase, step], fun o is => ?_⟩
    cases known.symm.trans is
    exact proper
  | waitHello w phase step probe hello known list =>
    exact ⟨by simp [phase, step], by simp [slot], by simp [slot], by simp [probe], by simp [hello, step], by omega,
      by simp [failures], by simp [waiters], by simp [known, phase, step], by simp [known]⟩
  | mismatch m phase step probe hello known proper list =>
    refine ⟨by simp [phase, step], by simp [slot], by simp [slot], by simp [probe], by simp [hello, step], by omega,
      by simp [failures], by simp [waiters], by simp [known, phase, step], fun o is => ?_⟩
    cases known.symm.trans is
    exact proper

theorem Lane.StartsAt.listLaws : ListLaws x := by
  cases start with
  | absent phase step hello known list =>
    rcases list with list | list
    · exact .nil list
    · exact .single list (by rw [phase]; rfl) rfl
  | identify phase step probe hello known list => exact .single list (by rw [phase, step]; rfl) rfl
  | enable m phase step probe hello known proper list => exact .single list (by rw [phase, step]; rfl) rfl
  | waitHello w phase step probe hello known list => exact .nil list
  | mismatch m phase step probe hello known proper list => exact .single list (by rw [phase]; rfl) rfl

/-- A lane that a happening has brought to ABSENT, to a step of STARTING or to MISMATCH. -/
theorem LaneLaws.of_start (rest : x.AtRest) (calm : x.Calm) : LaneLaws x :=
  .of_rest rest start.short.2 (start.phaseLaws calm) start.listLaws (lampLaws_short start.short.1)

end

/-! ## Lanes that are disabled and enabled (R115) -/

theorem LaneLaws.disabled {x : Lane} (phase : x.phase = .disabled) (step : x.startStep = none) (list : x.list = [])
    (known : x.known = none) (probe : x.probeDue = none) (hello : x.helloDeadline = none) (exchange : x.exchange = none)
    (entry : x.inProgress = none) (parity : x.parityCount = none) (sent : x.sent = none) (calm : x.Calm)
    (activity : x.activity = if x.frame.isSome then .receiving else .off) : LaneLaws x := by
  obtain ⟨slot, failures, waiters⟩ := calm
  refine ⟨?_, .nil list, ?_, fun ex is => by simp [exchange] at is, fun _ => ⟨entry, parity⟩,
    fun e is => by simp [entry] at is, by simp [sent, entry], lampLaws_short (by rw [phase]; decide)⟩
  · exact ⟨by simp [phase, step], by simp [slot], by simp [slot], by simp [probe], by simp [hello, step], by omega,
      by simp [failures], by simp [waiters], by simp [known, phase, step], by simp [known]⟩
  · refine ⟨?_, fun frame => ?_, fun receiving => ?_, fun _ => slot, fun held => ?_, fun _ => phase, fun _ => ?_⟩ <;>
      cases frame : x.frame <;> simp_all

/-- A DISABLED lane whose last frame ends (R80, R101). -/
theorem LaneLaws.disabledFrame {x : Lane} (laws : LaneLaws x) (disabled : x.phase = .disabled) :
    LaneLaws { x with frame := none, activity := .off } := by
  have short : x.phase ≠ .running := by rw [disabled]; decide
  have quiet : x.exchange = none :=
    laws.exchange_none (by rcases laws.wire.disabled disabled with is | is <;> rw [is] <;> decide)
      (by rcases laws.wire.disabled disabled with is | is <;> rw [is] <;> decide)
  obtain ⟨entry, parity⟩ := laws.noExchange quiet
  have step : x.startStep = none := laws.orderly.noStep (by rw [disabled]; decide)
  have list : x.list = [] := by
    refine List.eq_nil_iff_forall_not_mem.2 fun e mem => ?_
    have waits := (laws.list.fits e mem).2
    rw [disabled] at waits
    exact absurd waits (by simp [Entry.mayWait])
  have known : x.known = none := by
    rw [← Option.not_isSome_iff_eq_none, laws.phase.known, step, disabled]
    decide
  have calm := laws.calm short
  exact .disabled disabled step list known ((laws.unhurried short).probe (by rw [disabled]; decide))
    (laws.orderly.noHello (by rw [disabled]; decide) short) quiet entry parity (laws.unsent entry)
    ⟨calm.slot, calm.failures, calm.waiters⟩ rfl

/-! ## The ends of frames and exchanges -/

section
variable {x : Lane} (laws : LaneLaws x)
include laws

/-- A frame outside an exchange ends (R83). -/
theorem LaneLaws.endFrame (quiet : x.exchange = none) (enabled : x.phase ≠ .disabled) : LaneLaws x.endFrame := by
  have rest := laws.atRest quiet enabled
  exact .of_rest ⟨rest.exchange, rest.inProgress, rest.parity, rest.sent, rfl⟩ enabled { laws.phase with }
    { laws.list with } { laws.lamps with }

/-- A byte enters the empty slot of a RUNNING lane with no frame in progress (R83). -/
theorem LaneLaws.slotFilled (quiet : x.exchange = none) (run : x.phase = .running) (unframed : x.frame = none) {b : Byte}
    (event : b ∉ [0xB4#8, 0xB5, 0xBE, 0xBF]) : LaneLaws { x with slot := some b, activity := .held } := by
  have enabled : x.phase ≠ .disabled := by rw [run]; decide
  have rest := laws.atRest quiet enabled
  refine .of_rest ⟨rest.exchange, rest.inProgress, rest.parity, rest.sent, ?_⟩ enabled
    { laws.phase with slot := fun _ => run, slotByte := fun c is => Option.some.inj is ▸ event } { laws.list with }
    { laws.lamps with }
  rw [restActivity_eq]
  simp [unframed]

/-- An exchange ends with no image sent; phase, list and waiters stay (R94, R109). -/
theorem LaneLaws.exchangeDropped (enabled : x.phase ≠ .disabled) (unsent : x.sent = none) {failures : Nat}
    (few : failures < 3) (counted : failures ≠ 0 → x.phase = .running) :
    LaneLaws { x.ended with failures := failures } :=
  .of_rest ⟨rfl, rfl, rfl, unsent, (restActivity_eq _).symm⟩ enabled
    { laws.phase with failures := few, failing := counted } { laws.list with } { laws.lamps with }

/-- An IDENTIFY ends with the module that it found, in RUNNING (R117). -/
theorem LaneLaws.identified (run : x.phase = .running) (unsent : x.sent = none) {m : ModuleId} (proper : m.proper) :
    LaneLaws { x.succeeded with known := some m } := by
  have enabled : x.phase ≠ .disabled := by rw [run]; decide
  refine .of_rest ⟨rfl, rfl, rfl, unsent, (restActivity_eq _).symm⟩ enabled
    { laws.phase with failures := Nat.zero_lt_succ 2, failing := fun counted => absurd rfl counted, known := ?_, identity := ?_ }
    { laws.list with } { laws.lamps with }
  · exact ⟨fun _ => .inl run, fun _ => rfl⟩
  · rintro o ⟨⟩
    exact proper

/-- A LAMP exchange fails in RUNNING: a LAMP entry waits again (R126). -/
theorem LaneLaws.lampFailed (run : x.phase = .running) {failures : Nat} (few : failures < 3) :
    LaneLaws ({ x.ended with failures := failures, waiters := [], sent := none } : Lane).queueLamp := by
  have enabled : x.phase ≠ .disabled := by rw [run]; decide
  have list : ListLaws { x.ended with failures := failures, waiters := [], sent := none } := { laws.list with }
  have queued := queueLamp_hasLampEntry (x := { x.ended with failures := failures, waiters := [], sent := none }) run
  have list := list.queueLamp
  rw [queueLamp_list] at list queued ⊢
  exact .of_rest ⟨rfl, rfl, rfl, rfl, (restActivity_eq _).symm⟩ enabled
    { laws.phase with failures := few, failing := fun _ => run, waiting := fun some => absurd rfl some } list
    (lampLaws_queued queued)

/-- A LAMP exchange succeeds (R125): where it carried the desired image, every waiter's target is reached. -/
theorem LaneLaws.lampConfirmed (run : x.phase = .running) {image : Half} {version : Word}
    (sent : x.sent = some (image, version)) : LaneLaws (x.succeeded.lampConfirmed image version) := by
  have enabled : x.phase ≠ .disabled := by rw [run]; decide
  refine .of_rest ⟨rfl, rfl, rfl, rfl, (restActivity_eq _).symm⟩ enabled
    { laws.phase with
      failures := Nat.zero_lt_succ 2, failing := fun counted => absurd rfl counted, waiting := fun _ => run }
    { laws.list with } ⟨fun run none _ => ?_, nofun⟩
  obtain ⟨is_image, is_version⟩ := laws.lamps.carried run none image version sent
  refine ⟨is_image, is_version, ?_⟩
  show x.waiters.filter (fun w => !targetReached x.desiredVersion version w.target) = []
  rw [List.filter_eq_nil_iff]
  intro w _
  rw [is_version, targetReached]
  have reached : w.target - x.desiredVersion = 0 ∨ x.desiredVersion - x.desiredVersion < w.target - x.desiredVersion := by
    bv_omega
  rw [decide_eq_true reached]
  decide

end

/-! ## Exchanges in progress -/

section
variable {x : Lane} (laws : LaneLaws x) {ex : Exchange} (exchange : x.exchange = some ex)
include laws

/-- A frame begins or ends in AWAITING (R87, R89). -/
theorem LaneLaws.framed (awaiting : x.activity = .awaiting) (frame : Option Word) : LaneLaws { x with frame := frame } where
  phase := { laws.phase with }
  list := { laws.list with }
  wire :=
    { laws.wire with
      frame := fun _ => .inr awaiting
      receiving := fun receiving => absurd (awaiting.symm.trans receiving) (by decide) }
  inExchange e is := { laws.inExchange e is with }
  noExchange := laws.noExchange
  running := laws.running
  sent := laws.sent
  lamps := { laws.lamps with }

/-- A frame begins on an IDLE lane (R87). -/
theorem LaneLaws.receives (idle : x.activity = .idle) (t : Word) :
    LaneLaws { x with activity := .receiving, frame := some t } := by
  have quiet : x.exchange = none := laws.exchange_none (by rw [idle]; decide) (by rw [idle]; decide)
  have enabled : x.phase ≠ .disabled := fun disabled => by
    rcases laws.wire.disabled disabled with is | is <;> exact absurd (idle.symm.trans is) (by decide)
  have rest := laws.atRest quiet enabled
  exact .of_rest ⟨rest.exchange, rest.inProgress, rest.parity, rest.sent, rfl⟩ enabled { laws.phase with }
    { laws.list with } { laws.lamps with }

/-- An event byte between the reply positions enters the empty slot (R91). -/
theorem LaneLaws.strayKept (awaiting : x.activity = .awaiting) (run : x.phase = .running) {b : Byte}
    (event : b ∉ [0xB4#8, 0xB5, 0xBE, 0xBF]) : LaneLaws { x with slot := some b } where
  phase := { laws.phase with slot := fun _ => run, slotByte := fun c is => Option.some.inj is ▸ event }
  list := { laws.list with }
  wire :=
    { laws.wire with
      idle := fun idle => absurd (awaiting.symm.trans idle) (by decide)
      held := fun held => absurd (awaiting.symm.trans held) (by decide) }
  inExchange e is := { laws.inExchange e is with }
  noExchange := laws.noExchange
  running := laws.running
  sent := laws.sent
  lamps := { laws.lamps with }

include exchange

omit laws exchange in
theorem ModuleCommand.positions_cases (c : ModuleCommand) :
    c.positions = [.ack, .moduleType, .lampCount] ∨ c.positions = [.ack] ∨ c.positions = [.resent] := by
  cases c <;> simp [ModuleCommand.positions]

/-- An exchange goes on: the same command at another attempt, byte or position. -/
theorem LaneLaws.renewed {new : Exchange} {a : Activity} {frame : Option Word} (busy : a = .sending ∨ a = .awaiting)
    (framed : frame.isSome → a = .awaiting) (command : new.command = ex.command) (attempt : 1 ≤ new.attempt ∧ new.attempt ≤ 3)
    (byte : new.byteIndex < new.command.bytes.length) (sending : a = .sending → new.due = [])
    (awaiting : a = .awaiting → new.due ≠ [] ∧ new.due <:+ new.command.positions)
    (typeTaken : new.due = [.lampCount] → 0x01#8 ≤ new.typeTaken ∧ new.typeTaken ≤ 0x7F#8) :
    LaneLaws { x with activity := a, frame := frame, exchange := some new } := by
  have enabled := laws.enabled_of_exchange exchange
  obtain ⟨_, _, _, _, _, entry, carried, parity, noParity, resendPhase⟩ := laws.inExchange ex exchange
  refine
    { phase := { laws.phase with }
      list := { laws.list with }
      wire := ?_
      inExchange := ?_
      noExchange := nofun
      running := laws.running
      sent := laws.sent
      lamps := { laws.lamps with } }
  · refine ⟨⟨fun _ => busy, fun _ => rfl⟩, fun some => .inr (framed some), ?_, ?_, ?_, ?_,
      fun disabled => absurd disabled enabled⟩ <;>
      · intro is
        rcases busy with rfl | rfl <;> cases is
  · rintro _ ⟨⟩
    rw [← command] at entry carried parity noParity resendPhase
    exact ⟨attempt, byte, sending, awaiting, typeTaken, entry, carried, parity, noParity, resendPhase⟩

/-- The first byte, or the next one, is sent under a fresh limit (R86, R92, R93). -/
theorem LaneLaws.taken (unframed : x.frame = none) {new : Exchange} (command : new.command = ex.command)
    (attempt : 1 ≤ new.attempt ∧ new.attempt ≤ 3) (byte : new.byteIndex < new.command.bytes.length) (now : Word) :
    LaneLaws (x.take now new) :=
  laws.renewed exchange (new := { new with clocked := false, due := [], limit := startWait now clockLimitMs })
    (a := .sending) (frame := x.frame) (.inl rfl) (fun some => by rw [unframed] at some; cases some) command attempt byte
    (fun _ => rfl) nofun nofun

theorem LaneLaws.clocked (sending : x.activity = .sending) (limit : Wait) :
    LaneLaws { x with exchange := some { ex with clocked := true, limit := limit } } := by
  have inExchange := laws.inExchange ex exchange
  refine laws.renewed exchange (new := { ex with clocked := true, limit := limit }) (a := x.activity) (frame := x.frame)
    (.inl sending) (fun some => ?_) rfl inExchange.attempt inExchange.byte inExchange.sending inExchange.awaiting
    inExchange.typeTaken
  rcases laws.wire.frame some with receiving | awaiting
  · exact absurd (sending.symm.trans receiving) (by decide)
  · exact awaiting

theorem LaneLaws.byteCompleted (limit : Wait) :
    LaneLaws { x with activity := .awaiting, exchange := some { ex with due := ex.command.positions, limit := limit } } := by
  have inExchange := laws.inExchange ex exchange
  refine laws.renewed exchange (new := { ex with due := ex.command.positions, limit := limit }) (a := .awaiting)
    (frame := x.frame) (.inr rfl) (fun _ => rfl) rfl inExchange.attempt inExchange.byte nofun
    (fun _ => ⟨?_, List.suffix_refl _⟩) fun due => ?_
  · show ex.command.positions ≠ []
    cases ex.command <;> simp [ModuleCommand.positions]
  · revert due
    show ex.command.positions = _ → _
    cases ex.command <;> simp [ModuleCommand.positions]

/-- A reply position is filled and another is due (R90, R93). -/
theorem LaneLaws.positionDue (awaiting : x.activity = .awaiting) {p q : ReplyPosition} {rest : List ReplyPosition}
    (due : ex.due = p :: q :: rest) {type : Byte} (proper : p = .moduleType → 0x01#8 ≤ type ∧ type ≤ 0x7F#8) (limit : Wait) :
    LaneLaws { x with exchange := some { ex with due := q :: rest, typeTaken := type, limit := limit } } := by
  have inExchange := laws.inExchange ex exchange
  have among := (inExchange.awaiting awaiting).2
  rw [due] at among
  refine laws.renewed exchange (new := { ex with due := q :: rest, typeTaken := type, limit := limit }) (a := x.activity)
    (frame := x.frame) (.inr awaiting) (fun _ => awaiting) rfl inExchange.attempt inExchange.byte
    (fun sending => absurd (awaiting.symm.trans sending) (by decide))
    (fun _ => ⟨by simp, (List.suffix_cons _ _).trans among⟩) fun last => proper ?_
  obtain ⟨is_q, is_rest⟩ := List.cons.inj last
  subst is_q is_rest
  revert among
  rcases ex.command.positions_cases with is | is | is <;> rw [is] <;> cases p <;> decide

end

/-! ## Exchanges that begin -/

section
variable {x : Lane} (laws : LaneLaws x)
include laws

/-- A RESEND exchange begins: no entry is in progress, and the parity count is 1 or 2 (R96, R97). -/
theorem LaneLaws.resends (idle : x.inProgress = none) (unframed : x.frame = none)
    (phase : x.phase = .running ∨ x.phase = .starting ∨ x.phase = .mismatch) {count failures : Nat}
    (counted : count = 1 ∨ count = 2) (few : failures = x.failures ∨ failures = 0) (now : Word) :
    LaneLaws { ({ x with failures := failures } : Lane).startExchange now .resend with parityCount := some count } where
  phase :=
    { laws.phase with
      failures := by
        rcases few with is | is
        · exact is ▸ laws.phase.failures
        · exact is ▸ Nat.zero_lt_succ 2
      failing := fun some => by
        rcases few with is | is
        · exact laws.phase.failing (is ▸ some)
        · exact absurd is some }
  list := { laws.list with }
  wire := by
    refine ⟨⟨fun _ => .inl rfl, fun _ => rfl⟩, fun some => ?_, nofun, nofun, nofun, nofun, fun disabled => ?_⟩
    · rw [Lane.startExchange, Lane.take, unframed] at some
      cases some
    · rcases phase with is | is | is <;> exact absurd (is.symm.trans disabled) (by decide)
  inExchange := by
    rintro _ ⟨⟩
    refine ⟨⟨Nat.le_refl 1, Nat.le_add_left 1 2⟩, Nat.zero_lt_one, fun _ => rfl, nofun, nofun, ?_, fun e is => ?_, fun _ => ?_, fun other => absurd rfl other,
      fun _ => phase⟩
    · refine ⟨fun some => ?_, fun other => absurd rfl other⟩
      rw [show Lane.inProgress _ = x.inProgress from rfl, idle] at some
      cases some
    · cases idle.symm.trans is
    · rcases counted with is | is
      · exact .inl (congrArg some is)
      · exact .inr (congrArg some is)
  noExchange := nofun
  running e is := by cases idle.symm.trans is
  sent := laws.sent
  lamps := { laws.lamps with }

omit laws in
theorem Entry.command_ne_resend (e : Entry) (image : Half) : e.command image ≠ .resend := by
  obtain ⟨kind, request⟩ := e
  cases kind <;> simp [Entry.command]

omit laws in
theorem ModuleCommand.bytes_pos (c : ModuleCommand) : 0 < c.bytes.length := by
  cases c <;> exact Nat.succ_pos _

/-- The head entry takes the line (R104, R124). -/
theorem LaneLaws.begins {e : Entry} {rest : List Entry} (list : x.list = e :: rest) (idle : x.activity = .idle)
    (now : Word) : LaneLaws (x.begin now e) := by
  have quiet : x.exchange = none := laws.exchange_none (by rw [idle]; decide) (by rw [idle]; decide)
  obtain ⟨entry, parity⟩ := laws.noExchange quiet
  have unsent := laws.unsent entry
  have enabled : x.phase ≠ .disabled := fun disabled => by
    rcases laws.wire.disabled disabled with is | is <;> exact absurd (idle.symm.trans is) (by decide)
  have unframed : x.frame = none := by
    rw [← Option.not_isSome_iff_eq_none]
    intro some
    rcases laws.wire.frame some with is | is <;> exact absurd (idle.symm.trans is) (by decide)
  have fits := laws.list.fits e (by rw [list]; exact List.mem_cons_self)
  have is_sent : (x.begin now e).sent = if e.kind = .lamp then some (x.desired, x.desiredVersion) else x.sent := rfl
  refine
    { phase := { laws.phase with }
      list := laws.list.sublist (List.drop_sublist 1 x.list) rfl rfl
      wire := ?_
      inExchange := ?_
      noExchange := nofun
      running := ?_
      sent := ?_
      lamps := ?_ }
  · refine ⟨⟨fun _ => .inl rfl, fun _ => rfl⟩, fun some => ?_, nofun, nofun, nofun, nofun,
      fun disabled => absurd disabled enabled⟩
    rw [show (x.begin now e).frame = x.frame from rfl, unframed] at some
    cases some
  · rintro _ ⟨⟩
    have other := e.command_ne_resend x.desired
    refine ⟨⟨Nat.le_refl 1, Nat.le_add_left 1 2⟩, ModuleCommand.bytes_pos _, fun _ => rfl, nofun, nofun, ⟨fun _ => other, fun _ => rfl⟩, ?_,
      fun is => absurd is other, fun _ => parity, fun is => absurd is other⟩
    rintro _ ⟨⟩
    rw [is_sent]
    by_cases lamp : e.kind = .lamp
    · rw [if_pos lamp]
      rfl
    · rw [if_neg lamp, unsent]
      refine ⟨lamp, ?_⟩
      show e.command x.desired = e.command 0
      rw [Entry.command_eq, Entry.command_eq]
      cases kind : e.kind <;> simp_all
  · rintro _ ⟨⟩
    exact ⟨fits.1, (Bool.or_eq_true _ _).mpr (.inl fits.2)⟩
  · rw [is_sent]
    by_cases lamp : e.kind = .lamp
    · rw [if_pos lamp]
      exact ⟨fun _ => ⟨e, rfl, lamp⟩, fun _ => rfl⟩
    · rw [if_neg lamp, unsent]
      refine ⟨nofun, ?_⟩
      rintro ⟨_, ⟨⟩, is⟩
      exact absurd is lamp
  · have entries : x.hasLampEntry = (decide (e.kind = .lamp) || (x.begin now e).hasLampEntry) := by
      simp [Lane.hasLampEntry, list, Lane.begin, Lane.startExchange, Lane.take]
    by_cases lamp : e.kind = .lamp
    · refine ⟨fun _ _ none => ?_, fun _ _ image version sent => ?_⟩
      · rw [is_sent, if_pos lamp] at none
        cases none
      · rw [is_sent, if_pos lamp] at sent
        cases sent
        exact ⟨rfl, rfl⟩
    · have same : x.hasLampEntry = (x.begin now e).hasLampEntry := by simpa [lamp] using entries
      refine ⟨fun run none _ => laws.lamps.confirmed run (same.trans none) unsent, fun _ _ image version sent => ?_⟩
      rw [is_sent, if_neg lamp, unsent] at sent
      cases sent

/-- A MISMATCH lane whose module fits its new type goes to step ENABLE; a DISABLE in progress runs on (R115). -/
theorem LaneLaws.fitted (mismatch : x.phase = .mismatch) :
    LaneLaws { x with phase := .starting, startStep := some .enable, list := [⟨.enable, none⟩] } := by
  have short : x.phase ≠ .running := by rw [mismatch]; decide
  have calm := laws.calm short
  have probe := (laws.unhurried short).probe (by rw [mismatch]; decide)
  have hello := laws.orderly.noHello (by rw [mismatch]; decide) short
  obtain ⟨m, known⟩ := Option.isSome_iff_exists.1 (laws.phase.known.2 (.inr (.inl mismatch)))
  have start : Lane.StartsAt { x with phase := .starting, startStep := some .enable, list := [⟨.enable, none⟩] } :=
    .enable m rfl rfl probe hello known (laws.phase.identity m known) rfl
  refine
    { phase := start.phaseLaws ⟨calm.slot, calm.failures, calm.waiters⟩
      list := start.listLaws
      wire := { laws.wire with off := fun off => ?_, disabled := nofun }
      inExchange := fun ex is => { laws.inExchange ex is with resendPhase := fun _ => .inr (.inl rfl) }
      noExchange := laws.noExchange
      running := fun e is => ?_
      sent := laws.sent
      lamps := lampLaws_short nofun }
  · exact absurd (mismatch.symm.trans (laws.wire.off off)) (by decide)
  · obtain ⟨origin, may⟩ := laws.running e is
    refine ⟨origin, ?_⟩
    rw [mismatch] at may
    obtain ⟨kind, request⟩ := e
    revert may
    cases kind <;> simp [Entry.mayRun, Entry.mayWait]

end

end Sys2Proof.Machine
end

section
/-! What a happening on the wires of a lane, or at one of its deadlines, can do (R82 to R118): the lane is changed and stays where
it is, it leaves RUNNING, or it enters RUNNING. -/

namespace Sys2Proof.Machine

set_option Elab.async false

/-! ## Requests that complete -/

/-- A state after the completions of some requests, one after the other. -/
inductive Completions : State → List SlotId → State → Prop where
  | nil (s : State) : Completions s [] s
  | cons {s t : State} {is : List SlotId} (i : SlotId) (r : Reply) : Completions (complete s i r) is t →
      Completions s (i :: is) t

namespace Completions

theorem all (s : State) (is : List SlotId) (r : Reply) : Completions s is (completeAll s is r) := by
  induction is generalizing s with
  | nil => exact .nil s
  | cons i is ih => exact .cons i r (ih _)

theorem waiters (s : State) (ws : List LampWaiter) : Completions s (ws.map (·.slot)) (completeWaiters s ws) := by
  induction ws generalizing s with
  | nil => exact .nil s
  | cons w ws ih => exact .cons w.slot (lampsReply w.target) (ih _)

theorem append {s t u : State} {is js : List SlotId} (first : Completions s is t) (second : Completions t js u) :
    Completions s (is ++ js) u := by
  induction first with
  | nil => exact second
  | cons i r _ ih => exact .cons i r (ih second)

theorem frame {s t : State} {is : List SlotId} (h : Completions s is t) :
    t = { s with requests := t.requests, link := t.link } := by
  induction h with
  | nil => rfl
  | @cons s t is i r _ ih =>
    obtain ⟨requests, link, e⟩ := complete_frame s i r
    rw [ih, e]

theorem lanes {s t : State} {is : List SlotId} (h : Completions s is t) : t.lanes = s.lanes := by rw [h.frame]

end Completions

/-! ## How a lane moves -/

/-- The module of a RUNNING lane is of the expected type and that of a MISMATCH lane is not (R107, R115). -/
structure Lane.SetFor (expected : Byte) (x : Lane) : Prop where
  fits : x.phase = .running → matchesType expected x.known = true
  differs : x.phase = .mismatch → matchesType expected x.known = false

/-- A lane `y` that lane `x` has become, where RUNNING and DISABLED are neither entered nor left; the requests of `done` have
completed. -/
structure Lane.Becomes (expected : Byte) (delivering : Bool) (x y : Lane) (done : List SlotId) : Prop where
  laws : LaneLaws y
  running : y.phase = .running ↔ x.phase = .running
  disabled : y.phase = .disabled ↔ x.phase = .disabled
  setFor : y.SetFor expected
  wanted : delivering = false → y.statusWanted = x.statusWanted
  owed : (done ++ y.hostWork).Perm x.hostWork

/-- What a happening at lane `l` makes of a state. -/
inductive LaneMoved (s : State) (l : LaneId) : State → Prop where
  /-- The lane changes beside the completions of requests. -/
  | stays (e : State) (y : Lane) (done : List SlotId) : Completions s done e →
      (s.lane l).Becomes (s.expectedType l) s.delivering y done → LaneMoved s l (e.setLane l y)
  /-- The lane leaves RUNNING (R114). -/
  | leaves (e : State) (x : Lane) (f : Lane → Lane) (done : List SlotId) : (s.lane l).phase = .running →
      Completions s done e → SameLamps (s.lane l) x → EndsStay f s.delivering → LaneLaws (f (x.left s.delivering)) →
      (f (x.left s.delivering)).phase ≠ .disabled → (f (x.left s.delivering)).SetFor (s.expectedType l) →
      (f (x.left s.delivering)).hostWork = [] →
      (s.delivering = false → x.statusWanted = (s.lane l).statusWanted) →
      (done ++ x.hostWork).Perm (s.lane l).hostWork → LaneMoved s l (stayEnded s e l x .laneDown f)
  /-- The lane enters RUNNING (R113). -/
  | enters (x : Lane) : (s.lane l).phase = .starting → (s.lane l).hostWork = [] →
      matchesType (s.expectedType l) x.known = true → x.list.filter (fun e => !e.isStartUp) = [] →
      x.statusWanted = (s.lane l).statusWanted → x.AtRest → x.Calm → (∃ m, x.known = some m ∧ m.proper) →
      LaneMoved s l (stayBegun s l x)

/-! ## Host work -/

theorem hostWork_eq (x : Lane) : x.hostWork =
    (x.inProgress.bind (·.request)).toList ++ x.list.filterMap (·.request) ++ x.waiters.map (·.slot) := rfl

theorem hostWork_queueLamp (x : Lane) : x.queueLamp.hostWork = x.hostWork := by
  rw [queueLamp_list, hostWork_eq, hostWork_eq, Lane.queueLamp]
  split
  · simp
  · rfl

theorem request_of_startUp {e : Entry} (origin : e.originOk = true) (startUp : e.isStartUp = true) : e.request = none := by
  obtain ⟨kind, request⟩ := e
  revert origin startUp
  cases kind <;> simp [Entry.originOk, Entry.isStartUp]

/-- Short of RUNNING a lane owes nothing to the host (R103). -/
theorem LaneLaws.hostWork_short {x : Lane} (laws : LaneLaws x) (short : x.phase ≠ .running) : x.hostWork = [] := by
  have entry : x.inProgress.bind (·.request) = none := by
    cases is : x.inProgress with
    | none => rfl
    | some e =>
      have startUp : e.isStartUp = true := by
        by_contra host
        exact short (laws.running_of is (by simpa using host))
      exact request_of_startUp (laws.running e is).1 startUp
  have list : x.list.filterMap (·.request) = [] := by
    rw [List.filterMap_eq_nil_iff]
    intro e mem
    obtain ⟨origin, waits⟩ := laws.list.fits e mem
    exact request_of_startUp origin (Entry.startUp_of_mayWait waits short)
  rw [hostWork_eq, entry, list, (laws.calm short).waiters]
  rfl

/-- What a failed exchange ends, and what the lane owes afterwards (R117, R126). -/
theorem LaneLaws.failed_owed {x : Lane} (laws : LaneLaws x) (k : LaneFault) (delivering : Bool) :
    (x.failedWork ++ (x.failed k delivering).hostWork).Perm x.hostWork := by
  have work : (x.failed k delivering).hostWork =
      x.list.filterMap (·.request) ++ (if x.carriesLamp then [] else x.waiters).map (·.slot) := rfl
  rw [work, hostWork_eq, Lane.failedWork]
  cases carries : x.carriesLamp with
  | false => simp
  | true =>
    have none : x.inProgress.bind (·.request) = none := by
      rw [Lane.carriesLamp, decide_eq_true_eq, Option.map_eq_some_iff] at carries
      obtain ⟨e, entry, lamp⟩ := carries
      have origin := (laws.running e entry).1
      rw [Entry.originOk, lamp] at origin
      rw [entry]
      exact Option.isNone_iff_eq_none.1 origin
    simpa [none] using List.perm_append_comm

/-! ## Lanes that stay in their phase -/

section
variable {expected : Byte} {delivering : Bool} {x y : Lane}

theorem Lane.SetFor.of_same (set : x.SetFor expected) (phase : y.phase = x.phase) (known : y.known = x.known) :
    y.SetFor expected :=
  ⟨fun run => known ▸ set.fits (phase ▸ run), fun mismatch => known ▸ set.differs (phase ▸ mismatch)⟩

theorem Lane.SetFor.of_neither (run : y.phase ≠ .running) (mismatch : y.phase ≠ .mismatch) : y.SetFor expected :=
  ⟨fun is => absurd is run, fun is => absurd is mismatch⟩

/-- A change that keeps phase and module. -/
theorem Lane.Becomes.within (set : x.SetFor expected) (laws : LaneLaws y) (phase : y.phase = x.phase)
    (known : y.known = x.known) (wanted : delivering = false → y.statusWanted = x.statusWanted) {done : List SlotId}
    (owed : (done ++ y.hostWork).Perm x.hostWork) : x.Becomes expected delivering y done :=
  ⟨laws, by rw [phase], by rw [phase], set.of_same phase known, wanted, owed⟩

/-- A change of phase or step short of RUNNING. -/
theorem Lane.Becomes.short (laws : LaneLaws y) (before : LaneLaws x) (started : x.phase ≠ .running ∧ x.phase ≠ .disabled)
    (short : y.phase ≠ .running ∧ y.phase ≠ .disabled)
    (differs : y.phase = .mismatch → matchesType expected y.known = false)
    (wanted : delivering = false → y.statusWanted = x.statusWanted) : x.Becomes expected delivering y [] where
  laws := laws
  running := iff_of_false short.1 started.1
  disabled := iff_of_false short.2 started.2
  setFor := ⟨fun run => absurd run short.1, differs⟩
  wanted := wanted
  owed := by rw [List.nil_append, laws.hostWork_short short.1, before.hostWork_short started.1]

theorem Lane.wanted_fault (k : LaneFault) (quiet : delivering = false) :
    (x.withFault k delivering).statusWanted = x.statusWanted := by
  rw [Lane.withFault, quiet, Bool.or_false]

end

section
variable {s : State} {l : LaneId}

/-- A change of the lane beside completions, with the lamps of the happening settled. -/
theorem LaneMoved.settled {e : State} {y : Lane} {done : List SlotId} (ended : Completions s done e)
    (becomes : (s.lane l).Becomes (s.expectedType l) s.delivering y done) (desired : y.desired = (s.lane l).desired) :
    LaneMoved s l (settleLamps s (e.setLane l y)) := by
  have kept : settleLamps s (e.setLane l y) = e.setLane l y := by
    refine settleLamps_of_lanes (l := l) (y := y) ?_ becomes.running.1 desired
    show e.lanes.set l y = s.lanes.set l y
    rw [ended.lanes]
  rw [kept]
  exact .stays e y done ended becomes

theorem LaneMoved.set {y : Lane} (becomes : (s.lane l).Becomes (s.expectedType l) s.delivering y [])
    (desired : y.desired = (s.lane l).desired) : LaneMoved s l (settleLamps s (s.setLane l y)) :=
  .settled (.nil s) becomes desired

theorem LaneMoved.same (laws : LaneLaws (s.lane l)) (set : (s.lane l).SetFor (s.expectedType l)) : LaneMoved s l s := by
  have stays := LaneMoved.stays s (s.lane l) [] (.nil s)
    (.within set laws rfl rfl (fun _ => rfl) (List.Perm.refl _))
  rwa [setLane_self] at stays

theorem LaneMoved.settled_same (laws : LaneLaws (s.lane l)) (set : (s.lane l).SetFor (s.expectedType l)) :
    LaneMoved s l (settleLamps s s) := by
  rw [settleLamps_same s s fun _ => ⟨rfl, rfl⟩]
  exact .same laws set

end

/-! ## An exchange fails (R94, R109) -/

theorem withFault_queueLamp (x : Lane) (k : LaneFault) (delivering : Bool) :
    x.queueLamp.withFault k delivering = (x.withFault k delivering).queueLamp := by
  unfold Lane.queueLamp
  show _ = if x.phase = .running ∧ x.hasLampEntry = false then _ else _
  split <;> rfl

section
variable {s : State} {l : LaneId} {frame : Option Word} (set : (s.lane l).SetFor (s.expectedType l))
  (laws : LaneLaws { s.lane l with frame := frame })
include set laws

theorem exchangeFails_moved {ex : Exchange} (exchange : (s.lane l).exchange = some ex) (k : LaneFault) :
    LaneMoved s l (settleLamps s (exchangeFails (s.setLane l { s.lane l with frame := frame }) l k)) := by
  have enabled : (s.lane l).phase ≠ .disabled := laws.enabled_of_exchange (ex := ex) exchange
  generalize is_z : ({ s.lane l with frame := frame } : Lane) = z at laws ⊢
  have phase : z.phase = (s.lane l).phase := by rw [← is_z]
  have known : z.known = (s.lane l).known := by rw [← is_z]
  have wanted : z.statusWanted = (s.lane l).statusWanted := by rw [← is_z]
  have desired : z.desired = (s.lane l).desired := by rw [← is_z]
  have work : z.hostWork = (s.lane l).hostWork := by rw [← is_z]; rfl
  have lamps : SameLamps (s.lane l) z := by rw [← is_z]; exact ⟨rfl, rfl, ⟨rfl, rfl⟩, rfl⟩
  have entering : s.delivering = false →
      ((z.ended.withFault k s.delivering).entering .absent none .probeIdentify s.delivering).statusWanted =
        (s.lane l).statusWanted := fun quiet => by
    simp [Lane.entering, Lane.withFault, Lane.ended, quiet, wanted]
  cases is : (s.lane l).phase with
  | disabled => exact absurd is enabled
  | running =>
    have run : z.phase = .running := phase.trans is
    have ended := Completions.all s z.failedWork (replyOfFailure k)
    have owed := laws.failed_owed k s.delivering
    rw [work] at owed
    rw [exchangeFails_running run]
    dsimp only
    split
    · rw [loseModule_setLane ended.frame]
      refine .leaves _ _ _ z.failedWork is ended ⟨lamps.desired, lamps.version, lamps.confirmed, lamps.owners⟩
        (endsStay_enteringUnknown (by decide) _ _ _) ?_ nofun (.of_neither nofun nofun) rfl (fun quiet => ?_) owed
      · exact .of_start (.absent rfl rfl rfl rfl (.inr rfl)) ⟨rfl, rfl, rfl, rfl, rfl⟩ ⟨rfl, rfl, rfl⟩
      · simp [Lane.failed, Lane.withFault, Lane.ended, quiet, wanted]
    · next few =>
      have counted : z.failuresAfter k < 3 := Nat.lt_of_not_le few
      have quiet_wanted : s.delivering = false → (z.failed k s.delivering).statusWanted = (s.lane l).statusWanted :=
        fun quiet => by simp [Lane.failed, Lane.withFault, Lane.ended, quiet, wanted]
      split
      · next carries =>
        rw [setLane_setLane]
        refine .settled ended (.within set ?_ ?_ ?_ ?_ ?_) ?_
        · rw [Lane.failed_of_lamp carries]
          have requeued := (laws.lampFailed run counted).withFault k s.delivering
          rwa [withFault_queueLamp] at requeued
        · rw [queueLamp_list]; exact phase
        · rw [queueLamp_list]; exact known
        · rw [queueLamp_list]; exact quiet_wanted
        · rw [hostWork_queueLamp]; exact owed
        · rw [queueLamp_list]; exact desired
      · next carries =>
        have other : z.carriesLamp = false := by simpa using carries
        refine .settled ended (.within set ?_ ?_ ?_ quiet_wanted owed) ?_
        rotate_left
        · exact phase
        · exact known
        · exact desired
        rw [Lane.failed_of_other other]
        have unsent : z.sent = none := by
          rw [← Option.not_isSome_iff_eq_none, laws.sent]
          rintro ⟨e, entry, lamp⟩
          rw [Lane.carriesLamp, entry] at other
          simp [lamp] at other
        exact (laws.exchangeDropped (by rw [run]; decide) unsent counted fun _ => run).withFault k s.delivering
  | absent =>
    have absent : z.phase = .absent := phase.trans is
    have short : z.phase ≠ .running := by rw [absent]; decide
    rw [exchangeFails_absent absent]
    have calm := laws.calm short
    have step := laws.orderly.noStep (by rw [absent]; decide)
    have unknown : z.known = none := by
      rw [← Option.not_isSome_iff_eq_none, laws.phase.known, step, absent]
      decide
    have lawful : LaneLaws { z.ended with probeDue := some ⟨s.time.uptime, 500⟩ } :=
      .of_start (.absent absent step (laws.orderly.noHello (by rw [absent]; decide) short) unknown (laws.list_absent absent))
        ⟨rfl, rfl, rfl, laws.orderly.sent short, (restActivity_eq _).symm⟩ ⟨calm.slot, calm.failures, calm.waiters⟩
    refine .set (.within set lawful ?_ ?_ (fun _ => ?_) ?_) ?_
    · exact phase
    · exact known
    · exact wanted
    · rw [← work, laws.hostWork_short short, lawful.hostWork_short short]
      exact List.Perm.refl _
    · exact desired
  | starting | mismatch =>
    have short : z.phase ≠ .running := by rw [phase, is]; decide
    have calm := laws.calm short
    rw [exchangeFails_startingUp (by simp [phase, is])]
    have lawful : LaneLaws { (z.ended.withFault k s.delivering).entering .absent none .probeIdentify s.delivering with
        known := none } :=
      .of_start (.absent rfl rfl rfl rfl (.inr rfl))
        ⟨rfl, rfl, rfl, laws.orderly.sent short, (restActivity_eq _).symm⟩ ⟨calm.slot, rfl, calm.waiters⟩
    refine .set ⟨lawful, ?_, ?_, .of_neither nofun nofun, entering, ?_⟩ desired
    · rw [is]; exact iff_of_false nofun nofun
    · rw [is]; exact iff_of_false nofun nofun
    · rw [← work, laws.hostWork_short short, lawful.hostWork_short nofun]
      exact List.Perm.refl _

end

end Sys2Proof.Machine
end

section
/-! How a lane moves when a byte is received outside an exchange, and when an exchange succeeds or goes on (R83 to R97, R104 to
R118). -/

namespace Sys2Proof.Machine

set_option Elab.async false

/-! ## Lanes alike in all that a move is judged by -/

/-- Lane `w` is as lane `x` in phase, module, flag, image and host work. -/
structure Lane.Alike (x w : Lane) : Prop where
  phase : w.phase = x.phase
  known : w.known = x.known
  wanted : w.statusWanted = x.statusWanted
  desired : w.desired = x.desired
  work : w.hostWork = x.hostWork

section
variable {s : State} {l : LaneId} {x w y : Lane}

theorem Lane.Alike.trans (first : x.Alike w) (second : w.Alike y) : x.Alike y :=
  ⟨second.phase.trans first.phase, second.known.trans first.known, second.wanted.trans first.wanted,
    second.desired.trans first.desired, second.work.trans first.work⟩

/-- A lawful lane alike to the one before. -/
theorem LaneMoved.alike (set : (s.lane l).SetFor (s.expectedType l)) (alike : (s.lane l).Alike y) (laws : LaneLaws y) :
    LaneMoved s l (settleLamps s (s.setLane l y)) :=
  .set (.within set laws alike.phase alike.known (fun _ => alike.wanted) (by rw [List.nil_append, alike.work]))
    alike.desired

/-- A lawful lane alike to the one before, but for a fault. -/
theorem LaneMoved.faulted (set : (s.lane l).SetFor (s.expectedType l)) (alike : (s.lane l).Alike y) (laws : LaneLaws y)
    (k : LaneFault) : LaneMoved s l (settleLamps s (recordFault (s.setLane l y) l k)) := by
  rw [recordFault_setLane]
  refine .set (.within set (laws.withFault k _) ?_ ?_ (fun quiet => ?_) ?_) ?_
  · exact alike.phase
  · exact alike.known
  · exact (Lane.wanted_fault k quiet).trans alike.wanted
  · rw [List.nil_append, ← alike.work]
    exact List.Perm.refl _
  · exact alike.desired

end

/-! ## A byte outside an exchange (R83, R84) -/

section
variable {s : State} {l : LaneId} {w : Lane} (set : (s.lane l).SetFor (s.expectedType l)) (alike : (s.lane l).Alike w)
  (laws : LaneLaws w) (quiet : w.exchange = none) (unframed : w.frame = none)
include set alike laws quiet unframed

theorem receiveByte_moved {b : Byte} (other : b ≠ 0xB5) :
    LaneMoved s l (settleLamps s (receiveByte (s.setLane l w) l b)) := by
  have lane : (s.setLane l w).lane l = w := State.lane_setLane_self ..
  by_cases protocol : b ∈ [0xB4#8, 0xBE, 0xBF]
  · rw [receiveByte_discards protocol]
    exact .alike set alike laws
  · have event : b ∉ [0xB4#8, 0xB5, 0xBE, 0xBF] := by
      simp only [List.mem_cons, List.not_mem_nil, or_false, not_or] at protocol ⊢
      exact ⟨protocol.1, other, protocol.2⟩
    rw [receiveByte_event event, lane]
    split
    · next run =>
      by_cases empty : w.slot = none
      · rw [slotByte_empty (by rw [lane]; exact empty), lane, setLane_setLane]
        exact .alike set (alike.trans ⟨rfl, rfl, rfl, rfl, rfl⟩) (laws.slotFilled quiet run unframed event)
      · rw [slotByte_full (by rw [lane]; exact empty)]
        exact .faulted set alike laws .overrun
    · exact .alike set alike laws

theorem badFrameOutside_moved (enabled : w.phase ≠ .disabled) :
    LaneMoved s l (settleLamps s (badFrameOutside (s.setLane l w) l)) := by
  have lane : (s.setLane l w).lane l = w := State.lane_setLane_self ..
  by_cases absent : w.phase = .absent
  · rw [badFrameOutside_absent (by rw [lane]; exact absent)]
    exact .alike set alike laws
  by_cases empty : w.slot = none
  · rw [badFrameOutside_asks (by rw [lane]; exact absent) (by rw [lane]; exact empty), lane, setLane_setLane]
    have phase : w.phase = .running ∨ w.phase = .starting ∨ w.phase = .mismatch := by cases is : w.phase <;> simp_all
    exact .alike set (alike.trans ⟨rfl, rfl, rfl, rfl, rfl⟩)
      (laws.resends (laws.noExchange quiet).1 unframed phase (.inl rfl) (.inl rfl) s.time.uptime)
  · rw [badFrameOutside_full (by rw [lane]; exact absent) (by rw [lane]; exact empty)]
    exact .faulted set alike laws .overrun

end

/-! ## HELLO (R106) -/

section
variable {s : State} {l : LaneId} (laws : LaneLaws (s.lane l))
include laws

theorem helloTaken_moved (enabled : (s.lane l).phase ≠ .disabled) :
    LaneMoved s l (settleLamps s (helloTaken (s.setLane l (s.lane l).helloed) l)) := by
  have short_failures (short : (s.lane l).phase ≠ .running) : (s.lane l).helloed.failures = 0 := by
    rw [Lane.helloed, (laws.calm short).failures]
    exact ite_self 0
  cases phase : (s.lane l).phase with
  | disabled => exact absurd phase enabled
  | running =>
    rw [helloTaken_running (x := (s.lane l).helloed) phase]
    refine .leaves _ _ _ [] phase (.nil s) ⟨rfl, rfl, ⟨rfl, rfl⟩, rfl⟩ (endsStay_enteringUnknown (by decide) _ _ _) ?_ nofun
      (.of_neither nofun nofun) rfl (fun quiet => Lane.wanted_fault (x := (s.lane l).helloed) _ quiet) (List.Perm.refl _)
    exact .of_start (.identify rfl rfl rfl rfl rfl rfl) ⟨rfl, rfl, rfl, rfl, rfl⟩ ⟨rfl, rfl, rfl⟩
  | absent =>
    have short : (s.lane l).phase ≠ .running := by rw [phase]; decide
    have step := laws.orderly.noStep (by rw [phase]; decide)
    have calm := laws.calm short
    have unknown : (s.lane l).known = none := by
      rw [← Option.not_isSome_iff_eq_none, laws.phase.known, step, phase]
      decide
    rw [helloTaken_absent (x := (s.lane l).helloed) phase (laws.list_absent phase)]
    refine .set (.short ?_ laws ⟨short, enabled⟩ ?_ ?_ fun _ => rfl) rfl
    · exact .of_start (.absent phase step (laws.orderly.noHello (by rw [phase]; decide) short) unknown (.inr rfl))
        ⟨rfl, rfl, rfl, laws.orderly.sent short, rfl⟩ ⟨calm.slot, short_failures short, calm.waiters⟩
    · exact ⟨short, enabled⟩
    · exact fun mismatch => by cases phase.symm.trans mismatch
  | starting =>
    have short : (s.lane l).phase ≠ .running := by rw [phase]; decide
    have calm := laws.calm short
    have unknown (step : (s.lane l).startStep = some .waitHello) : (s.lane l).known = none := by
      rw [← Option.not_isSome_iff_eq_none, laws.phase.known, phase, step]
      decide
    rw [helloTaken_starting (x := (s.lane l).helloed) phase (laws.list_startUp short) unknown]
    refine .set (.short ?_ laws ⟨short, enabled⟩ ?_ ?_ fun _ => rfl) rfl
    · exact .of_start (.identify phase rfl ((laws.unhurried short).probe (by rw [phase]; decide)) rfl rfl rfl)
        ⟨rfl, rfl, rfl, laws.orderly.sent short, rfl⟩ ⟨calm.slot, short_failures short, calm.waiters⟩
    · exact ⟨short, enabled⟩
    · exact fun mismatch => by cases phase.symm.trans mismatch
  | mismatch =>
    have short : (s.lane l).phase ≠ .running := by rw [phase]; decide
    have calm := laws.calm short
    rw [helloTaken_mismatch (x := (s.lane l).helloed) phase]
    refine .set (.short ?_ laws ⟨short, enabled⟩ ⟨nofun, nofun⟩ nofun fun quiet => ?_) rfl
    · exact .of_start (.identify rfl rfl rfl rfl rfl rfl) ⟨rfl, rfl, rfl, laws.orderly.sent short, rfl⟩
        ⟨calm.slot, rfl, calm.waiters⟩
    · show ((s.lane l).statusWanted || s.delivering) = _
      rw [quiet, Bool.or_false]

end

/-- A lane with an entry in progress is enabled. -/
theorem LaneLaws.enabled_of_entry {x : Lane} (laws : LaneLaws x) {e : Entry} (entry : x.inProgress = some e) :
    x.phase ≠ .disabled := by
  have busy : x.exchange ≠ none := fun none => by cases entry.symm.trans (laws.noExchange none).1
  obtain ⟨ex, exchange⟩ := Option.ne_none_iff_exists'.1 busy
  exact laws.enabled_of_exchange exchange

/-! ## An exchange succeeds (R105, R107, R108, R117, R118, R125) -/

section
variable {s : State} {l : LaneId} {z : Lane} {e : Entry} {m : ModuleId} (set : (s.lane l).SetFor (s.expectedType l))
  (alike : (s.lane l).Alike z) (lamps : SameLamps (s.lane l) z) (laws : LaneLaws z) (entry : z.inProgress = some e)
include set alike lamps laws entry

omit set lamps laws in
/-- The host work that remains when the entry in progress has ended. -/
theorem hostWork_ended {done : List SlotId} (ended : done = e.request.toList) {y : Lane} (none : y.inProgress = none)
    (list : y.list = z.list) (waiters : y.waiters = z.waiters) : (done ++ y.hostWork).Perm (s.lane l).hostWork := by
  rw [← alike.work, hostWork_eq, hostWork_eq, none, list, waiters, entry, ended]
  simp

omit set in
theorem hostIdentified_moved (kind : e.kind = .identify) (proper : m.proper) :
    LaneMoved s l (settleLamps s
      (hostIdentified (completeOpt (s.setLane l z.succeeded) e.request ⟨.ok, [m.moduleType, m.lampCount]⟩) l m)) := by
  have run : z.phase = .running := laws.running_of entry (by rw [Entry.isStartUp, kind])
  have unsent := laws.sent_none entry (by rw [kind]; decide)
  have ended := Completions.all s e.request.toList ⟨.ok, [m.moduleType, m.lampCount]⟩
  rw [completeOpt_eq, completeAll_setLane]
  have expected : ((completeAll s e.request.toList ⟨.ok, [m.moduleType, m.lampCount]⟩).setLane l z.succeeded).expectedType l =
      s.expectedType l := by
    rw [ended.frame]
    rfl
  cases fits : matchesType (s.expectedType l) (some m) with
  | true =>
    rw [hostIdentified_fits (by rw [expected]; exact fits), setKnown_setLane]
    refine .settled ended ⟨laws.identified run unsent proper, ?_, ?_, ⟨fun _ => fits, fun mismatch => ?_⟩, fun _ => ?_,
      hostWork_ended alike entry rfl rfl rfl rfl⟩ ?_
    · exact iff_of_true run (alike.phase ▸ run)
    · show z.phase = .disabled ↔ _
      rw [alike.phase]
    · cases run.symm.trans mismatch
    · exact alike.wanted
    · exact alike.desired
  | false =>
    rw [hostIdentified_setLane ended.frame fits]
    refine .leaves _ _ _ e.request.toList (alike.phase ▸ run) ended
      ⟨lamps.desired, lamps.version, lamps.confirmed, lamps.owners⟩ (endsStay_entering (by decide) _ _ _) ?_ nofun
      ⟨nofun, fun _ => fits⟩ rfl (fun quiet => ?_) (hostWork_ended alike entry rfl rfl rfl rfl)
    · exact .of_start (.mismatch m rfl rfl rfl rfl rfl proper rfl) ⟨rfl, rfl, rfl, rfl, rfl⟩ ⟨rfl, rfl, rfl⟩
    · exact (Lane.wanted_fault _ quiet).trans alike.wanted

omit lamps in
theorem rescanned_moved (kind : e.kind = .rescan) :
    LaneMoved s l (settleLamps s (completeOpt (s.setLane l z.succeeded) e.request (bare .ok))) := by
  have run : z.phase = .running := laws.running_of entry (by rw [Entry.isStartUp, kind])
  rw [completeOpt_eq, completeAll_setLane]
  refine .settled (.all s e.request.toList (bare .ok)) (.within set ?_ ?_ ?_ (fun _ => ?_)
    (hostWork_ended alike entry rfl rfl rfl rfl)) ?_
  · exact laws.exchangeDropped (by rw [run]; decide) (laws.sent_none entry (by rw [kind]; decide)) (Nat.zero_lt_succ 2)
      fun counted => absurd rfl counted
  · exact alike.phase
  · exact alike.known
  · exact alike.wanted
  · exact alike.desired

omit set in
theorem resetSucceeds_moved (kind : e.kind = .resetModule) :
    LaneMoved s l (settleLamps s (resetSucceeds (completeOpt (s.setLane l z.succeeded) e.request (bare .ok)) l)) := by
  have run : z.phase = .running := laws.running_of entry (by rw [Entry.isStartUp, kind])
  have ended := Completions.all s e.request.toList (bare .ok)
  rw [completeOpt_eq, completeAll_setLane, resetSucceeds_setLane ended.frame]
  have list : (z.list.filter (·.isStartUp)).filter (·.isStartUp) = [] := by
    rw [laws.list_running run]
    rfl
  refine .leaves _ _ _ e.request.toList (alike.phase ▸ run) ended
    ⟨lamps.desired, lamps.version, lamps.confirmed, lamps.owners⟩ (endsStay_resetting _ _) ?_ nofun
    (.of_neither nofun nofun) ?_ (fun _ => ?_) (hostWork_ended alike entry rfl rfl rfl rfl)
  · exact .of_start (.waitHello _ rfl rfl rfl rfl rfl list) ⟨rfl, rfl, rfl, rfl, rfl⟩ ⟨rfl, rfl, rfl⟩
  · show [] ++ ((z.list.filter (·.isStartUp)).filter (·.isStartUp)).filterMap (fun e : Entry => e.request) ++ [] = []
    rw [list]
    rfl
  · exact alike.wanted

omit lamps in
theorem lampSucceeds_moved (kind : e.kind = .lamp) :
    LaneMoved s l (settleLamps s (lampSucceeds (s.setLane l z.succeeded) l)) := by
  have run : z.phase = .running := laws.running_of entry (by rw [Entry.isStartUp, kind])
  obtain ⟨⟨image, version⟩, sent⟩ := Option.isSome_iff_exists.1 (laws.sent.2 ⟨e, entry, kind⟩)
  have internal : e.request = none := by
    have origin := (laws.running e entry).1
    rw [Entry.originOk, kind] at origin
    exact Option.isNone_iff_eq_none.1 origin
  rw [lampSucceeds_setLane (x := z.succeeded) sent, completeWaiters_setLane]
  refine .settled (.waiters s _) (.within set (laws.lampConfirmed run sent) ?_ ?_ (fun _ => ?_) ?_) ?_
  · exact alike.phase
  · exact alike.known
  · exact alike.wanted
  · have split := List.filter_append_perm (z.reachedBy version) z.waiters
    have work : z.hostWork = z.list.filterMap (·.request) ++ z.waiters.map (·.slot) := by
      rw [hostWork_eq, entry, Option.bind_some, internal]
      rfl
    rw [← alike.work, work]
    show ((z.waiters.filter (z.reachedBy version)).map (fun w : LampWaiter => w.slot) ++
      (z.list.filterMap (fun e : Entry => e.request) ++
        (z.waiters.filter fun w => !z.reachedBy version w).map (fun w : LampWaiter => w.slot))).Perm
      (z.list.filterMap (fun e : Entry => e.request) ++ z.waiters.map (fun w : LampWaiter => w.slot))
    refine (List.perm_append_comm_assoc _ _ _).trans (List.Perm.append_left _ ?_)
    rw [← List.map_append]
    exact split.map _
  · exact alike.desired

omit set lamps in
theorem checkIdentified_moved (before : LaneLaws (s.lane l)) (kind : e.kind = .probeIdentify) (proper : m.proper) :
    LaneMoved s l (settleLamps s (checkIdentified (setKnown (s.setLane l z.succeeded) l (some m)) l)) := by
  have phases : z.phase = .absent ∨ z.phase = .starting := by
    have short := laws.short_of entry (by rw [Entry.isStartUp, kind])
    rw [kind] at short
    rcases short with ⟨is, -⟩ | ⟨is, -⟩ | ⟨is, -⟩ | ⟨-, is⟩
    · exact .inl is
    · exact .inr is
    · exact .inr is
    · cases is
  have short : z.phase ≠ .running ∧ z.phase ≠ .disabled := by rcases phases with is | is <;> rw [is] <;> decide
  have started : (s.lane l).phase ≠ .running ∧ (s.lane l).phase ≠ .disabled := alike.phase ▸ short
  have calm := laws.calm short.1
  have unsent := laws.sent_none entry (by rw [kind]; decide)
  have rest : Lane.AtRest z.succeeded := ⟨rfl, rfl, rfl, unsent, (restActivity_eq _).symm⟩
  rw [setKnown_setLane]
  cases fits : matchesType (s.expectedType l) (some m) with
  | true =>
    rw [checkIdentified_fits (x := { z.succeeded with known := some m }) fits phases rfl
      (laws.unhurried short.1).probe (laws.list_startUp short.1)]
    refine .set (.short ?_ before started ⟨nofun, nofun⟩ nofun fun quiet => ?_) ?_
    · exact .of_start (.enable m rfl rfl rfl rfl rfl proper rfl)
        ⟨rest.exchange, rest.inProgress, rest.parity, rest.sent, rest.activity⟩ ⟨calm.slot, rfl, calm.waiters⟩
    · show (z.statusWanted || (_ && s.delivering)) = _
      rw [quiet, Bool.and_false, Bool.or_false, alike.wanted]
    · exact alike.desired
  | false =>
    rw [checkIdentified_unfit (x := { z.succeeded with known := some m }) fits]
    refine .set (.short ?_ before started ⟨nofun, nofun⟩ (fun _ => fits) fun quiet => ?_) ?_
    · exact .of_start (.mismatch m rfl rfl rfl rfl rfl proper rfl)
        ⟨rest.exchange, rest.inProgress, rest.parity, rest.sent, rest.activity⟩ ⟨calm.slot, rfl, calm.waiters⟩
    · show ((z.statusWanted || s.delivering) || s.delivering) = _
      rw [quiet, Bool.or_false, Bool.or_false, alike.wanted]
    · exact alike.desired

omit set lamps in
theorem checkEnabled_moved (before : LaneLaws (s.lane l)) (kind : e.kind = .enable) :
    LaneMoved s l (settleLamps s (checkEnabled (s.setLane l z.succeeded) l)) := by
  have step : z.phase = .starting ∧ z.startStep = some .enable := by
    have short := laws.short_of entry (by rw [Entry.isStartUp, kind])
    rw [kind] at short
    rcases short with ⟨-, is⟩ | ⟨-, -, is⟩ | ⟨is, step, -⟩ | ⟨-, is⟩
    · cases is
    · cases is
    · exact ⟨is, step⟩
    · cases is
  have short : z.phase ≠ .running := by rw [step.1]; decide
  have starting : (s.lane l).phase = .starting := alike.phase ▸ step.1
  have calm := laws.calm short
  have unsent := laws.sent_none entry (by rw [kind]; decide)
  obtain ⟨m, known⟩ := Option.isSome_iff_exists.1 (laws.phase.known.2 (.inr (.inr step.2)))
  have proper : m.proper := laws.phase.identity m known
  have rest : Lane.AtRest z.succeeded := ⟨rfl, rfl, rfl, unsent, (restActivity_eq _).symm⟩
  cases fits : matchesType (s.expectedType l) z.known with
  | true =>
    rw [checkEnabled_fits (x := z.succeeded) fits]
    exact .enters z.succeeded starting (before.hostWork_short (by rw [starting]; decide)) fits (laws.list_startUp short)
      alike.wanted rest ⟨calm.slot, rfl, calm.waiters⟩ ⟨m, known, proper⟩
  | false =>
    rw [checkEnabled_unfit (x := z.succeeded) fits]
    refine .set (.short ?_ before (by rw [starting]; decide) ⟨nofun, nofun⟩ (fun _ => fits) fun quiet => ?_) ?_
    · exact .of_start (.mismatch m rfl rfl rfl rfl known proper rfl)
        ⟨rest.exchange, rest.inProgress, rest.parity, rest.sent, rest.activity⟩ ⟨calm.slot, rfl, calm.waiters⟩
    · show ((z.statusWanted || s.delivering) || s.delivering) = _
      rw [quiet, Bool.or_false, Bool.or_false, alike.wanted]
    · exact alike.desired

theorem exchangeSucceeds_moved (before : LaneLaws (s.lane l))
    (proper : e.kind = .identify ∨ e.kind = .probeIdentify → m.proper) :
    LaneMoved s l (settleLamps s (exchangeSucceeds (s.setLane l z) l m)) := by
  rw [exchangeSucceeds_of entry]
  cases kind : e.kind with
  | identify => exact hostIdentified_moved alike lamps laws entry kind (proper (.inl kind))
  | rescan => exact rescanned_moved set alike laws entry kind
  | resetModule => exact resetSucceeds_moved alike lamps laws entry kind
  | lamp => exact lampSucceeds_moved set alike laws entry kind
  | probeIdentify => exact checkIdentified_moved alike laws entry before kind (proper (.inr kind))
  | enable => exact checkEnabled_moved alike laws entry before kind
  | disable =>
    have short : z.phase ≠ .running := by
      have starts := laws.short_of entry (by rw [Entry.isStartUp, kind])
      rcases starts with ⟨is, -⟩ | ⟨is, -⟩ | ⟨is, -⟩ | ⟨is, -⟩ <;> rw [is] <;> decide
    have internal : e.request = none := request_of_startUp (laws.running e entry).1 (by rw [Entry.isStartUp, kind])
    have lawful : LaneLaws z.succeeded :=
      laws.exchangeDropped (laws.enabled_of_entry entry) (laws.sent_none entry (by rw [kind]; decide)) (Nat.zero_lt_succ 2)
        fun counted => absurd rfl counted
    refine .alike set ⟨alike.phase, alike.known, alike.wanted, alike.desired, ?_⟩ lawful
    rw [← alike.work, laws.hostWork_short short, lawful.hostWork_short short]

end

end Sys2Proof.Machine
end

section
/-! How a lane moves in a reply position (R89 to R97), and every happening on a lane's wires or at its deadlines as a move of the
lane. -/

namespace Sys2Proof.Machine

set_option Elab.async false

/-! ## Exchanges and entries -/

section
variable {x : Lane} (laws : LaneLaws x) {ex : Exchange} (exchange : x.exchange = some ex) (awaiting : x.activity = .awaiting)
  {p : ReplyPosition} {rest : List ReplyPosition} (due : ex.due = p :: rest)
include laws exchange awaiting due

/-- Outside the position of a RESEND an entry is in progress. -/
theorem LaneLaws.entry_of_due (other : p ≠ .resent) : ∃ e, x.inProgress = some e := by
  have inExchange := laws.inExchange ex exchange
  exact Option.isSome_iff_exists.1 (inExchange.entry.2 (mt (inExchange.resent_iff awaiting due).2 other))

theorem LaneLaws.idle_of_resent (resent : p = .resent) : x.inProgress = none := by
  have inExchange := laws.inExchange ex exchange
  rw [← Option.not_isSome_iff_eq_none, inExchange.entry, not_not]
  exact (inExchange.resent_iff awaiting due).1 resent

/-- The last position of an IDENTIFY is the lamp count (R85). -/
theorem LaneLaws.last_of_identify {e : Entry} (entry : x.inProgress = some e)
    (kind : e.kind = .identify ∨ e.kind = .probeIdentify) (last : rest = []) : p = .lampCount := by
  have inExchange := laws.inExchange ex exchange
  have unsent : x.sent = none := laws.sent_none entry (by rcases kind with is | is <;> rw [is] <;> decide)
  have carried := inExchange.command e entry
  rw [unsent] at carried
  have command : ex.command = .identify := by
    rw [carried.2, Entry.command]
    rcases kind with is | is <;> rw [is]
  have among := (inExchange.awaiting awaiting).2
  rw [due, command, last] at among
  revert among
  cases p <;> decide

end

section
variable {s : State} {l : LaneId} {x : Lane}

theorem endExchange_idle (idle : x.inProgress = none) (failures : Nat) :
    ({ x with failures := failures } : Lane).endExchange = { x.ended with failures := failures } := by
  cases x
  simp only at idle
  subst idle
  simp only [Lane.endExchange_eq, Lane.ended, restActivity_eq] <;> rfl

/-! ## Reply positions (R89 to R93) -/

variable {ex : Exchange} {p : ReplyPosition} {rest : List ReplyPosition} (set : (s.lane l).SetFor (s.expectedType l))
  (laws : LaneLaws (s.lane l)) (awaits : Awaits (s.lane l) ex p rest)
include set laws awaits

theorem repeatCommand_moved :
    LaneMoved s l (settleLamps s (repeatCommand (s.setLane l (s.lane l).unframed) l ex)) := by
  have framed : LaneLaws (s.lane l).unframed := laws.framed awaits.awaiting none
  by_cases early : ex.attempt < 3
  · rw [repeatCommand_again early, State.lane_setLane_self, setLane_setLane]
    have attempt := (laws.inExchange ex awaits.exchange).attempt
    refine .alike set ⟨rfl, rfl, rfl, rfl, rfl⟩ ?_
    exact framed.taken awaits.exchange rfl (new := { ex with attempt := ex.attempt + 1, byteIndex := 0, typeTaken := 0 }) rfl
      ⟨Nat.le_add_left 1 _, early⟩ (ModuleCommand.bytes_pos _) s.time.uptime
  · rw [repeatCommand_fails early]
    exact exchangeFails_moved set framed awaits.exchange _

theorem fillPosition_moved {m : ModuleId} (other : p ≠ .resent)
    (type : p = .moduleType → 0x01#8 ≤ m.moduleType ∧ m.moduleType ≤ 0x7F#8) (proper : p = .lampCount → m.proper) :
    LaneMoved s l (settleLamps s (fillPosition (s.setLane l (s.lane l).unframed) l ex rest m)) := by
  have framed : LaneLaws (s.lane l).unframed := laws.framed awaits.awaiting none
  have alike : (s.lane l).Alike (s.lane l).unframed := ⟨rfl, rfl, rfl, rfl, rfl⟩
  cases is_rest : rest with
  | cons q rest =>
    rw [fillPosition_due, State.lane_setLane_self, setLane_setLane]
    refine .alike set ⟨rfl, rfl, rfl, rfl, rfl⟩ ?_
    exact framed.positionDue awaits.exchange awaits.awaiting (is_rest ▸ awaits.due) type _
  | nil =>
    by_cases more : ex.byteIndex + 1 < ex.command.bytes.length
    · rw [fillPosition_nextByte more, State.lane_setLane_self, setLane_setLane]
      refine .alike set ⟨rfl, rfl, rfl, rfl, rfl⟩ ?_
      exact framed.taken awaits.exchange rfl (new := { ex with byteIndex := ex.byteIndex + 1 }) rfl
        (laws.inExchange ex awaits.exchange).attempt more s.time.uptime
    · rw [fillPosition_last more]
      obtain ⟨e, entry⟩ := laws.entry_of_due awaits.exchange awaits.awaiting awaits.due other
      exact exchangeSucceeds_moved set alike ⟨rfl, rfl, ⟨rfl, rfl⟩, rfl⟩ framed entry laws
        fun kind => proper (laws.last_of_identify awaits.exchange awaits.awaiting awaits.due entry kind is_rest)

theorem fails_moved (k : LaneFault) :
    LaneMoved s l (settleLamps s (exchangeFails (s.setLane l (s.lane l).unframed) l k)) :=
  exchangeFails_moved set (laws.framed awaits.awaiting none) awaits.exchange k

theorem unframed_moved : LaneMoved s l (settleLamps s (s.setLane l (s.lane l).unframed)) :=
  .alike set ⟨rfl, rfl, rfl, rfl, rfl⟩ (laws.framed awaits.awaiting none)

theorem strayByte_moved {b : Byte} (event : b ∉ [0xB4#8, 0xB5, 0xBE, 0xBF]) :
    LaneMoved s l (settleLamps s (strayByte (s.setLane l (s.lane l).unframed) l b)) := by
  have framed : LaneLaws (s.lane l).unframed := laws.framed awaits.awaiting none
  have lane : (s.setLane l (s.lane l).unframed).lane l = (s.lane l).unframed := State.lane_setLane_self ..
  by_cases run : (s.lane l).phase = .running
  · by_cases empty : (s.lane l).slot = none
    · rw [strayByte_kept (by rw [lane]; exact run) (by rw [lane]; exact empty), lane, setLane_setLane]
      refine .alike set ⟨rfl, rfl, rfl, rfl, rfl⟩ ?_
      exact framed.strayKept awaits.awaiting run event
    · rw [strayByte_full (by rw [lane]; exact run) (by rw [lane]; exact empty)]
      exact fails_moved set laws awaits _
  · rw [strayByte_discarded (by rw [lane]; exact run)]
    exact unframed_moved set laws awaits

theorem ackReply_moved {b : Byte} (other : b ≠ 0xB5) (ack : p = .ack) :
    LaneMoved s l (settleLamps s (ackReply (s.setLane l (s.lane l).unframed) l ex rest b)) := by
  have fills := fillPosition_moved set laws awaits (m := ⟨ex.typeTaken, 0⟩) (by rw [ack]; decide)
    (fun is => by cases ack.symm.trans is) (fun is => by cases ack.symm.trans is)
  by_cases protocol : b ∈ [0xB4#8, 0xBE, 0xBF]
  · simp only [List.mem_cons, List.not_mem_nil, or_false] at protocol
    rcases protocol with is | is | is
    · have class_b : byteClass b = .ack := by rw [is]; exact byteClass_ack
      rw [ackReply_ack class_b]
      exact fills
    · have class_b : byteClass b = .resendReq := by rw [is]; exact byteClass_resendReq
      rw [ackReply_resendReq class_b]
      exact repeatCommand_moved set laws awaits
    · have class_b : byteClass b = .moduleError := by rw [is]; exact byteClass_moduleError
      rw [ackReply_moduleError class_b]
      exact fails_moved set laws awaits _
  · have event : b ∉ [0xB4#8, 0xB5, 0xBE, 0xBF] := by
      simp only [List.mem_cons, List.not_mem_nil, or_false, not_or] at protocol ⊢
      exact ⟨protocol.1, other, protocol.2⟩
    rcases byteClass_event event with code | code | illegal
    · rw [ackReply_code (.inl code)]
      exact strayByte_moved set laws awaits event
    · rw [ackReply_code (.inr code)]
      exact strayByte_moved set laws awaits event
    · rw [ackReply_illegal illegal]
      exact fails_moved set laws awaits _

/-! ## A RESEND exchange (R97) -/

omit set in
/-- The lane whose RESEND exchange has succeeded. -/
theorem resent_lawful (resent : p = .resent) : LaneLaws { (s.lane l).unframed.ended with failures := 0 } := by
  have framed : LaneLaws (s.lane l).unframed := laws.framed awaits.awaiting none
  have idle := laws.idle_of_resent awaits.exchange awaits.awaiting awaits.due resent
  exact framed.exchangeDropped (laws.enabled_of_exchange awaits.exchange) (framed.unsent idle) (Nat.zero_lt_succ 2)
    fun counted => absurd rfl counted

omit set in
theorem resent_alike (resent : p = .resent) : (s.lane l).Alike { (s.lane l).unframed.ended with failures := 0 } := by
  have idle := laws.idle_of_resent awaits.exchange awaits.awaiting awaits.due resent
  refine ⟨rfl, rfl, rfl, rfl, ?_⟩
  rw [hostWork_eq, hostWork_eq, idle]
  rfl

theorem resendDelivers_moved (resent : p = .resent) {b : Byte} (other : b ≠ 0xB5) :
    LaneMoved s l (settleLamps s (resendDelivers (s.setLane l (s.lane l).unframed) l b)) := by
  have idle := laws.idle_of_resent awaits.exchange awaits.awaiting awaits.due resent
  have ended : ({ (s.lane l).unframed.endExchange with failures := 0 } : Lane) =
      { (s.lane l).unframed.ended with failures := 0 } := endExchange_idle (x := (s.lane l).unframed) idle 0
  rw [resendDelivers_setLane, ended]
  exact receiveByte_moved set (resent_alike laws awaits resent) (resent_lawful laws awaits resent) rfl rfl other

theorem resendBad_moved (resent : p = .resent) :
    LaneMoved s l (settleLamps s (resendBad (s.setLane l (s.lane l).unframed) l)) := by
  have framed : LaneLaws (s.lane l).unframed := laws.framed awaits.awaiting none
  have idle := laws.idle_of_resent awaits.exchange awaits.awaiting awaits.due resent
  have inExchange := laws.inExchange ex awaits.exchange
  have command := (inExchange.resent_iff awaits.awaiting awaits.due).1 resent
  have lane : (s.setLane l (s.lane l).unframed).lane l = (s.lane l).unframed := State.lane_setLane_self ..
  have parity : (s.lane l).unframed.parityCount = (s.lane l).parityCount := rfl
  rcases inExchange.parity command with one | two
  · rw [resendBad_again (by rw [lane, parity, one]; decide), lane, setLane_setLane, parity, one]
    refine .alike set ⟨rfl, rfl, rfl, rfl, rfl⟩ ?_
    exact framed.resends idle rfl (inExchange.resendPhase command) (.inr rfl) (.inr rfl) s.time.uptime
  · rw [resendBad_lost (by rw [lane, parity, two]; decide), lane, setLane_setLane,
      endExchange_idle (x := (s.lane l).unframed) idle]
    exact .faulted set (resent_alike laws awaits resent) (resent_lawful laws awaits resent) .parity

/-! ## Frames in AWAITING -/

theorem replyByte_moved {b : Byte} (other : b ≠ 0xB5) :
    LaneMoved s l (settleLamps s (replyByte (s.setLane l (s.lane l).unframed) l ex b)) := by
  cases is : p with
  | ack =>
    rw [replyByte_ack (is ▸ awaits.due)]
    exact ackReply_moved set laws awaits other is
  | moduleType =>
    rw [replyByte_type (is ▸ awaits.due), if_neg (show ¬b = 0xB5 from other)]
    split
    · next type =>
      exact fillPosition_moved set laws awaits (by rw [is]; decide) (fun _ => type) fun lamp => by cases is.symm.trans lamp
    · exact fails_moved set laws awaits _
  | lampCount =>
    rw [replyByte_count (is ▸ awaits.due), if_neg (show ¬b = 0xB5 from other)]
    split
    · next count =>
      refine fillPosition_moved set laws awaits (by rw [is]; decide) (fun type => by cases is.symm.trans type) fun _ => ?_
      have inExchange := laws.inExchange ex awaits.exchange
      have among := (inExchange.awaiting awaits.awaiting).2
      have last : rest = [] := by
        rw [awaits.due, is] at among
        rcases ex.command.positions_cases with positions | positions | positions <;> rw [positions] at among <;>
          simp [List.suffix_cons_iff] at among
        exact among
      obtain ⟨least, most⟩ := inExchange.typeTaken (by rw [awaits.due, is, last])
      exact ⟨least, most, count⟩
    · exact fails_moved set laws awaits _
  | resent =>
    rw [replyByte_resent (is ▸ awaits.due)]
    split
    · exact repeatCommand_moved set laws awaits
    · split
      · exact fails_moved set laws awaits _
      · exact resendDelivers_moved set laws awaits is other

theorem badReplyFrame_moved : LaneMoved s l (settleLamps s (badReplyFrame (s.setLane l (s.lane l).unframed) l ex)) := by
  by_cases is : p = .resent
  · rw [badReplyFrame_resent (is ▸ awaits.due)]
    exact resendBad_moved set laws awaits is
  · rw [badReplyFrame_repeats awaits.due is]
    exact repeatCommand_moved set laws awaits

end

/-! ## Every happening on a lane -/

theorem Lane.startable_eq_some {x : Lane} {e : Entry} (is : x.startable = some e) :
    ∃ rest, x.list = e :: rest ∧ x.activity = .idle ∧ x.slot = none ∧ e.fits x.phase = true := by
  unfold Lane.startable at is
  split at is
  · next o rest idle empty list =>
    split at is
    · next fits =>
      cases is
      exact ⟨rest, list, idle, empty, fits⟩
    · cases is
  · cases is

/-- A probe that falls due in ABSENT waits in the list (R105). -/
theorem LaneLaws.probed {x : Lane} (laws : LaneLaws x) (absent : x.phase = .absent) :
    LaneLaws { x with probeDue := none, list := [⟨.probeIdentify, none⟩] } where
  phase := { laws.phase with probe := nofun }
  list := .single rfl (by rw [absent]; rfl) rfl
  wire := { laws.wire with }
  inExchange ex is := { laws.inExchange ex is with }
  noExchange := laws.noExchange
  running := laws.running
  sent := laws.sent
  lamps := lampLaws_short (by rw [absent]; decide)

section
variable {s : State} {l : LaneId} (set : (s.lane l).SetFor (s.expectedType l)) (laws : LaneLaws (s.lane l))
include set laws

omit set in
theorem LaneLaws.awaits (awaiting : (s.lane l).activity = .awaiting) : ∃ ex p rest, Awaits (s.lane l) ex p rest := by
  obtain ⟨ex, exchange⟩ := Option.isSome_iff_exists.1 (laws.wire.exchange.2 (.inr awaiting))
  obtain ⟨p, rest, due⟩ := List.exists_cons_of_ne_nil ((laws.inExchange ex exchange).awaiting awaiting).1
  exact ⟨ex, p, rest, awaiting, exchange, due⟩

theorem disabledFrame_moved (disabled : (s.lane l).phase = .disabled) :
    LaneMoved s l (settleLamps s (s.setLane l { s.lane l with frame := none, activity := .off })) :=
  .alike set ⟨rfl, rfl, rfl, rfl, rfl⟩ (laws.disabledFrame disabled)

theorem goodFrameEnds_moved (b : Byte) : LaneMoved s l (settleLamps s (goodFrameEnds s l b)) := by
  have quiet (receiving : (s.lane l).activity = .receiving) : (s.lane l).exchange = none :=
    laws.exchange_none (by rw [receiving]; decide) (by rw [receiving]; decide)
  by_cases receiving : (s.lane l).activity = .receiving
  · by_cases disabled : (s.lane l).phase = .disabled
    · rw [goodFrameEnds_disabled receiving disabled]
      exact disabledFrame_moved set laws disabled
    · by_cases hello : b = 0xB5
      · rw [hello, goodFrameEnds_hello laws disabled (.inl receiving)]
        exact helloTaken_moved laws disabled
      · rw [goodFrameEnds_receiving receiving disabled]
        exact receiveByte_moved (w := (s.lane l).endFrame) set ⟨rfl, rfl, rfl, rfl, rfl⟩ (laws.endFrame (quiet receiving) disabled) (quiet receiving)
          rfl hello
  · by_cases awaiting : (s.lane l).activity = .awaiting
    · obtain ⟨ex, p, rest, awaits⟩ := laws.awaits awaiting
      by_cases hello : b = 0xB5
      · have enabled := laws.enabled_of_exchange awaits.exchange
        rw [hello, goodFrameEnds_hello laws enabled (.inr awaiting)]
        exact helloTaken_moved laws enabled
      · rw [goodFrameEnds_awaits awaits]
        exact replyByte_moved set laws awaits hello
    · have same : goodFrameEnds s l b = s := by
        unfold goodFrameEnds
        dsimp only
        split <;> simp_all
      rw [same]
      exact .settled_same laws set

theorem badFrameEnds_moved : LaneMoved s l (settleLamps s (badFrameEnds s l)) := by
  have quiet (receiving : (s.lane l).activity = .receiving) : (s.lane l).exchange = none :=
    laws.exchange_none (by rw [receiving]; decide) (by rw [receiving]; decide)
  by_cases receiving : (s.lane l).activity = .receiving
  · by_cases disabled : (s.lane l).phase = .disabled
    · rw [badFrameEnds_disabled receiving disabled]
      exact disabledFrame_moved set laws disabled
    · rw [badFrameEnds_receiving receiving disabled]
      exact badFrameOutside_moved (w := (s.lane l).endFrame) set ⟨rfl, rfl, rfl, rfl, rfl⟩ (laws.endFrame (quiet receiving) disabled) (quiet receiving)
        rfl disabled
  · by_cases awaiting : (s.lane l).activity = .awaiting
    · obtain ⟨ex, p, rest, awaits⟩ := laws.awaits awaiting
      rw [badFrameEnds_awaits awaits]
      exact badReplyFrame_moved set laws awaits
    · have same : badFrameEnds s l = s := by
        unfold badFrameEnds
        dsimp only
        split <;> simp_all
      rw [same]
      exact .settled_same laws set

theorem frameBreached_moved : LaneMoved s l (settleLamps s (frameBreached s l)) := by
  by_cases overdue : (s.lane l).frameOverdue s.time.uptime = true
  · by_cases receiving : (s.lane l).activity = .receiving
    · have quiet : (s.lane l).exchange = none :=
        laws.exchange_none (by rw [receiving]; decide) (by rw [receiving]; decide)
      rw [frameBreached_receiving overdue receiving]
      cases phase : (s.lane l).phase with
      | disabled => exact disabledFrame_moved set laws phase
      | absent => exact .alike (y := (s.lane l).endFrame) set ⟨rfl, rfl, rfl, rfl, rfl⟩ (laws.endFrame quiet (by rw [phase]; decide))
      | starting | running | mismatch =>
        exact .faulted (y := (s.lane l).endFrame) set ⟨rfl, rfl, rfl, rfl, rfl⟩ (laws.endFrame quiet (by rw [phase]; decide)) .rxTimeout
    · by_cases awaiting : (s.lane l).activity = .awaiting
      · obtain ⟨ex, p, rest, awaits⟩ := laws.awaits awaiting
        rw [frameBreached_awaiting overdue awaiting]
        exact fails_moved set laws awaits _
      · have same : frameBreached s l = s := by
          unfold frameBreached
          simp only [overdue]
          split <;> simp_all
        rw [same]
        exact .settled_same laws set
  · have same : frameBreached s l = s := by
      unfold frameBreached
      simp only [overdue]
    rw [same]
    exact .settled_same laws set

theorem frameStarts_moved : LaneMoved s l (frameStarts s l) := by
  unfold frameStarts
  split
  · next idle =>
    have lawful := laws.receives idle s.time.uptime
    exact .stays s _ [] (.nil s) (.within set lawful rfl rfl (fun _ => rfl) (List.Perm.refl _))
  · next awaiting =>
    have lawful := laws.framed awaiting (if (s.lane l).frame.isNone then some s.time.uptime else (s.lane l).frame)
    exact .stays s _ [] (.nil s) (.within set lawful rfl rfl (fun _ => rfl) (List.Perm.refl _))
  · exact .same laws set

theorem exchangeStarts_moved : LaneMoved s l (exchangeStarts s l) := by
  unfold exchangeStarts
  split
  · next e startable =>
    obtain ⟨rest, list, idle, empty, fits⟩ := Lane.startable_eq_some startable
    have lawful := laws.begins list idle s.time.uptime
    refine .stays s _ [] (.nil s) (.within set lawful rfl rfl (fun _ => rfl) ?_)
    have entry := (laws.noExchange (laws.exchange_none (by rw [idle]; decide) (by rw [idle]; decide))).1
    rw [hostWork_eq, hostWork_eq, entry, list]
    show ([] ++ (e.request.toList ++ ((s.lane l).list.drop 1).filterMap (fun e : Entry => e.request) ++ _)).Perm _
    rw [list]
    cases request : e.request <;> simp [request] <;> rfl
  · exact .same laws set

theorem firstClock_moved : LaneMoved s l (firstClock s l) := by
  unfold firstClock
  split
  · next ex exchange =>
    obtain ⟨sending, exchange⟩ := Lane.exchangeIn_eq_some exchange
    split
    · exact .same laws set
    · exact .stays s _ [] (.nil s) (.within set (laws.clocked exchange sending _) rfl rfl (fun _ => rfl) (List.Perm.refl _))
  · exact .same laws set

theorem byteCompletes_moved : LaneMoved s l (byteCompletes s l) := by
  unfold byteCompletes
  split
  · next ex exchange =>
    obtain ⟨-, exchange⟩ := Lane.exchangeIn_eq_some exchange
    split
    · exact .stays s _ [] (.nil s) (.within set (laws.byteCompleted exchange _) rfl rfl (fun _ => rfl) (List.Perm.refl _))
    · exact .same laws set
  · exact .same laws set

theorem exchangeFails_now {ex : Exchange} (exchange : (s.lane l).exchange = some ex) (k : LaneFault) :
    LaneMoved s l (settleLamps s (exchangeFails s l k)) := by
  have moved := exchangeFails_moved (frame := (s.lane l).frame) set laws exchange k
  rwa [setLane_lane_self] at moved

theorem clockExpires_moved : LaneMoved s l (settleLamps s (clockExpires s l)) := by
  unfold clockExpires
  split
  · next ex exchange =>
    obtain ⟨-, exchange⟩ := Lane.exchangeIn_eq_some exchange
    split
    · exact exchangeFails_now set laws exchange _
    · exact .settled_same laws set
  · exact .settled_same laws set

theorem byteExpires_moved : LaneMoved s l (settleLamps s (byteExpires s l)) := by
  unfold byteExpires
  split
  · next ex exchange =>
    obtain ⟨-, exchange⟩ := Lane.exchangeIn_eq_some exchange
    split
    · exact exchangeFails_now set laws exchange _
    · exact .settled_same laws set
  · exact .settled_same laws set

theorem replyExpires_moved : LaneMoved s l (settleLamps s (replyExpires s l)) := by
  unfold replyExpires
  split
  · next ex exchange =>
    obtain ⟨-, exchange⟩ := Lane.exchangeIn_eq_some exchange
    split
    · exact exchangeFails_now set laws exchange _
    · exact .settled_same laws set
  · exact .settled_same laws set

theorem probeFallsDue_moved : LaneMoved s l (probeFallsDue s l) := by
  unfold probeFallsDue
  dsimp only
  split
  · next due =>
    obtain ⟨absent, -⟩ := due
    have short : (s.lane l).phase ≠ .running := by rw [absent]; decide
    have lane : queueStartUp (s.modLane l fun x => { x with probeDue := none }) l .probeIdentify =
        s.setLane l { s.lane l with probeDue := none, list := [⟨.probeIdentify, none⟩] } := by
      rw [modLane_eq, queueStartUp_setLane]
      dsimp only
      rw [laws.list_startUp short]
      rfl
    rw [lane]
    have probed := laws.probed absent
    refine .stays s _ [] (.nil s) (.within set probed rfl rfl (fun _ => rfl) ?_)
    rw [laws.hostWork_short short, List.nil_append, probed.hostWork_short short]
  · exact .same laws set

theorem helloExpires_moved : LaneMoved s l (helloExpires s l) := by
  unfold helloExpires
  dsimp only
  split
  · next passed =>
    obtain ⟨starting, step, -⟩ := passed
    have short : (s.lane l).phase ≠ .running := by rw [starting]; decide
    have enabled : (s.lane l).phase ≠ .disabled := by rw [starting]; decide
    have calm := laws.calm short
    have idle : (s.lane l).inProgress = none := by
      cases entry : (s.lane l).inProgress with
      | none => rfl
      | some e =>
        have may := (laws.running e entry).2
        rw [starting, step] at may
        cases kind : e.kind <;> simp [Entry.mayRun, Entry.mayWait, kind] at may
    have ended : (if (s.lane l).exchange.isSome then s.modLane l Lane.endExchange else s) =
        s.setLane l { (s.lane l).ended with failures := (s.lane l).failures } := by
      rw [← endExchange_idle idle]
      split
      · rfl
      · next none =>
        have none : (s.lane l).exchange = .none := by simpa using none
        have same : ({ s.lane l with failures := (s.lane l).failures } : Lane).endExchange = s.lane l :=
          laws.endExchange_of_none none enabled
        rw [same, setLane_lane_self]
    rw [ended, enterAbsent_setLane]
    refine .stays s _ [] (.nil s) (.short ?_ laws ⟨short, enabled⟩ ⟨nofun, nofun⟩ nofun fun quiet => ?_)
    · exact .of_start (.absent rfl rfl rfl rfl (.inr rfl))
        ⟨rfl, rfl, rfl, laws.orderly.sent short, (restActivity_eq _).symm⟩ ⟨calm.slot, rfl, calm.waiters⟩
    · show ((s.lane l).statusWanted || s.delivering) = _
      rw [quiet, Bool.or_false]
  · exact .same laws set

/-- What happens on the wires of a lane or at its deadlines moves the lane in one of the three ways. -/
theorem LaneHappening.moved {t : State} (h : LaneHappening s l t) : LaneMoved s l t := by
  cases h
  case frameStart => exact frameStarts_moved set laws
  case goodFrame b => exact goodFrameEnds_moved set laws b
  case badFrame => exact badFrameEnds_moved set laws
  case breach => exact frameBreached_moved set laws
  case exchangeStart => exact exchangeStarts_moved set laws
  case noClock => exact clockExpires_moved set laws
  case byteComplete => exact byteCompletes_moved set laws
  case txTimeout => exact byteExpires_moved set laws
  case noReply => exact replyExpires_moved set laws
  case probeDue => exact probeFallsDue_moved set laws
  case helloDeadline => exact helloExpires_moved set laws
  case firstClock => exact firstClock_moved set laws

end

end Sys2Proof.Machine
end

section
/-! Lanes that keep their place: what requests and turns do to a lane beside its phase, its module and its host work. -/

namespace Sys2Proof.Machine

set_option Elab.async false

/-! ## Lanes that keep their place -/

/-- Lane `y` keeps what lane `x` keeps: its laws, its phase, its module and its host work; where delivery was OFF or is
OFF (`was`, `on`) its status-wanted flag stays lowered (R32). -/
structure Lane.Keeps (was on : Bool) (x y : Lane) : Prop where
  laws : LaneLaws x → LaneLaws y
  phase : y.phase = x.phase
  known : y.known = x.known
  hostWork : y.hostWork = x.hostWork
  quiet : (was = false → x.statusWanted = false) → on = false → y.statusWanted = false

/-- Every lane keeps its place. -/
def LanesKept (s t : State) : Prop := ∀ l, (s.lane l).Keeps s.delivering t.delivering (t.lane l)

theorem Lane.Keeps.refl (was : Bool) (x : Lane) : x.Keeps was was x := ⟨id, rfl, rfl, rfl, fun quiet => quiet⟩

theorem Lane.Keeps.trans {was mid on : Bool} {x y z : Lane} (first : x.Keeps was mid y) (second : y.Keeps mid on z) :
    x.Keeps was on z :=
  ⟨second.laws ∘ first.laws, second.phase.trans first.phase, second.known.trans first.known,
    second.hostWork.trans first.hostWork, fun quiet => second.quiet (first.quiet quiet)⟩

theorem LanesKept.trans {s t u : State} (first : LanesKept s t) (second : LanesKept t u) : LanesKept s u :=
  fun l => (first l).trans (second l)

theorem LanesKept.of_same {s t : State} (lanes : t.lanes = s.lanes) (delivery : t.delivery = s.delivery) : LanesKept s t := by
  intro l
  have lane : t.lane l = s.lane l := by rw [State.lane, State.lane, lanes]
  have delivering : t.delivering = s.delivering := by rw [State.delivering, State.delivering, delivery]
  rw [lane, delivering]
  exact .refl _ _

/-- One lane changes. -/
theorem LanesKept.set {s : State} {l : LaneId} {y : Lane} (kept : (s.lane l).Keeps s.delivering s.delivering y) :
    LanesKept s (s.setLane l y) := by
  intro k
  show (s.lane k).Keeps s.delivering s.delivering _
  by_cases here : k = l
  · subst here
    rwa [State.lane_setLane_self]
  · rw [State.lane_setLane_ne _ here]
    exact .refl _ _

theorem complete_lanesKept (s : State) (i : SlotId) (r : Reply) : LanesKept s (complete s i r) := by
  obtain ⟨_, _, e⟩ := complete_frame s i r
  rw [e]
  exact .of_same rfl rfl

/-! ## Lamps -/

theorem hostWork_withDesired (x : Lane) (image : Half) : (x.withDesired image).hostWork = x.hostWork := by
  unfold Lane.withDesired
  split
  · rfl
  · rw [hostWork_queueLamp]
    rfl

theorem Lane.Keeps.withDesired (on : Bool) (x : Lane) (image : Half) : x.Keeps on on (x.withDesired image) where
  laws laws := laws.withDesired image
  phase := by unfold Lane.withDesired; split; · rfl
              · rw [queueLamp_list]
  known := by unfold Lane.withDesired; split; · rfl
              · rw [queueLamp_list]
  hostWork := hostWork_withDesired x image
  quiet quiet := by
    have same : (x.withDesired image).statusWanted = x.statusWanted := by
      unfold Lane.withDesired
      split
      · rfl
      · rw [queueLamp_list]
    rwa [same]

theorem Lane.Keeps.withLatch (on : Bool) (x : Lane) (first last : Option LaneFault) (count since : Byte) (owners : Half) :
    x.Keeps on on { x with
      firstFault := first, lastFault := last, faultCount := count, faultsSince := since, owners := owners } :=
  ⟨fun laws => laws.withLatch first last count since x.statusWanted owners, rfl, rfl, rfl, fun quiet => quiet⟩

theorem Lane.Keeps.hostLamps (on : Bool) (x : Lane) (mask values : Half) : x.Keeps on on (x.hostLamps mask values) :=
  (Lane.Keeps.withLatch on x _ _ _ _ _).trans (.withDesired on { x with owners := x.owners ||| mask } _)

theorem Lane.Keeps.releaseLamps (on : Bool) (x : Lane) (mask lit : Half) : x.Keeps on on (x.releaseLamps mask lit) :=
  (Lane.Keeps.withLatch on x _ _ _ _ _).trans (.withDesired on { x with owners := x.owners &&& ~~~mask } _)

theorem Lane.Keeps.queueRescan (on : Bool) (x : Lane) : x.Keeps on on x.queueRescan where
  laws := LaneLaws.queueRescan
  phase := by unfold Lane.queueRescan; split <;> rfl
  known := by unfold Lane.queueRescan; split <;> rfl
  hostWork := by
    unfold Lane.queueRescan
    split
    · simp [hostWork_eq]
    · rfl
  quiet quiet := by
    have same : x.queueRescan.statusWanted = x.statusWanted := by unfold Lane.queueRescan; split <;> rfl
    rwa [same]

/-- The lamps handed by a happening that changes no lane otherwise, settled. -/
theorem settledLamps_lanesKept {s t : State} (lanes : t.lanes = s.lanes) (delivery : t.delivery = s.delivery)
    (handed : List (LampPosition × Bool)) : LanesKept s (settleLamps s (t.writeLamps handed)) := by
  intro l
  have delivering : (settleLamps s (t.writeLamps handed)).delivering = s.delivering := by
    show t.delivering = s.delivering
    rw [State.delivering, State.delivering, delivery]
  rw [lane_settleLamps_writeLamps lanes, delivering]
  exact .withDesired _ _ _

/-! ## What requests do -/

/-- A request changes lane settings (R145, R147). -/
def Resettles (s u : State) : Prop :=
  (∃ l new, s.config.mode = .config ∧ new.expectedType ≤ 0x7F#8 ∧ u = changeSetting s l new) ∨
    ∃ image, s.config.mode = .config ∧ (image = s.config.storeCopy ∨ image = .defaults) ∧ u = replaceWorking s image

theorem openSession_lanesKept (s : State) (w : Nat) : LanesKept s (openSession s w) := by
  intro l
  rw [openSession, State.setAllWanted, State.lane_mapLanes]
  have on : ((({ s with
      queue := { s.queue with next := 0 }
      delivery := ⟨.on, w, 0, none, 0⟩ } : State)).mapLanes fun _ x => { x with statusWanted := true }).delivering = true := rfl
  rw [on]
  exact ⟨fun laws => laws.withLatch _ _ _ _ true _, rfl, rfl, rfl, nofun⟩

theorem closeSession_lanesKept (s : State) : LanesKept s (closeSession s) := by
  intro l
  have lane : (closeSession s).lane l = { s.lane l with statusWanted := false } := by
    rw [closeSession_eq]
    exact Vector.getElem_map ..
  rw [lane]
  exact ⟨fun laws => laws.withLatch _ _ _ _ false _, rfl, rfl, rfl, fun _ _ => rfl⟩

theorem admitAck_lanesKept {s : State} (delivering : s.delivery.state ≠ .off) (n w : Nat) : LanesKept s (admitAck s n w) := by
  have on : s.delivering = true := decide_eq_true delivering
  have kept (t : State) (lanes : t.lanes = s.lanes) (state : t.delivery.state ≠ .off) : LanesKept s t := by
    intro l
    have lane : t.lane l = s.lane l := by rw [State.lane, State.lane, lanes]
    have still : t.delivering = true := decide_eq_true state
    rw [lane, on, still]
    exact .refl _ _
  have state : (if decide (s.delivery.state = .stalled) then .on else s.delivery.state) ≠ DeliveryState.off := by
    split
    · decide
    · exact delivering
  unfold admitAck reconsiderAfter
  dsimp only
  split
  · obtain ⟨_, e⟩ := reconsider_frame { s with
      queue := { s.queue with records := s.queue.records.drop n }
      delivery :=
        { state := if decide (s.delivery.state = .stalled) then .on else s.delivery.state
          window := w
          inFlight := min (s.delivery.inFlight - n) w
          timer := if 0 < min (s.delivery.inFlight - n) w then some s.freshTimer else none
          retransmits := if 0 < n || decide (s.delivery.state = .stalled) then 0 else s.delivery.retransmits } }
    rw [e]
    exact kept _ rfl state
  · exact kept _ rfl state

theorem abortLearn_lanesKept (s : State) : LanesKept s (abortLearn s) := by
  unfold abortLearn
  split
  · exact (LanesKept.of_same rfl rfl : LanesKept s (clearLearn s)).trans (complete_lanesKept _ _ _)
  · exact .of_same rfl rfl

theorem leftConfig_lanesKept (s : State) : LanesKept s (leftConfig s) := by
  have up : LanesKept s (settleLamps s (exitUp s)) := by
    rw [exitUp_eq]
    exact settledLamps_lanesKept rfl rfl _
  refine up.trans fun l => ?_
  rw [leftConfig, State.lane_mapLanes]
  exact .queueRescan _ _

theorem editDefinitions_lanesKept (s : State) (image : ConfigImage) : LanesKept s (editDefinitions s image) := by
  have settled : LanesKept s (settleLamps s (replaceDefinitions s image)) := by
    rw [replaceDefinitions_eq]
    exact settledLamps_lanesKept rfl rfl _
  exact settled.trans (.of_same rfl rfl)

/-- What a request does changes lane settings, or leaves every lane in its place. -/
theorem Worked.lanesKept {s u : State} (work : Worked s u) : Resettles s u ∨ LanesKept s u := by
  cases work
  case nothing => exact .inr (.of_same rfl rfl)
  case opened w _ _ _ => exact .inr (openSession_lanesKept s w)
  case acked n w _ delivering _ => exact .inr (admitAck_lanesKept delivering n w)
  case closed => exact .inr (closeSession_lanesKept s)
  case lampsWritten l mask values _ => exact .inr (.set (.hostLamps _ _ _ _))
  case lampsReleased l mask => exact .inr (.set (.releaseLamps _ _ _ _))
  case faultCleared l => exact .inr (.set (.withLatch _ _ _ _ _ _ _))
  case configEntered => exact .inr (settledLamps_lanesKept rfl rfl _)
  case configLeft =>
    refine .inr (((abortLearn_lanesKept s).trans ?_).trans (leftConfig_lanesKept _))
    exact .of_same rfl rfl
  case edited image _ _ _ => exact .inr (editDefinitions_lanesKept s image)
  case worked image _ _ _ _ => exact .inr (.of_same rfl rfl)
  case laneSet l new config type => exact .inl (.inl ⟨l, new, config, type, rfl⟩)
  case replaced image config which => exact .inl (.inr ⟨image, config, which, rfl⟩)

/-! ## What turns do -/

theorem LaneLaws.slotTaken {x : Lane} (laws : LaneLaws x) : LaneLaws x.slotTaken where
  phase := { laws.phase with slot := nofun, slotByte := nofun }
  list := { laws.list with }
  wire := by
    obtain ⟨exchange, frame, receiving, idle, held, off, disabled⟩ := laws.wire
    constructor <;> cases is : x.activity <;> simp_all [Lane.slotTaken]
  inExchange ex is :=
    { laws.inExchange ex is with
      sending := fun sending => (laws.inExchange ex is).sending (by
        revert sending; cases act : x.activity <;> simp [Lane.slotTaken, act])
      awaiting := fun awaiting => (laws.inExchange ex is).awaiting (by
        revert awaiting; cases act : x.activity <;> simp [Lane.slotTaken, act]) }
  noExchange := laws.noExchange
  running := laws.running
  sent := laws.sent
  lamps := { laws.lamps with }

theorem Lane.Keeps.slotTaken (on : Bool) (x : Lane) : x.Keeps on on x.slotTaken :=
  ⟨LaneLaws.slotTaken, rfl, rfl, rfl, fun quiet => quiet⟩

/-- A completed code hands lamps, and changes no lane otherwise. -/
theorem Routed.lane {s u : State} {l : LaneId} {b : Byte} (routed : Routed s l b u) :
    u.delivery = s.delivery ∧
      ∃ handed, ∀ k, u.lane k = { s.lane k with desired := handedImage k (s.lane k) handed } := by
  cases routed
  case nothing => exact ⟨rfl, [], fun k => rfl⟩
  case learned w r _ _ =>
    obtain ⟨_, _, e⟩ := complete_frame (clearLearn s) w.slot r
    rw [e]
    exact ⟨rfl, [], fun k => rfl⟩
  case acted c d ext release _ _ =>
    unfold takeAction
    obtain ⟨_, e⟩ := actionState_frame s c d release
    rw [e]
    exact ⟨rfl, _, fun k => State.lane_writeLamps _ _ k⟩

/-- A lane of the state before a turn's end, once the lamps are settled. -/
theorem settled_withDesired {before x : Lane} (phase : x.phase = before.phase) (desired : x.desired = before.desired)
    (image : Half) (on : Bool) (kept : before.Keeps on on x) :
    before.Keeps on on (settleLane before { x with desired := image }) := by
  rw [settleLane_desired image phase desired]
  exact kept.trans (.withDesired _ _ _)

theorem Turned.lanesKept {s t : State} (turned : Turned s t) : LanesKept s (settleLamps s t) := by
  have kept {u : State} (kept : LanesKept s u) (desired : ∀ k, (u.lane k).desired = (s.lane k).desired) :
      LanesKept s (settleLamps s u) := by
    intro k
    have is : (settleLamps s u).lane k = u.lane k := by
      rw [lane_settleLamps, settleLane, if_neg fun enters => enters.1 ((kept k).phase ▸ enters.2), if_pos (desired k)]
    rw [is]
    exact kept k
  cases turned
  case idle => exact kept (.of_same rfl rfl) fun _ => rfl
  case waits l _ => exact kept (.of_same rfl rfl) fun _ => rfl
  case status l _ _ _ =>
    have lanes : LanesKept s (advanceStart (statusTurn s l) l) := by
      rw [statusTurn, placeRecord_eq]
      exact .set ⟨fun laws => laws.withLatch _ _ _ _ false _, rfl, rfl, rfl, fun _ _ => rfl⟩
    refine kept lanes fun k => ?_
    rw [statusTurn, placeRecord_eq]
    show (State.lane (State.setLane _ l _) k).desired = _
    rw [State.lane_setLane]
    split
    · next here => subst here; rfl
    · rfl
  case byte l b p u _ _ _ _ routed =>
    obtain ⟨delivery, handed, lane⟩ := routed.lane
    have delivering : (settleLamps s (advanceStart ((placeRecord (u.setPrefix l p) (turnEvent s l)).modLane l Lane.slotTaken) l)).delivering =
        s.delivering := by
      rw [placeRecord_eq, State.delivering, State.delivering, ← delivery]
      rfl
    intro k
    have is : (advanceStart ((placeRecord (u.setPrefix l p) (turnEvent s l)).modLane l Lane.slotTaken) l).lane k =
        { (if k = l then (s.lane l).slotTaken else s.lane k) with desired := handedImage k (s.lane k) handed } := by
      rw [placeRecord_eq]
      refine (State.lane_modLane _ l k _).trans ?_
      split
      · next here =>
        subst here
        show (u.lane k).slotTaken = _
        rw [lane k]
        rfl
      · exact lane k
    rw [lane_settleLamps, is, delivering]
    split
    · next here =>
      subst here
      exact settled_withDesired (before := s.lane k) (x := (s.lane k).slotTaken) rfl rfl _ _ (.slotTaken _ _)
    · exact settled_withDesired rfl rfl _ _ (.refl _ _)

end Sys2Proof.Machine
end

section
/-! SET-LANE as a replacement of the working configuration (R115, R145, R147), and what lanes become when they take their settings. -/

namespace Sys2Proof.Machine

set_option Elab.async false

/-! ## Laws that placing a request keeps -/

/-- The laws of a state that are not about requests; they hold while a request is carried out. -/
structure WorkLaws (s : State) : Prop where
  running : s.line = .running
  delivery : DeliveryLaws s
  lanes : ∀ l, LaneLaws (s.lane l)
  images : ImageLaws s
  store : StoreLaws s
  controls : ControlLaws s
  settings : SettingLaws s

theorem SafeState.works {s : State} (safe : SafeState s) (running : s.line = .running) : WorkLaws s :=
  ⟨running, safe.delivery, safe.lanes running, safe.images, safe.store, safe.controls, safe.settings⟩

theorem WorkLaws.placed {s : State} (laws : WorkLaws s) (i : SlotId) (q : RequestId) : WorkLaws (placeRequest s i q) where
  running := laws.running
  delivery := laws.delivery.of_same_config (.of_eq rfl rfl rfl) rfl
  lanes := laws.lanes
  images := { laws.images with }
  store := { laws.store with }
  controls := { laws.controls with }
  settings := { laws.settings with }

section
variable {s : State} (laws : WorkLaws s) (config : s.config.mode = .config)
include laws config

theorem WorkLaws.off : s.delivery.state = .off := laws.delivery.onlyInRun (by rw [config]; nofun)

theorem WorkLaws.quiet : s.delivering = false := by
  rw [State.delivering, laws.off config]
  rfl

theorem WorkLaws.free : s.translator.waiting = none := by
  by_contra waits
  exact (laws.delivery.waits waits).1 (laws.off config)

theorem WorkLaws.unknown (k : ControlId) : (s.control k).physical = .unknown := laws.controls.physical_config config k

/-- In CONFIG mode REVERT and LOAD-DEFAULTS leave the replaced state (R147). -/
theorem WorkLaws.replaces (image : ConfigImage) : replaceWorking s image = replaced s image :=
  replaceWorking_eq (laws.quiet config) (laws.free config) (realigned_unknown (laws.unknown config))
    fun l => (laws.lanes l).orderly

end

/-! ## SET-LANE as a replacement -/

theorem flatMap_of_others {α β : Type} {ls : List α} {f : α → List β} {a : α} (once : ls.Nodup) (listed : a ∈ ls)
    (others : ∀ b, b ≠ a → f b = []) : ls.flatMap f = f a := by
  induction ls with
  | nil => cases listed
  | cons b ls ih =>
    obtain ⟨fresh, once⟩ := List.nodup_cons.1 once
    rw [List.flatMap_cons]
    by_cases here : b = a
    · subst here
      have rest : ls.flatMap f = [] :=
        List.flatMap_eq_nil_iff.2 fun c mem => others c fun same => fresh (same ▸ mem)
      rw [rest, List.append_nil]
    · have mem : a ∈ ls := (List.mem_cons.1 listed).resolve_left (Ne.symm here)
      rw [others b here, ih once mem, List.nil_append]

/-- Where only lane `l` has a setting to take, taking all settings is taking that one. -/
theorem settingsTaken_single {b : State} {old : Vector LaneSetting 8} {l : LaneId}
    (kept : ∀ k, k ≠ l → (b.lane k).settingTaken old[k] b.config.working.lanes[k] = b.lane k)
    (stays : ∀ k, k ≠ l → leavesBy b old k = false) :
    settingsTaken b old (List.finRange 8) = settingsTaken b old [l] := by
  have once := List.nodup_finRange 8
  have listed := List.mem_finRange l
  have work : settingsWork b old (List.finRange 8) = settingsWork b old [l] := by
    rw [settingsWork, settingsWork, flatMap_of_others once listed fun k other => by rw [stays k other]; rfl]
    simp
  have lamps : settingsLamps b old (List.finRange 8) = settingsLamps b old [l] := by
    rw [settingsLamps, settingsLamps, flatMap_of_others once listed fun k other => by rw [stays k other]; rfl]
    simp
  have prefixes : settingsPrefixes b old (List.finRange 8) = settingsPrefixes b old [l] := by
    refine Vector.ext fun k low => ?_
    by_cases here : (⟨k, low⟩ : LaneId) = l
    · simp [settingsPrefixes, here]
    · simp [settingsPrefixes, stays _ here]
  have taken : takenLane b old (List.finRange 8) = takenLane b old [l] := by
    refine funext fun k => ?_
    rw [takenLane, takenLane, if_pos (List.mem_finRange k)]
    split
    · rfl
    · next other => exact kept k fun here => other (List.mem_singleton.2 here)
  have lanes : settingsLanes b old (List.finRange 8) = settingsLanes b old [l] := by
    rw [settingsLanes, settingsLanes, lamps, taken]
  rw [settingsTaken, settingsTaken, work, prefixes, lanes]

/-- The image that SET-LANE makes. -/
def withSetting (image : ConfigImage) (l : LaneId) (new : LaneSetting) : ConfigImage :=
  { image with lanes := image.lanes.set l new }

theorem wf_withSetting {image : ConfigImage} {l : LaneId} {new : LaneSetting} (wf : image.wf)
    (range : new.expectedType ≤ 0x7F#8) : (withSetting image l new).wf := by
  obtain ⟨rising, defs, bindings, lamps, members, types, rest⟩ := wf
  refine ⟨rising, defs, bindings, lamps, members, fun k => ?_, rest⟩
  show ((image.lanes.set l new)[k]).expectedType ≤ 0x7F#8
  by_cases here : l = k
  · subst here
    simpa using range
  · have apart : l.val ≠ k.val := fun same => here (Fin.ext same)
    rw [show (image.lanes.set l new)[k] = image.lanes[k] from Vector.getElem_set_ne _ _ apart]
    exact types k

/-- The same controls leave the Control Table as it is. -/
theorem realigned_same {s : State} (laws : ControlLaws s) (unknown : ∀ k, (s.control k).physical = .unknown)
    {image : ConfigImage} (same : image.controls = s.config.working.controls) :
    realigned s image = { s with config := { s.config with working := image } } := by
  have self := realigned_self laws unknown
  have table : (realigned s image).table = (realigned s s.config.working).table := by
    obtain ⟨_, controls, _, _, _⟩ := image
    cases (show controls = s.config.working.controls from same)
    rfl
  have parts : realigned s image =
      { s with config := { s.config with working := image }, table := (realigned s image).table } := rfl
  rw [parts, table, self]

theorem replaceDefinitions_same {s : State} (laws : ControlLaws s) (unknown : ∀ k, (s.control k).physical = .unknown)
    {image : ConfigImage} (same : image.controls = s.config.working.controls) :
    replaceDefinitions s image = { s with config := { s.config with working := image } } := by
  have changed : changedControls s image = [] := by
    refine List.eq_nil_iff_forall_not_mem.2 fun k listed => ?_
    rw [mem_changedControls_iff, same] at listed
    exact listed rfl
  have nothing (t : State) : t.writeLamps [] = t := by
    have lanes : (t.writeLamps []).lanes = t.lanes := State.lanes_ext fun k => State.lane_writeLamps _ _ k
    exact congrArg (fun lanes => ({ t with lanes := lanes } : State)) lanes
  rw [replaceDefinitions_eq, changed, realigned_same laws unknown same]
  exact nothing _

theorem settingsTaken_recomputeDirty (b : State) (old : Vector LaneSetting 8) (ls : List LaneId) :
    settingsTaken (recomputeDirty b) old ls = recomputeDirty (settingsTaken b old ls) := by
  have ended : completeAll (recomputeDirty b) (settingsWork b old ls) (bare .aborted) =
      { completeAll b (settingsWork b old ls) (bare .aborted) with config := (recomputeDirty b).config } := by
    have all := completeAll_replaced b (recomputeDirty b).config b.table b.lanes (settingsWork b old ls) (bare .aborted)
    rw [completeAll_outline b] at all ⊢
    exact all
  have config : (settingsTaken b old ls).config = b.config := by
    rw [settingsTaken, completeAll_outline]
  have parts (t : State) (same : t.config = b.config) :
      recomputeDirty t = { t with config := (recomputeDirty b).config } := by
    rw [recomputeDirty, recomputeDirty, same]
  rw [parts _ config]
  exact congrArg (fun u : State => { u with
    lanes := settingsLanes b old ls, translator := { b.translator with prefixes := settingsPrefixes b old ls } }) ended

/-- SET-LANE replaces the working configuration by the one with the new setting (R145, R147). -/
theorem WorkLaws.laneSet_replaces {s : State} (laws : WorkLaws s) (config : s.config.mode = .config) (l : LaneId)
    (new : LaneSetting) : changeSetting s l new = replaced s (withSetting s.config.working l new) := by
  have unknown := laws.unknown config
  have agrees := laws.settings.enabled (by rw [config]; decide)
  have setting (k : LaneId) (other : k ≠ l) :
      (withSetting s.config.working l new).lanes[k] = s.config.working.lanes[k] := by
    have apart : l.val ≠ k.val := fun same => other (Fin.ext same.symm)
    exact Vector.getElem_set_ne l.isLt k.isLt apart
  generalize is_image : withSetting s.config.working l new = image at setting ⊢
  have controls : image.controls = s.config.working.controls := by rw [← is_image]; rfl
  have worked : setWorking s image = recomputeDirty (replaceDefinitions s image) := by
    rw [replaceDefinitions_same laws.controls unknown controls]
    rfl
  have changed : changeSetting s l new = settleLamps s (applySetting (setWorking s image) l s.config.working.lanes[l]) := by
    rw [← is_image]
    rfl
  have listed : ∀ e ∈ (setWorking s image).table.entries, e.2.physical = .unknown := by
    have all := realigned_unknown (image := image) unknown
    rwa [realigned_same laws.controls unknown controls] at all
  have first := applySetting_settingsTaken (s := setWorking s image) (old := s.config.working.lanes) (ls := []) (l := l)
    (laws.quiet config) (laws.free config) listed (laws.lanes l).orderly (by simp)
  rw [settingsTaken_nil, List.nil_append, ← settingsTaken_single (l := l) (fun k other => ?_) fun k other => ?_] at first
  · rw [changed, first, worked, settingsTaken_recomputeDirty]
    rfl
  · show (s.lane k).settingTaken s.config.working.lanes[k] image.lanes[k] = s.lane k
    rw [setting k other]
    exact settingTaken_self (agrees k)
  · show (s.lane k).endedBy s.config.working.lanes[k] image.lanes[k] = false
    rw [setting k other]
    exact endedBy_self (agrees k)

end Sys2Proof.Machine
end

section
/-! What a lane becomes when it takes its setting (R115), and the lanes of a replaced working configuration (R147). -/

namespace Sys2Proof.Machine

set_option Elab.async false

/-! ## One lane -/

/-- The ways in which a lane takes its setting (R115). -/
inductive Lane.Takes (x : Lane) (old new : LaneSetting) : Lane → Prop where
  | staysDisabled : new.enabled = false → x.phase = .disabled → x.Takes old new x
  | disables : new.enabled = false → x.phase ≠ .disabled → x.Takes old new { x.stopped with
      phase := .disabled, known := none, list := [], activity := if x.frame.isSome then .receiving else .off }
  | enables : new.enabled = true → x.phase = .disabled → x.Takes old new { x with
      phase := .absent, list := [⟨.probeIdentify, none⟩], activity := if x.frame.isSome then .receiving else .idle }
  | mismatches : new.enabled = true → x.phase = .running → matchesType new.expectedType x.known = false →
      new.expectedType ≠ old.expectedType → x.Takes old new { (x.stopped.withFault .typeMismatch false) with
        phase := .mismatch, list := [⟨.disable, none⟩], activity := if x.frame.isSome then .receiving else .idle }
  | fits : new.enabled = true → x.phase = .mismatch → x.Takes old new { x with
      phase := .starting, startStep := some .enable, list := [⟨.enable, none⟩] }
  | stays : new.enabled = true → x.phase ≠ .disabled →
      (x.phase = .running → new.expectedType = old.expectedType ∨ matchesType new.expectedType x.known = true) →
      (x.phase = .mismatch → new.expectedType = old.expectedType ∨ matchesType new.expectedType x.known = false) →
      x.Takes old new x

theorem Lane.settingTaken_takes (x : Lane) (old new : LaneSetting) : x.Takes old new (x.settingTaken old new) := by
  cases on : new.enabled with
  | false =>
    by_cases disabled : x.phase = .disabled
    · rw [Lane.settingTaken_disabled on disabled]
      exact .staysDisabled on disabled
    · rw [Lane.settingTaken_disables on disabled]
      exact .disables on disabled
  | true =>
    by_cases disabled : x.phase = .disabled
    · rw [Lane.settingTaken_enables on disabled]
      exact .enables on disabled
    by_cases same : new.expectedType = old.expectedType
    · rw [Lane.settingTaken_kept on disabled (fun _ => .inl same) fun _ => .inl same]
      exact .stays on disabled (fun _ => .inl same) fun _ => .inl same
    by_cases leaves : x.phase = .running ∧ matchesType new.expectedType x.known = false
    · rw [Lane.settingTaken_mismatch on leaves.1 same leaves.2]
      exact .mismatches on leaves.1 leaves.2 same
    by_cases enters : x.phase = .mismatch ∧ matchesType new.expectedType x.known = true
    · rw [Lane.settingTaken_fits on enters.1 same enters.2]
      exact .fits on enters.1
    have runs (run : x.phase = .running) : matchesType new.expectedType x.known = true := by
      simpa using not_and.1 leaves run
    have differs (mismatch : x.phase = .mismatch) : matchesType new.expectedType x.known = false := by
      simpa using not_and.1 enters mismatch
    rw [Lane.settingTaken_kept on disabled (fun run => .inr (runs run)) fun mismatch => .inr (differs mismatch)]
    exact .stays on disabled (fun run => .inr (runs run)) fun mismatch => .inr (differs mismatch)

section
variable {x y : Lane} {old new : LaneSetting} (takes : x.Takes old new y)
include takes

/-- A lane that takes its setting keeps its laws. -/
theorem Lane.Takes.laws (laws : LaneLaws x) : LaneLaws y := by
  cases takes
  case staysDisabled => exact laws
  case disables => exact .disabled rfl rfl rfl rfl rfl rfl rfl rfl rfl rfl ⟨rfl, rfl, rfl⟩ rfl
  case enables on disabled =>
    have short : x.phase ≠ .running := by rw [disabled]; decide
    have none : x.exchange = none :=
      laws.exchange_none (by rcases laws.wire.disabled disabled with is | is <;> rw [is] <;> decide)
        (by rcases laws.wire.disabled disabled with is | is <;> rw [is] <;> decide)
    obtain ⟨entry, parity⟩ := laws.noExchange none
    have calm := laws.calm short
    have step := laws.orderly.noStep (by rw [disabled]; decide)
    have known : x.known = .none := by
      rw [← Option.not_isSome_iff_eq_none, laws.phase.known, step, disabled]
      decide
    refine .of_start (.absent rfl step (laws.orderly.noHello (by rw [disabled]; decide) short) known (.inr rfl))
      ⟨none, entry, parity, laws.unsent entry, ?_⟩ ⟨calm.slot, calm.failures, calm.waiters⟩
    simp [restActivity, calm.slot]
  case mismatches on run unfit _ =>
    obtain ⟨m, known⟩ := Option.isSome_iff_exists.1 (laws.phase.known.2 (.inl run))
    refine .of_start (.mismatch m rfl rfl rfl rfl known (laws.phase.identity m known) rfl)
      ⟨rfl, rfl, rfl, rfl, rfl⟩ ⟨rfl, rfl, rfl⟩
  case fits on mismatch => exact laws.fitted mismatch
  case stays => exact laws

/-- It is DISABLED exactly when its setting disables it (R115). -/
theorem Lane.Takes.disabled_iff : y.phase = .disabled ↔ new.enabled = false := by
  cases takes
  case staysDisabled off disabled => exact iff_of_true disabled off
  case disables off _ => exact iff_of_true rfl off
  case enables on _ => exact iff_of_false nofun (by rw [on]; decide)
  case mismatches on _ _ _ => exact iff_of_false nofun (by rw [on]; decide)
  case fits on _ => exact iff_of_false nofun (by rw [on]; decide)
  case stays on enabled _ _ => exact iff_of_false enabled (by rw [on]; decide)

/-- A RUNNING lane is one that was RUNNING and has no use for its setting. -/
theorem Lane.Takes.of_running (run : y.phase = .running) : y = x ∧ x.endedBy old new = false := by
  cases takes
  case staysDisabled _ disabled => cases disabled.symm.trans run
  case disables => cases run
  case enables => cases run
  case mismatches => cases run
  case fits => cases run
  case stays on _ runs _ =>
    refine ⟨rfl, decide_eq_false ?_⟩
    rintro ⟨-, off | ⟨other, unfit⟩⟩
    · exact absurd (on.symm.trans off) (by decide)
    · exact absurd (((runs run).resolve_left other).symm.trans unfit) (by decide)

theorem Lane.Takes.setFor (set : x.SetFor old.expectedType) : y.SetFor new.expectedType := by
  cases takes
  case staysDisabled _ disabled => exact .of_neither (by rw [disabled]; decide) (by rw [disabled]; decide)
  case disables => exact .of_neither nofun nofun
  case enables => exact .of_neither nofun nofun
  case mismatches _ _ unfit _ => exact ⟨nofun, fun _ => unfit⟩
  case fits => exact .of_neither nofun nofun
  case stays on _ runs differs =>
    refine ⟨fun run => (runs run).elim (fun same => ?_) id, fun mismatch => (differs mismatch).elim (fun same => ?_) id⟩
    · rw [same]; exact set.fits run
    · rw [same]; exact set.differs mismatch

theorem Lane.Takes.statusWanted : y.statusWanted = x.statusWanted := by
  cases takes
  case mismatches => exact Bool.or_false _
  all_goals rfl

/-- A stay in RUNNING ends with its host work; otherwise the lane keeps it (R114, R115). -/
theorem Lane.Takes.hostWork (laws : LaneLaws x) :
    ((if x.endedBy old new then x.hostWork else []) ++ y.hostWork) = x.hostWork := by
  by_cases run : y.phase = .running
  · obtain ⟨rfl, stays⟩ := takes.of_running run
    rw [stays]
    rfl
  · rw [(takes.laws laws).hostWork_short run]
    by_cases was : x.phase = .running
    · have ended : x.endedBy old new = true := by
        refine decide_eq_true ⟨was, ?_⟩
        cases takes
        case staysDisabled off _ => exact .inl off
        case disables off _ => exact .inl off
        case enables _ disabled => cases was.symm.trans disabled
        case mismatches _ _ unfit other => exact .inr ⟨other, unfit⟩
        case fits _ mismatch => cases was.symm.trans mismatch
        case stays => exact absurd was run
      rw [ended]
      exact List.append_nil _
    · rw [laws.hostWork_short was]
      split <;> rfl

end

/-! ## The lanes of a replaced configuration (R147) -/

section
variable (s : State) (image : ConfigImage) (l : LaneId)

/-- A lane after the replacement is one that has taken its setting, with lamps handed to it. -/
theorem lane_replaced_takes : ∃ y, (s.lane l).Takes s.config.working.lanes[l] image.lanes[l] y ∧
    ∀ on, y.Keeps on on ((replaced s image).lane l) :=
  ⟨_, Lane.settingTaken_takes .., fun on => by rw [lane_replaced]; exact .withDesired on _ _⟩

end

theorem LaneLaws.replaced {s : State} {l : LaneId} (laws : LaneLaws (s.lane l)) (image : ConfigImage) :
    LaneLaws ((replaced s image).lane l) := by
  obtain ⟨y, takes, keeps⟩ := lane_replaced_takes s image l
  exact (keeps false).laws (takes.laws laws)

theorem SettingLaws.replaced {s : State} (laws : SettingLaws s) (image : ConfigImage) : SettingLaws (replaced s image) := by
  have config : (Machine.replaced s image).config.working = image := by rw [replaced_frame]
  have delivery : (Machine.replaced s image).delivery = s.delivery := by rw [replaced_frame, completeAll_outline]
  have lane (l : LaneId) := lane_replaced_takes s image l
  have expected (l : LaneId) : (Machine.replaced s image).expectedType l = image.lanes[l].expectedType := by
    rw [State.expectedType, config]
  have setFor (l : LaneId) {y : Lane} (takes : (s.lane l).Takes s.config.working.lanes[l] image.lanes[l] y) :
      y.SetFor image.lanes[l].expectedType := takes.setFor ⟨laws.expected l, laws.unexpected l⟩
  refine ⟨fun _ l => ?_, fun l => ?_, fun l => ?_, fun off l => ?_⟩ <;> obtain ⟨y, takes, keeps⟩ := lane l
  · rw [config, (keeps false).phase]
    exact takes.disabled_iff
  · rw [expected, (keeps false).phase, (keeps false).known]
    exact (setFor l takes).fits
  · rw [expected, (keeps false).phase, (keeps false).known]
    exact (setFor l takes).differs
  · rw [delivery] at off
    exact (keeps false).quiet (fun _ => takes.statusWanted.trans (laws.quiet off l)) rfl

end Sys2Proof.Machine
end

section
/-! Every step keeps the laws of the lanes and keeps each lane in line with its setting (R32, R86, R99 to R104, R107, R112, R115,
R122 to R126). -/

namespace Sys2Proof.Machine

set_option Elab.async false

/-! ## Lanes in line with their settings -/

/-- The laws of the lanes and their settings while the part runs. -/
structure LaneOrder (s : State) : Prop where
  lanes : ∀ l, LaneLaws (s.lane l)
  settings : SettingLaws s

theorem WorkLaws.order {s : State} (laws : WorkLaws s) : LaneOrder s := ⟨laws.lanes, laws.settings⟩

/-- Lane `y` follows lane `x` under the same setting (R32, R112). -/
structure Lane.Follows (expected : Byte) (was on : Bool) (x y : Lane) : Prop where
  laws : LaneLaws y
  setFor : y.SetFor expected
  disabled : y.phase = .disabled ↔ x.phase = .disabled
  quiet : (was = false → x.statusWanted = false) → on = false → y.statusWanted = false

theorem Lane.Keeps.follows {expected : Byte} {was on : Bool} {x y : Lane} (keeps : x.Keeps was on y) (laws : LaneLaws x)
    (set : x.SetFor expected) : x.Follows expected was on y :=
  ⟨keeps.laws laws, set.of_same keeps.phase keeps.known, by rw [keeps.phase], keeps.quiet⟩

/-- The settings of the lanes are the same, and the part has not left STARTUP. -/
structure SameSettings (s t : State) : Prop where
  settings : t.config.working.lanes = s.config.working.lanes
  started : t.config.mode ≠ .startup → s.config.mode ≠ .startup

theorem SameSettings.of_config {s t : State} (config : t.config = s.config) : SameSettings s t := by
  constructor
  · rw [config]
  · rw [config]; exact id

section
variable {s t : State} (order : LaneOrder s) (same : SameSettings s t)
include order same

theorem LaneOrder.follow
    (follows : ∀ l, (s.lane l).Follows (s.expectedType l) s.delivering t.delivering (t.lane l)) : LaneOrder t := by
  have expected (l : LaneId) : t.expectedType l = s.expectedType l := by
    rw [State.expectedType, State.expectedType, same.settings]
  refine ⟨fun l => (follows l).laws, fun started l => ?_, fun l => ?_, fun l => ?_, fun off l => ?_⟩
  · rw [(follows l).disabled, same.settings]
    exact order.settings.enabled (same.started started) l
  · rw [expected]; exact (follows l).setFor.fits
  · rw [expected]; exact (follows l).setFor.differs
  · refine (follows l).quiet (fun quiet => order.settings.quiet ?_ l) (by rw [State.delivering, off]; rfl)
    simpa [State.delivering] using quiet

theorem LaneOrder.keep (kept : LanesKept s t) : LaneOrder t :=
  order.follow same fun l => (kept l).follows (order.lanes l) ⟨order.settings.expected l, order.settings.unexpected l⟩

end

theorem LaneOrder.of_same {s t : State} (order : LaneOrder s) (lanes : t.lanes = s.lanes) (delivery : t.delivery = s.delivery)
    (config : t.config = s.config) : LaneOrder t := order.keep (.of_config config) (.of_same lanes delivery)

theorem LaneOrder.complete {s : State} (order : LaneOrder s) (i : SlotId) (r : Reply) : LaneOrder (complete s i r) := by
  obtain ⟨_, _, e⟩ := complete_frame s i r
  rw [e]
  exact order.of_same rfl rfl rfl

/-! ## Requests -/

/-- LEARN's end with ABORTED clears the waiter beside the reply (R76, R139). -/
theorem abortLearn_frame (s : State) : abortLearn s =
    { s with
      requests := (abortLearn s).requests
      link := (abortLearn s).link
      translator := { s.translator with learn := none } } := by
  unfold abortLearn
  split
  · next w _ =>
    obtain ⟨_, _, e⟩ := complete_frame (clearLearn s) w.slot (bare .aborted)
    rw [clearLearn] at e
    rw [e]
  · next none => rw [← none]

theorem Worked.sameSettings {s u : State} (work : Worked s u) : Resettles s u ∨ SameSettings s u := by
  cases work
  case nothing => exact .inr (.of_config rfl)
  case opened w _ _ _ => exact .inr (.of_config rfl)
  case acked n w _ delivering _ =>
    refine .inr (.of_config ?_)
    unfold admitAck reconsiderAfter
    dsimp only
    split
    · obtain ⟨_, e⟩ := reconsider_frame (State.mk s.time s.line s.lanes s.translator s.table _ _ s.link s.requests s.config
        s.store s.pending)
      rw [e]
    · rfl
  case closed => exact .inr (.of_config (by rw [closeSession_eq]))
  case lampsWritten l mask values _ => exact .inr (.of_config rfl)
  case lampsReleased l mask => exact .inr (.of_config rfl)
  case faultCleared l => exact .inr (.of_config rfl)
  case configEntered run _ => exact .inr ⟨rfl, fun _ => by rw [run]; decide⟩
  case configLeft config =>
    have ended : (abortLearn s).config = s.config := by rw [abortLearn_frame]
    refine .inr ⟨?_, fun _ => by rw [config]; decide⟩
    show (abortLearn s).config.working.lanes = _
    rw [ended]
  case edited image _ _ lanes => exact .inr ⟨lanes, id⟩
  case worked image _ _ _ lanes => exact .inr ⟨lanes, id⟩
  case laneSet l new config type => exact .inl (.inl ⟨l, new, config, type, rfl⟩)
  case replaced image config which => exact .inl (.inr ⟨image, config, which, rfl⟩)

/-- A request that changes lane settings leaves the state of a replaced working configuration. -/
theorem Resettles.replaced {s u : State} (laws : WorkLaws s) (h : Resettles s u) :
    s.config.mode = .config ∧ ∃ image, image.wf ∧ u = replaced s image := by
  rcases h with ⟨l, new, config, range, rfl⟩ | ⟨image, config, which, rfl⟩
  · exact ⟨config, _, wf_withSetting laws.images.working range, laws.laneSet_replaces config l new⟩
  · refine ⟨config, image, ?_, laws.replaces config image⟩
    rcases which with rfl | rfl
    · exact laws.images.storeCopy
    · exact defaults_wf

section
variable {s t u : State} (laws : WorkLaws s)
include laws

theorem LaneOrder.worked (work : Worked s u) : LaneOrder u := by
  rcases work.lanesKept with settles | kept
  · obtain ⟨-, image, -, rfl⟩ := settles.replaced laws
    exact ⟨fun l => (laws.lanes l).replaced image, laws.settings.replaced image⟩
  · rcases work.sameSettings with settles | same
    · obtain ⟨-, image, -, rfl⟩ := settles.replaced laws
      exact ⟨fun l => (laws.lanes l).replaced image, laws.settings.replaced image⟩
    · exact laws.order.keep same kept

/-- A lane that changes in what its settings do not bear on. -/
theorem LaneOrder.laneChanged {l : LaneId} {y : Lane} (lawful : LaneLaws y) (phase : y.phase = (s.lane l).phase)
    (known : y.known = (s.lane l).known) (wanted : y.statusWanted = (s.lane l).statusWanted) :
    LaneOrder (s.setLane l y) := by
  refine laws.order.follow (.of_config rfl) fun k => ?_
  have set : (s.lane k).SetFor (s.expectedType k) := ⟨laws.settings.expected k, laws.settings.unexpected k⟩
  by_cases here : k = l
  · subst here
    rw [State.lane_setLane_self]
    exact ⟨lawful, set.of_same phase known, by rw [phase], fun quiet => by rw [wanted]; exact quiet⟩
  · rw [State.lane_setLane_ne _ here]
    exact (Lane.Keeps.refl _ _).follows (laws.lanes k) set

theorem LaneOrder.served {kind : Byte} {i : SlotId} (served : Served kind i s t) : LaneOrder t := by
  cases served
  case answered u r work _ => exact (LaneOrder.worked laws work).complete i r
  case restarts => exact (laws.order.of_same rfl rfl rfl : LaneOrder { s with
      store := { s.store with restartPending := true } }).complete i _
  case laneEntry l k _ run few host =>
    refine LaneOrder.laneChanged laws (l := l) ?_ rfl rfl rfl
    refine (laws.lanes l).joined run ?_ ?_ ?_ ?_ ?_
    · rcases host with rfl | rfl | rfl <;> rfl
    · rcases host with rfl | rfl | rfl <;> rfl
    · rcases host with rfl | rfl | rfl <;> nofun
    · exact few
    · simpa using (laws.lanes l).list.rescan
  case lampsWait l y mask values _ run is other =>
    have keeps : (s.lane l).Keeps s.delivering s.delivering y := by rw [is]; exact .hostLamps _ _ _ _
    have lawful : LaneLaws { y with waiters := y.waiters ++ [⟨i, y.desiredVersion⟩] } :=
      (keeps.laws (laws.lanes l)).waited (keeps.phase.trans run) other _
    refine LaneOrder.laneChanged laws lawful keeps.phase keeps.known ?_
    show y.statusWanted = _
    rw [is, Lane.hostLamps]
    unfold Lane.withDesired
    split
    · rfl
    · rw [queueLamp_list]
  case learning w _ _ _ _ => exact laws.order.of_same rfl rfl rfl
  case committed => exact laws.order.of_same rfl rfl rfl

end

theorem LaneOrder.received {s t : State} (laws : WorkLaws s) (received : Received s t) : LaneOrder t := by
  cases received
  case refused => exact laws.order.of_same rfl rfl rfl
  case repeated i _ => exact laws.order.of_same rfl rfl rfl
  case taken i q _ _ served => exact LaneOrder.served (laws.placed i q) served

/-! ## Lanes that move -/

section
variable {s t : State} {l : LaneId}

theorem LaneOrder.moves (order : LaneOrder s) (moved : LaneMoved s l t) (k : LaneId) :
    (s.lane k).Follows (s.expectedType k) s.delivering t.delivering (t.lane k) := by
  have set (k : LaneId) : (s.lane k).SetFor (s.expectedType k) :=
    ⟨order.settings.expected k, order.settings.unexpected k⟩
  have keeps {y : Lane} (kept : (s.lane k).Keeps s.delivering s.delivering y) :
      (s.lane k).Follows (s.expectedType k) s.delivering s.delivering y := kept.follows (order.lanes k) (set k)
  cases moved
  case stays e y done ended becomes =>
    have delivering : (e.setLane l y).delivering = s.delivering := by rw [ended.frame]; rfl
    rw [delivering]
    by_cases here : k = l
    · subst here
      rw [State.lane_setLane_self]
      exact ⟨becomes.laws, becomes.setFor, becomes.disabled, fun quiet off => by rw [becomes.wanted off]; exact quiet off⟩
    · rw [State.lane_setLane_ne _ here, lane_of_completions ended.frame]
      exact keeps (.refl _ _)
  case leaves e x f done run ended lamps ends lawful enabled setFor work wanted owed =>
    have delivering : (stayEnded s e l x .laneDown f).delivering = s.delivering := by rw [stayEnded_frame ended.frame]; rfl
    rw [delivering]
    rw [lane_stayEnded ended.frame lamps ends]
    by_cases here : k = l
    · subst here
      rw [if_pos rfl]
      have short := ends.phase (x.left s.delivering)
      have lawful := lawful.withLamps short (handedImage k (s.lane k) (leftHanded e k x .laneDown))
        (f (x.left s.delivering)).acked
        (if handedImage k (s.lane k) (leftHanded e k x .laneDown) = (s.lane k).desired then (s.lane k).desiredVersion
          else (s.lane k).desiredVersion + 1) (f (x.left s.delivering)).ackedVersion
      refine ⟨lawful, setFor.of_same rfl rfl, iff_of_false enabled (by rw [run]; decide), fun quiet off => ?_⟩
      show (f (x.left s.delivering)).statusWanted = false
      rw [ends.wanted, Lane.left, off]
      show ((x.statusWanted || false) || false) = false
      rw [wanted off, quiet off]
      rfl
    · rw [if_neg here]
      exact keeps (.withDesired _ _ _)
  case enters x starting idle fits list wanted rest calm proper =>
    have delivering : (stayBegun s l x).delivering = s.delivering := by rw [stayBegun_frame]; rfl
    rw [delivering]
    by_cases here : k = l
    · subst here
      obtain ⟨m, known, proper⟩ := proper
      rw [lane_stayBegun_self s k (by rw [starting]; decide) list]
      refine ⟨?_, ⟨fun _ => fits, nofun⟩, iff_of_false nofun (by rw [starting]; decide), fun quiet off => ?_⟩
      · refine .of_rest ⟨rest.exchange, rest.inProgress, rest.parity, rest.sent, rest.activity⟩ nofun ?_
          (.single rfl rfl rfl) (lampLaws_queued rfl)
        have slot : x.slot = none := calm.slot
        have waiters : x.waiters = [] := calm.waiters
        refine ⟨iff_of_false nofun nofun, fun _ => rfl, fun b is => ?_, nofun, iff_of_false nofun nofun, Nat.zero_lt_succ 2,
          fun _ => rfl, fun _ => rfl, ?_, fun o is => ?_⟩
        · cases slot.symm.trans is
        · exact iff_of_true (by show x.known.isSome = true; rw [known]; rfl) (.inl rfl)
        · cases known.symm.trans is
          exact proper
      · show (x.statusWanted || s.delivering) = false
        rw [wanted, quiet off, off]
        rfl
    · rw [lane_stayBegun_ne _ _ _ here]
      exact keeps (.withDesired _ _ _)

end

/-! ## The store's happenings -/

/-- What the end of a bank write can do, banks and standings aside (R156, R159 to R161). -/
inductive BankWritten (s : State) : State → Prop where
  | idle : s.store.write = none → BankWritten s s
  | stored (st : Store) : s.store.write.isSome → st.restartPending = s.store.restartPending →
      st.commit.map (·.slot) = s.store.commit.map (·.slot) → BankWritten s { s with store := st }
  | ended (st : Store) (c : CommitContext) : s.store.write.isSome → st.restartPending = s.store.restartPending →
      s.store.commit.map (·.slot) = some c.slot → BankWritten s (commitEnds { s with store := st } c)

theorem writeAttemptEnds_bankWritten (s : State) (r : ReadBack) : BankWritten s (writeAttemptEnds s r) := by
  have next {st : Store} (written : s.store.write.isSome) (pending : st.restartPending = s.store.restartPending)
      (n : BankName) (c : CommitContext) (slot : s.store.commit.map (·.slot) = some c.slot) :
      BankWritten s (nextBank { s with store := st } n c) := by
    cases n with
    | a => exact .stored _ written pending slot.symm
    | b => exact .stored _ written pending slot.symm
    | c => exact .ended _ c written pending slot
  unfold writeAttemptEnds
  dsimp only
  split
  · next none => exact .idle none
  · next w write =>
    have written : s.store.write.isSome = true := by rw [write]; rfl
    generalize s.store.banks.set w.bank (heldAfter (writtenBank s.store w) r) = banks
    split
    · refine .stored _ written ?_ ?_ <;> unfold repairAttemptEnds <;> split <;> rfl
    · refine .stored _ written ?_ ?_ <;> unfold overtakenAttemptEnds <;> split <;> rfl
    · next c _ commit =>
      have slot : s.store.commit.map (·.slot) = some c.slot := by rw [commit]; rfl
      unfold commitAttemptEnds
      split
      · exact next (st := setValid { s.store with banks := banks } w.bank c.generation) written rfl w.bank
          { c with good := c.good + 1 } slot
      · exact .stored _ written rfl rfl
      · exact next (st := setStanding { s.store with banks := banks } w.bank .failed) written rfl w.bank c slot
    · exact .stored _ written rfl rfl

theorem commitEnds_frame (s : State) (c : CommitContext) : commitEnds s c =
    { s with
      requests := (commitEnds s c).requests
      link := (commitEnds s c).link
      store := { s.store with
        standing := standingOfGood c.good, generation := c.generation, activity := .idle, commit := none, write := none }
      config := { s.config with
        storeCopy := if c.good = 0 then .defaults else c.snapshot
        dirty := decide (s.config.working ≠ if c.good = 0 then .defaults else c.snapshot) } } := by
  unfold commitEnds
  dsimp only
  obtain ⟨_, _, e⟩ := complete_frame (recomputeDirty { s with
    store := { s.store with
      standing := standingOfGood c.good, generation := c.generation, activity := .idle, commit := none, write := none }
    config := { s.config with storeCopy := if c.good = 0 then .defaults else c.snapshot } }) c.slot _
  rw [e]
  rfl

/-- What the end of a bank's read can do (R153 to R155). -/
inductive BankRead (s : State) : State → Prop where
  | idle : BankRead s s
  | read (n : BankName) : s.store.activity = .voting → n ≠ .c → nextBankRead s.store = some n →
      BankRead s { s with store := readBank s.store n }
  | voted (v : VoteOutcome) : s.store.activity = .voting → nextBankRead s.store = some .c →
      v = voteOutcome (readBank s.store .c) →
      BankRead s (settingsTaken (loaded (voted s v) v.image) s.config.working.lanes (List.finRange 8))

theorem bankReadEnds_bankRead {s : State} (laws : WorkLaws s) : BankRead s (bankReadEnds s) := by
  unfold bankReadEnds
  split
  · next n voting next =>
    dsimp only
    split
    · next last =>
      subst last
      have startup : s.config.mode = .startup := laws.store.voting.1 voting
      have off : s.delivery.state = .off := laws.delivery.onlyInRun (by rw [startup]; decide)
      have free : s.translator.waiting = none := not_not.1 (mt laws.delivery.waits (by simp [off]))
      have quiet : s.delivering = false := by simp [State.delivering, off]
      have loads := loadImage_eq (s := voted s (voteOutcome (readBank s.store .c)))
        (image := (voteOutcome (readBank s.store .c)).image) quiet free fun l => (laws.lanes l).orderly
      have ends : completeVote { s with store := readBank s.store .c } =
          settingsTaken (loaded (voted s (voteOutcome (readBank s.store .c))) (voteOutcome (readBank s.store .c)).image)
            s.config.working.lanes (List.finRange 8) := loads
      rw [ends]
      exact .voted _ voting next rfl
    · next other => exact .read n voting other next
  · exact .idle

/-- The lanes after the vote have taken the settings of its image; beside them only store, configuration and table change. -/
theorem voted_eq {s : State} (disabled : ∀ l, (s.lane l).phase = .disabled) (v : VoteOutcome) :
    settingsTaken (loaded (voted s v) v.image) s.config.working.lanes (List.finRange 8) =
      { loaded (voted s v) v.image with
        lanes := settingsLanes (loaded (voted s v) v.image) s.config.working.lanes (List.finRange 8) } :=
  settingsTaken_stays (leavesBy_loaded (s := voted s v) disabled) _

theorem LaneOrder.bankRead {s t : State} (laws : WorkLaws s) (read : BankRead s t) : LaneOrder t := by
  cases read
  case idle => exact laws.order
  case read n _ _ _ => exact laws.order.of_same rfl rfl rfl
  case voted v voting _ _ =>
    have startup : s.config.mode = .startup := laws.store.voting.1 voting
    have off : s.delivery.state = .off := laws.delivery.onlyInRun (by rw [startup]; decide)
    have disabled := (laws.controls.startup startup).2
    have stays := leavesBy_loaded (s := voted s v) (image := v.image) disabled
    have lane (l : LaneId) : (settingsTaken (loaded (voted s v) v.image) s.config.working.lanes (List.finRange 8)).lane l =
        (s.lane l).settingTaken s.config.working.lanes[l] v.image.lanes[l] := lane_settingsTaken_stays stays l
    have takes (l : LaneId) : (s.lane l).Takes s.config.working.lanes[l] v.image.lanes[l]
        ((settingsTaken (loaded (voted s v) v.image) s.config.working.lanes (List.finRange 8)).lane l) := by
      rw [lane]
      exact Lane.settingTaken_takes ..
    have config : (settingsTaken (loaded (voted s v) v.image) s.config.working.lanes (List.finRange 8)).config.working =
        v.image := by rw [voted_eq disabled]; rfl
    have neither (l : LaneId) : (s.lane l).SetFor s.config.working.lanes[l].expectedType :=
      .of_neither (by rw [disabled]; decide) (by rw [disabled]; decide)
    have expected (l : LaneId) : State.expectedType
        (settingsTaken (loaded (voted s v) v.image) s.config.working.lanes (List.finRange 8)) l =
          v.image.lanes[l].expectedType := by
      rw [State.expectedType, config]
    refine ⟨fun l => (takes l).laws (laws.lanes l), fun _ l => ?_, fun l => ?_, fun l => ?_, fun _ l => ?_⟩
    · rw [config]
      exact (takes l).disabled_iff
    · rw [expected]
      exact ((takes l).setFor (neither l)).fits
    · rw [expected]
      exact ((takes l).setFor (neither l)).differs
    · rw [(takes l).statusWanted]
      exact laws.settings.quiet off l

theorem LaneOrder.bankWritten {s t : State} (order : LaneOrder s) (written : BankWritten s t) : LaneOrder t := by
  cases written
  case idle => exact order
  case stored => exact order.of_same rfl rfl rfl
  case ended st c _ _ _ =>
    rw [commitEnds_frame]
    exact order.keep ⟨rfl, id⟩ (.of_same rfl rfl)

/-! ## Turns and the Delivery Unit -/

theorem Routed.frame {s u : State} {l : LaneId} {b : Byte} (routed : Routed s l b u) : u =
    { s with
      requests := u.requests, link := u.link, table := u.table, lanes := u.lanes, translator := u.translator } := by
  cases routed
  case nothing => rfl
  case learned w r _ _ =>
    obtain ⟨_, _, e⟩ := complete_frame (clearLearn s) w.slot r
    rw [e]
    rfl
  case acted c d ext release _ _ =>
    unfold takeAction
    obtain ⟨_, e⟩ := actionState_frame s c d release
    rw [e]
    rfl

theorem Turned.frame {s t : State} (turned : Turned s t) : t =
    { s with
      requests := t.requests, link := t.link, table := t.table, lanes := t.lanes, translator := t.translator
      queue := t.queue } := by
  cases turned
  case idle => rfl
  case waits => rfl
  case status l _ _ _ => rw [statusTurn, placeRecord_eq]; rfl
  case byte l b p u _ _ _ _ routed =>
    rw [placeRecord_eq, routed.frame]
    rfl

section
variable {s : State}

/-- Where the Delivery Unit alone changes and does not open or close the session. -/
theorem LaneOrder.delivery {t : State} (order : LaneOrder s) (lanes : t.lanes = s.lanes) (config : t.config = s.config)
    (off : t.delivery.state = .off → s.delivery.state = .off) : LaneOrder t := by
  refine order.keep (.of_config config) fun l => ?_
  have lane : t.lane l = s.lane l := by rw [State.lane, State.lane, lanes]
  rw [lane]
  refine ⟨id, rfl, rfl, rfl, fun quiet is => quiet ?_⟩
  simp only [State.delivering, decide_eq_false_iff_not, not_not] at is ⊢
  exact off is

theorem LaneOrder.reportStarts (order : LaneOrder s) : LaneOrder (reportStarts s) := by
  unfold Machine.reportStarts
  repeat' split
  · exact order.delivery rfl rfl id
  · exact order
  · exact order

theorem LaneOrder.reportEnds (order : LaneOrder s) : LaneOrder (reportEnds s) := by
  unfold Machine.reportEnds
  split
  · exact order.delivery rfl rfl id
  · exact order

theorem LaneOrder.timerExpires (order : LaneOrder s) : LaneOrder (timerExpires s) := by
  unfold Machine.timerExpires
  repeat' split
  · exact order.delivery rfl rfl id
  · refine order.delivery rfl rfl ?_
    unfold retransmit
    dsimp only
    split
    · exact nofun
    · exact id
  · exact order
  · exact order

end

/-! ## Moves -/

theorem LaneOrder.reset (s : State) (cause : ResetCause) (straps : BitVec 2) : LaneOrder (resetBlocks s cause straps) := by
  have safe := resetStateKeepsTheLaws.1
  exact (⟨safe.lanes rfl, safe.settings⟩ : LaneOrder State.reset).of_same rfl rfl rfl

/-- After a move the lanes are lawful and in line with their settings, unless a hard reset has begun. -/
theorem LaneOrder.moved {s t : State} (safe : SafeState s) (move : Move s t) :
    LaneOrder t ∨ t = s ∨ ∃ cause, t = hardResetStarts s cause := by
  have laws := safe.works
  cases move
  case same => exact .inr (.inl rfl)
  case resetBegins cause => exact .inr (.inr ⟨cause, rfl⟩)
  all_goals refine .inl ?_
  case resetEnds ending straps => exact .reset _ _ straps
  case restarts straps => exact .reset _ _ straps
  case received running received => exact .received (laws running) received
  case replyStarts running =>
    unfold Machine.replyStarts
    repeat' split
    · exact (laws running).order.of_same rfl rfl rfl
    · exact (laws running).order
    · exact (laws running).order
  case replyEnds running _ => exact (laws running).order.of_same rfl rfl rfl
  case reportStarts running => exact (laws running).order.reportStarts
  case reportEnds running => exact (laws running).order.reportEnds
  case timer running => exact (laws running).order.timerExpires
  case turn running =>
    have turned := takeTurn_turned s
    refine (laws running).order.keep (.of_config ?_) turned.lanesKept
    show (takeTurn s).config = s.config
    rw [turned.frame]
  case learnTimeout running =>
    unfold learnExpires
    repeat' split
    · exact ((laws running).order.of_same rfl rfl rfl : LaneOrder (clearLearn s)).complete _ _
    · exact (laws running).order
    · exact (laws running).order
  case lane l running happening =>
    have settings := (laws running).settings
    have moved := happening.moved ⟨settings.expected l, settings.unexpected l⟩ ((laws running).lanes l)
    exact (laws running).order.follow (.of_config happening.work.config) ((laws running).order.moves moved)
  case bankRead running => exact .bankRead (laws running) (bankReadEnds_bankRead (laws running))
  case bankWrite r running _ => exact (laws running).order.bankWritten (writeAttemptEnds_bankWritten s r)

/-- Settles O58: after each move the lanes are lawful; while a reset is held the laws ask nothing. -/
theorem stepsKeepTheLaneLaws : Obligations.StepsKeepTheLaneLaws := by
  unfold Obligations.StepsKeepTheLaneLaws
  intro s t wf safe stepped running
  obtain ⟨u, safe, move⟩ := step_moves safe wf stepped
  rcases LaneOrder.moved safe move with order | rfl | ⟨cause, rfl⟩
  · exact order.lanes
  · exact safe.lanes running
  · exact absurd running (by cases cause <;> cases line : u.line <;> simp [hardResetStarts, lineAfter, line])

/-- A reset that begins cuts frames and exchanges, no phase, module or flag (R98, R101). -/
theorem SettingLaws.cut {s : State} (laws : SettingLaws s) (cause : ResetBeginning) : SettingLaws (hardResetStarts s cause) := by
  have lane (l : LaneId) : (hardResetStarts s cause).lane l = (s.lane l).cut := State.lane_mapLanes _ _ l
  refine ⟨fun started l => ?_, fun l => ?_, fun l => ?_, fun off l => ?_⟩ <;> rw [lane]
  · exact laws.enabled started l
  · exact laws.expected l
  · exact laws.unexpected l
  · exact laws.quiet off l

/-- Settles O60: after each move every lane is in line with its setting, also where a reset begins. -/
theorem stepsKeepTheLanesAsSet : Obligations.StepsKeepTheLanesAsSet := by
  unfold Obligations.StepsKeepTheLanesAsSet
  intro s t wf safe stepped
  obtain ⟨u, safe, move⟩ := step_moves safe wf stepped
  rcases LaneOrder.moved safe move with order | rfl | ⟨cause, rfl⟩
  · exact order.settings
  · exact safe.settings
  · exact safe.settings.cut cause

end Sys2Proof.Machine
end

section
/-! The Request Table, the outgoing reply list and the pending restart under every operation on them (R164, R172, R177, R180). -/

namespace Sys2Proof.Machine

set_option Elab.async false

/-! ## The laws of table and list without the kinds -/

/-- The laws of the Request Table and the outgoing reply list but for the kinds that stay ACTIVE, which a request that has just
been placed need not be of (R172, R177, R180, R181). -/
structure TableLaws (s : State) : Prop where
  tagged : ∀ i q, (s.slot i).request = some q → q.tag ≠ 0
  distinctTags : ∀ i j p q, (s.slot i).request = some p → (s.slot j).request = some q → p.tag = q.tag → i = j
  orderOnce : s.requests.order.Nodup
  orderDone : ∀ i, i ∈ s.requests.order ↔ (s.slot i).isDone = true
  entriesOnce : (slotEntries s.link.replies).Nodup
  entriesDone : ∀ i, ReplyEntry.slot i ∈ s.link.replies → (s.slot i).isDone = true
  fewRefusals : s.link.replies.countP ReplyEntry.isRefusal ≤ 4
  refusalStatus : ∀ tag kind status, ReplyEntry.refusal tag kind status ∈ s.link.replies →
    status = .tagConflict ∨ status = .busy

theorem RequestLaws.table {s : State} (laws : RequestLaws s) : TableLaws s := { laws with }

theorem mem_slotEntries {list : List ReplyEntry} {i : SlotId} : i ∈ slotEntries list ↔ ReplyEntry.slot i ∈ list := by
  rw [slotEntries, List.mem_filterMap]
  constructor
  · rintro ⟨e, listed, is⟩
    cases e with
    | slot j => cases is; exact listed
    | refusal tag kind status => cases is
  · exact fun listed => ⟨_, listed, rfl⟩

theorem slotEntries_append (first second : List ReplyEntry) :
    slotEntries (first ++ second) = slotEntries first ++ slotEntries second := List.filterMap_append

theorem RequestSlot.isActive_iff {x : RequestSlot} : x.isActive = true ↔ ∃ q, x = .active q := by
  cases x <;> simp [RequestSlot.isActive]

section
variable {s t : State}

/-- The laws read the slots, the completion order and the list alone. -/
theorem TableLaws.of_same (laws : TableLaws s) (requests : t.requests = s.requests)
    (replies : t.link.replies = s.link.replies) : TableLaws t := by
  have slot (i : SlotId) : t.slot i = s.slot i := by rw [State.slot, State.slot, requests]
  refine ⟨?_, ?_, ?_, ?_, ?_, ?_, ?_, ?_⟩ <;> simp only [slot, requests, replies]
  · exact laws.tagged
  · exact laws.distinctTags
  · exact laws.orderOnce
  · exact laws.orderDone
  · exact laws.entriesOnce
  · exact laws.entriesDone
  · exact laws.fewRefusals
  · exact laws.refusalStatus

/-- The laws read slots, list, transmitter, line, activity and restart pending alone. -/
theorem RestartLaws.of_same (laws : RestartLaws s) (requests : t.requests = s.requests) (link : t.link = s.link)
    (line : t.line = s.line) (pending : t.store.restartPending = s.store.restartPending)
    (activity : s.store.restartPending = true → t.store.activity = s.store.activity) : RestartLaws t := by
  have slot (i : SlotId) : t.slot i = s.slot i := by rw [State.slot, State.slot, requests]
  have onLine : t.restartOnLine = s.restartOnLine := by rw [State.restartOnLine, State.restartOnLine, link]
  refine ⟨?_, ?_, ?_, ?_, fun is => ?_⟩
  · simp only [slot]; exact laws.single
  · simp only [slot, pending]; exact laws.replyPending
  · simp only [line, onLine, pending]; exact laws.linePending
  · simp only [line, onLine, pending, slot, link]; exact laws.pendingReply
  · rw [pending] at is
    rw [activity is]
    exact laws.pendingIdle is

end

/-! ## A request completes (R183) -/

section
variable {s : State} {i : SlotId} {q : RequestId} (active : s.slot i = .active q) (r : Reply)
include active

theorem complete_slot (j : SlotId) : (complete s i r).slot j = if j = i then .done q r else s.slot j := by
  split
  · next here => rw [here]; exact complete_slot_self active r
  · next other => exact complete_slot_ne s other r

theorem complete_request (j : SlotId) : ((complete s i r).slot j).request = (s.slot j).request := by
  rw [complete_slot active]
  split
  · next here => rw [here, active]; rfl
  · rfl

theorem complete_replies (laws : TableLaws s) : (complete s i r).link.replies = s.link.replies ++ [.slot i] := by
  rw [complete_active active]
  refine queueSlotEntry_of_not_mem fun listed => ?_
  have done := laws.entriesDone i listed
  rw [active] at done
  cases done

theorem TableLaws.complete (laws : TableLaws s) : TableLaws (complete s i r) := by
  have idle : (s.slot i).isDone = false := by rw [active]; rfl
  have replies := complete_replies active r laws
  have order : (Machine.complete s i r).requests.order = s.requests.order ++ [i] := by rw [complete_active active]
  refine ⟨fun j p held => ?_, fun j k p o held heldToo => ?_, ?_, fun j => ?_, ?_, fun j listed => ?_, ?_, fun tag kind status => ?_⟩
  · rw [complete_request active] at held
    exact laws.tagged j p held
  · rw [complete_request active] at held heldToo
    exact laws.distinctTags j k p o held heldToo
  · rw [order, List.nodup_append]
    refine ⟨laws.orderOnce, List.nodup_singleton i, fun j listed k last same => ?_⟩
    rw [List.mem_singleton.1 last] at same
    rw [same, laws.orderDone, idle] at listed
    cases listed
  · rw [order, complete_slot active, List.mem_append, laws.orderDone, List.mem_singleton]
    split
    · next here => exact iff_of_true (.inr here) rfl
    · next other => exact or_iff_left other
  · rw [replies, slotEntries_append, List.nodup_append]
    refine ⟨laws.entriesOnce, List.nodup_singleton i, fun j listed k last same => ?_⟩
    rw [List.mem_singleton.1 last] at same
    have done := laws.entriesDone j (mem_slotEntries.1 listed)
    rw [same, idle] at done
    cases done
  · rw [replies, List.mem_append, List.mem_singleton] at listed
    rw [complete_slot active]
    split
    · rfl
    · next other => exact laws.entriesDone j (listed.resolve_right fun here => other (ReplyEntry.slot.inj here))
  · rw [replies, List.countP_append]
    exact laws.fewRefusals
  · rw [replies, List.mem_append, List.mem_singleton]
    rintro (listed | last)
    · exact laws.refusalStatus tag kind status listed
    · cases last

/-- A completion other than a RESTART's with OK leaves the restart as it is. -/
theorem RestartLaws.complete (table : TableLaws s) (laws : RestartLaws s)
    (other : q.kind = RequestKind.restart.code → r ≠ bare .ok) : RestartLaws (complete s i r) := by
  have restartOk (j : SlotId) : ((Machine.complete s i r).slot j).isRestartOk = (s.slot j).isRestartOk := by
    rw [complete_slot active]
    split
    · next here =>
      rw [here, active]
      refine Bool.eq_false_iff.2 fun ok => ?_
      obtain ⟨p, is, kind⟩ := RequestSlot.isRestartOk_iff.1 ok
      cases is
      exact other kind rfl
    · rfl
  have onLine : (Machine.complete s i r).restartOnLine = s.restartOnLine := by
    rw [State.restartOnLine, State.restartOnLine, complete_tx]
  refine ⟨?_, ?_, ?_, ?_, ?_⟩
  · simp only [restartOk]; exact laws.single
  · simp only [restartOk, complete_store]; exact laws.replyPending
  · simp only [onLine, complete_store, complete_line]; exact laws.linePending
  · simp only [restartOk, onLine, complete_store, complete_line, complete_replies active r table, List.mem_append]
    exact fun running pending => (laws.pendingReply running pending).imp id fun ⟨j, ok, listed⟩ => ⟨j, ok, .inl listed⟩
  · rw [complete_store]; exact laws.pendingIdle

/-- A RESTART that completes with OK sets restart pending (R186). -/
theorem RestartLaws.restarts (table : TableLaws s) (laws : RestartLaws s) (kind : q.kind = RequestKind.restart.code)
    (idle : s.store.activity = .idle) (free : s.store.restartPending = false) :
    RestartLaws (Machine.complete { s with store := { s.store with restartPending := true } } i (bare .ok)) := by
  have none (j : SlotId) : (s.slot j).isRestartOk = false :=
    Bool.eq_false_iff.2 fun ok => absurd ((laws.replyPending j ok).symm.trans free) (by decide)
  generalize is_t : ({ s with store := { s.store with restartPending := true } } : State) = t
  have table : TableLaws t := by rw [← is_t]; exact table.of_same rfl rfl
  have slot (j : SlotId) : t.slot j = s.slot j := by rw [← is_t]; rfl
  have pending : t.store.restartPending = true := by rw [← is_t]
  have activity : t.store.activity = .idle := by rw [← is_t]; exact idle
  have active : t.slot i = .active q := (slot i).trans active
  have only (j : SlotId) (ok : ((Machine.complete t i (bare .ok)).slot j).isRestartOk = true) : j = i := by
    rw [complete_slot active] at ok
    split at ok
    · next here => exact here
    · rw [slot, none] at ok
      cases ok
  refine ⟨fun j k first second => (only j first).trans (only k second).symm, fun _ _ => ?_, fun _ _ => ?_, fun _ _ => ?_,
    fun _ => ?_⟩
  · rw [complete_store]; exact pending
  · rw [complete_store]; exact pending
  · refine .inr ⟨i, ?_, ?_⟩
    · rw [complete_slot_self active]
      exact RequestSlot.isRestartOk_iff.2 ⟨q, rfl, kind⟩
    · rw [complete_replies active _ table]
      simp
  · rw [complete_store]; exact activity

end

/-! ## A request is placed (R172, R180) -/

section
variable {s : State} {i : SlotId} {q : RequestId}

/-- The slot that a taken request is placed in: one that is not ACTIVE, where no other slot holds its tag. -/
structure Placeable (s : State) (i : SlotId) (q : RequestId) : Prop where
  idle : (s.slot i).isActive = false
  tagged : q.tag ≠ 0
  alone : ∀ j p, (s.slot j).request = some p → p.tag = q.tag → j = i

theorem Placeable.of_place (laws : TableLaws s) (tagged : q.tag ≠ 0)
    (place : (s.slotHolding q.tag = none ∧ s.chosenSlot = some i) ∨
      (s.slotHolding q.tag = some i ∧ (s.slot i).isDone = true)) : Placeable s i q := by
  rcases place with ⟨none, chosen⟩ | ⟨holding, done⟩
  · refine ⟨?_, tagged, fun j p held same => absurd same (slotHolding_eq_none_iff.1 none j p held)⟩
    unfold State.chosenSlot at chosen
    split at chosen
    · next found =>
      cases chosen
      have free := RequestSlot.isFree_iff.1 (by simpa using List.find?_some found)
      rw [free]
      rfl
    · have done := (laws.orderDone i).1 (List.mem_of_head? chosen)
      cases is : s.slot i <;> simp_all [RequestSlot.isDone, RequestSlot.isActive]
  · obtain ⟨p, held, same⟩ := RequestSlot.holds_iff.1 (slotHolding_some holding)
    refine ⟨?_, tagged, fun j o heldToo sameToo => laws.distinctTags j i o p heldToo held (sameToo.trans same.symm)⟩
    cases is : s.slot i <;> simp_all [RequestSlot.isDone, RequestSlot.isActive]

theorem placeRequest_slot (s : State) (i : SlotId) (q : RequestId) (j : SlotId) :
    (placeRequest s i q).slot j = if j = i then .active q else s.slot j := by
  split
  · next here => rw [here]; exact placeRequest_slot_self s i q
  · next other => exact placeRequest_slot_ne s other q

theorem mem_placeRequest_replies {e : ReplyEntry} :
    e ∈ (placeRequest s i q).link.replies ↔ e ∈ s.link.replies ∧ e ≠ .slot i := by
  show e ∈ s.link.replies.filter (fun e => decide (e ≠ .slot i)) ↔ _
  rw [List.mem_filter, decide_eq_true_iff]

theorem TableLaws.placed (laws : TableLaws s) (place : Placeable s i q) : TableLaws (placeRequest s i q) := by
  have requested {j : SlotId} {p : RequestId} (held : ((placeRequest s i q).slot j).request = some p) :
      (j = i ∧ p = q) ∨ (j ≠ i ∧ (s.slot j).request = some p) := by
    rw [placeRequest_slot] at held
    split at held
    · next here => exact .inl ⟨here, (Option.some.inj held).symm⟩
    · next other => exact .inr ⟨other, held⟩
  have sub : (placeRequest s i q).link.replies.Sublist s.link.replies := List.filter_sublist
  refine ⟨fun j p held => ?_, fun j k p o held heldToo same => ?_, laws.orderOnce.filter _, fun j => ?_, ?_, fun j listed => ?_,
    sub.countP_le.trans laws.fewRefusals, fun tag kind status listed => ?_⟩
  · rcases requested held with ⟨-, rfl⟩ | ⟨-, held⟩
    · exact place.tagged
    · exact laws.tagged j p held
  · rcases requested held with ⟨rfl, rfl⟩ | ⟨-, first⟩ <;> rcases requested heldToo with ⟨rfl, rfl⟩ | ⟨-, second⟩
    · rfl
    · exact (place.alone k o second same.symm).symm
    · exact place.alone j p first same
    · exact laws.distinctTags j k p o first second same
  · show j ∈ s.requests.order.filter (fun j => decide (j ≠ i)) ↔ _
    rw [List.mem_filter, decide_eq_true_iff, laws.orderDone, placeRequest_slot]
    split
    · next here => exact iff_of_false (fun is => is.2 here) nofun
    · next other => exact and_iff_left other
  · exact (sub.filterMap _).nodup laws.entriesOnce
  · obtain ⟨listed, other⟩ := mem_placeRequest_replies.1 listed
    rw [placeRequest_slot, if_neg fun here => other (congrArg ReplyEntry.slot here)]
    exact laws.entriesDone j listed
  · exact laws.refusalStatus tag kind status (mem_placeRequest_replies.1 listed).1

theorem RestartLaws.placed (laws : RestartLaws s) : RestartLaws (placeRequest s i q) := by
  have restartOk {j : SlotId} (ok : ((placeRequest s i q).slot j).isRestartOk = true) :
      j ≠ i ∧ (s.slot j).isRestartOk = true := by
    rw [placeRequest_slot] at ok
    split at ok
    · cases ok
    · next other => exact ⟨other, ok⟩
  have pending : (placeRequest s i q).store.restartPending = (s.store.restartPending && !losesRestart s i) := rfl
  have onLine : (placeRequest s i q).restartOnLine = s.restartOnLine := rfl
  refine ⟨fun j k first second => laws.single j k (restartOk first).2 (restartOk second).2, fun j ok => ?_,
    fun running sent => ?_, fun running is => ?_, fun is => ?_⟩
  · obtain ⟨other, ok⟩ := restartOk ok
    rw [pending, laws.replyPending j ok, Bool.true_and, Bool.not_eq_true']
    refine Bool.eq_false_iff.2 fun lost => ?_
    simp only [losesRestart, Bool.and_eq_true] at lost
    exact other (laws.single j i ok lost.1.2)
  · rw [pending, laws.linePending running sent, Bool.true_and, Bool.not_eq_true']
    have sent : s.restartOnLine = true := sent
    simp [losesRestart, sent]
  · rw [pending, Bool.and_eq_true, Bool.not_eq_true'] at is
    obtain ⟨is, kept⟩ := is
    rw [onLine]
    refine or_iff_not_imp_left.2 fun off => ?_
    obtain ⟨j, ok, listed⟩ := (laws.pendingReply running is).resolve_left off
    have other : j ≠ i := by
      rintro rfl
      have lost : losesRestart s j = true := by simp [losesRestart, listed, ok, Bool.eq_false_iff.2 off]
      exact absurd (lost.symm.trans kept) (by decide)
    refine ⟨j, ?_, mem_placeRequest_replies.2 ⟨listed, fun same => other (ReplyEntry.slot.inj same)⟩⟩
    rw [placeRequest_slot, if_neg other]
    exact ok
  · rw [pending, Bool.and_eq_true] at is
    exact laws.pendingIdle is.1

end

/-! ## The outgoing reply list (R172, R173, R181) -/

section
variable {s : State}

theorem TableLaws.refused (laws : TableLaws s) {tag kind : Byte} {status : Status} (which : status = .tagConflict ∨ status = .busy)
    (room : s.link.replies.countP ReplyEntry.isRefusal < 4) :
    TableLaws { s with link := { s.link with replies := s.link.replies ++ [.refusal tag kind status] } } := by
  refine { laws with entriesOnce := ?_, entriesDone := fun i listed => ?_, fewRefusals := ?_, refusalStatus := ?_ }
  · show (slotEntries (s.link.replies ++ [_])).Nodup
    rw [slotEntries_append]
    simpa [slotEntries] using laws.entriesOnce
  · refine laws.entriesDone i ((List.mem_append.1 listed).resolve_right fun last => ?_)
    cases List.mem_singleton.1 last
  · show (s.link.replies ++ [_]).countP _ ≤ 4
    rw [List.countP_append]
    exact room
  · intro t k st listed
    rcases List.mem_append.1 listed with listed | last
    · exact laws.refusalStatus t k st listed
    · cases List.mem_singleton.1 last
      exact which

/-- The list grows, and nothing else that the laws of the restart read changes. -/
theorem RestartLaws.listed (laws : RestartLaws s) {replies : List ReplyEntry} (kept : ∀ e ∈ s.link.replies, e ∈ replies) :
    RestartLaws { s with link := { s.link with replies := replies } } where
  single := laws.single
  replyPending := laws.replyPending
  linePending := laws.linePending
  pendingReply running pending := (laws.pendingReply running pending).imp id fun ⟨i, ok, listed⟩ => ⟨i, ok, kept _ listed⟩
  pendingIdle := laws.pendingIdle

theorem TableLaws.requeued (laws : TableLaws s) {i : SlotId} (done : (s.slot i).isDone = true) : TableLaws (requeue s i) := by
  by_cases listed : ReplyEntry.slot i ∈ s.link.replies
  · rw [requeue_listed listed]
    exact laws
  · rw [requeue_unlisted listed]
    refine { laws with entriesOnce := ?_, entriesDone := fun j among => ?_, fewRefusals := ?_, refusalStatus := ?_ }
    · show (slotEntries (s.link.replies ++ [_])).Nodup
      rw [slotEntries_append, List.nodup_append]
      refine ⟨laws.entriesOnce, List.nodup_singleton i, fun j among k last same => ?_⟩
      rw [List.mem_singleton.1 last] at same
      exact listed (mem_slotEntries.1 (same ▸ among))
    · rcases List.mem_append.1 among with among | last
      · exact laws.entriesDone j among
      · cases List.mem_singleton.1 last
        exact done
    · show (s.link.replies ++ [_]).countP _ ≤ 4
      rw [List.countP_append]
      exact laws.fewRefusals
    · intro t k st among
      refine laws.refusalStatus t k st ((List.mem_append.1 among).resolve_right fun last => ?_)
      cases List.mem_singleton.1 last

theorem RestartLaws.requeued (laws : RestartLaws s) (i : SlotId) : RestartLaws (requeue s i) := by
  refine laws.listed fun e among => ?_
  unfold queueSlotEntry
  split
  · exact among
  · exact List.mem_append_left _ among

theorem Status.code_eq_zero_iff {status : Status} : status.code = 0 ↔ status = .ok := by cases status <;> decide

theorem isRestartReply_replyFrame {tag kind : Byte} {r : Reply} :
    (replyFrame tag kind r).kind = 0x83 ∧ (replyFrame tag kind r).body = [0] ↔ kind = 0x03 ∧ r = bare .ok := by
  have kinds : kind + 0x80 = 0x83 ↔ kind = 0x03 := by bv_omega
  refine and_congr kinds ?_
  obtain ⟨status, data⟩ := r
  show status.code :: data = [0] ↔ _
  rw [List.cons.injEq, show status.code = (0 : Byte) ↔ _ from Status.code_eq_zero_iff]
  simp [bare]

/-- The frame of an entry is the OK reply of a RESTART exactly when the entry is its slot's (R175). -/
theorem isRestartReply_entryFrame (laws : TableLaws s) {e : ReplyEntry} (listed : e ∈ s.link.replies) {f : HostFrame}
    (frame : entryFrame s e = some f) : isRestartReply f = true ↔ ∃ i, e = .slot i ∧ (s.slot i).isRestartOk = true := by
  cases e with
  | refusal tag kind status =>
    cases frame
    refine iff_of_false (fun is => ?_) nofun
    rw [isRestartReply_iff] at is
    have body : status.code :: [] = [0] := is.2
    rcases laws.refusalStatus tag kind status listed with rfl | rfl <;> exact absurd body (by decide)
  | slot i =>
    cases is : s.slot i with
    | free => simp [entryFrame, is] at frame
    | active q => simp [entryFrame, is] at frame
    | done q r =>
      have frame : replyFrame q.tag q.kind r = f := by simpa [entryFrame, is] using frame
      subst frame
      rw [isRestartReply_iff, isRestartReply_replyFrame]
      constructor
      · rintro ⟨kind, rfl⟩
        exact ⟨i, rfl, by rw [is]; exact RequestSlot.isRestartOk_iff.2 ⟨q, rfl, kind⟩⟩
      · rintro ⟨j, here, ok⟩
        cases here
        rw [is] at ok
        obtain ⟨p, same, kind⟩ := RequestSlot.isRestartOk_iff.1 ok
        cases same
        exact ⟨kind, rfl⟩

theorem TableLaws.replyStarts (laws : TableLaws s) : TableLaws (replyStarts s) := by
  unfold Machine.replyStarts
  split
  · next e rest _ replies =>
    split
    · next f _ =>
      have sub : rest.Sublist s.link.replies := by rw [replies]; exact List.sublist_cons_self e rest
      exact { laws with
        entriesOnce := (sub.filterMap _).nodup laws.entriesOnce
        entriesDone := fun i listed => laws.entriesDone i (sub.subset listed)
        fewRefusals := sub.countP_le.trans laws.fewRefusals
        refusalStatus := fun t k st listed => laws.refusalStatus t k st (sub.subset listed) }
    · exact laws
  · exact laws

theorem RestartLaws.replyStarts (table : TableLaws s) (laws : RestartLaws s) : RestartLaws (replyStarts s) := by
  unfold Machine.replyStarts
  split
  · next e rest tx replies =>
    split
    · next f frame =>
      have restarts := isRestartReply_entryFrame table (by rw [replies]; exact List.mem_cons_self) frame
      have off : s.restartOnLine = false := by rw [State.restartOnLine, tx]
      refine { laws with linePending := fun running sent => ?_, pendingReply := fun running pending => ?_ }
      · obtain ⟨i, -, ok⟩ := restarts.1 sent
        exact laws.replyPending i ok
      · obtain ⟨i, ok, listed⟩ := (laws.pendingReply running pending).resolve_left (by rw [off]; decide)
        rw [replies, List.mem_cons] at listed
        rcases listed with here | later
        · exact .inl (restarts.2 ⟨i, here.symm, ok⟩)
        · exact .inr ⟨i, ok, later⟩
    · exact laws
  · exact laws

/-- The transmitter changes to a state without the frame of an OK RESTART reply, as it was before. -/
theorem RestartLaws.transmits (laws : RestartLaws s) {t : State} (off : s.restartOnLine = false) (offToo : t.restartOnLine = false)
    (requests : t.requests = s.requests) (replies : t.link.replies = s.link.replies) (line : t.line = s.line)
    (store : t.store = s.store) : RestartLaws t := by
  have slot (i : SlotId) : t.slot i = s.slot i := by rw [State.slot, State.slot, requests]
  refine ⟨?_, ?_, ?_, ?_, ?_⟩
  · simp only [slot]; exact laws.single
  · simp only [slot, store]; exact laws.replyPending
  · rw [offToo]; exact nofun
  · simp only [slot, store, line, replies, offToo, ← off]; exact laws.pendingReply
  · rw [store]; exact laws.pendingIdle

end

end Sys2Proof.Machine
end

section
/-! No request is forgotten (R183): what every operation does to the requests that are owed a reply, and the step's laws of the
Request Table (R164, R172, R177, R180). -/

namespace Sys2Proof.Machine

set_option Elab.async false

/-! ## The ledger of ACTIVE requests -/

/-- The laws of table, list and restart, with `owed` the ACTIVE requests that an owner owes their replies and `fresh` the request
that has been placed and is not answered yet, if any. -/
structure Ledger (s : State) (fresh : Option (SlotId × RequestId)) (owed : List SlotId) : Prop where
  table : TableLaws s
  restart : RestartLaws s
  once : ((fresh.map (·.1)).toList ++ owed).Nodup
  active : ∀ i, i ∈ (fresh.map (·.1)).toList ++ owed ↔ (s.slot i).isActive = true
  held : ∀ i q, fresh = some (i, q) → s.slot i = .active q
  kinds : ∀ i ∈ owed, ∀ q, s.slot i = .active q → longRunning q.kind

theorem SafeState.ledger {s : State} (safe : SafeState s) (running : s.line = .running) : Ledger s none (owedSlots s) where
  table := safe.requests.table
  restart := safe.restart
  once := (safe.owed running).1
  active := (safe.owed running).2
  held := nofun
  kinds i _ q active := safe.requests.activeKinds i q active

/-- The laws that the ledger of a state stands for. -/
structure Accounted (s : State) : Prop where
  requests : RequestLaws s
  restart : RestartLaws s
  owed : NoRequestForgotten s

theorem Ledger.accounted {s : State} (ledger : Ledger s none (owedSlots s)) : Accounted s where
  requests :=
    { ledger.table with
      activeKinds := fun i q active =>
        ledger.kinds i ((ledger.active i).2 (by rw [active]; rfl)) q active }
  restart := ledger.restart
  owed _ := ⟨ledger.once, ledger.active⟩

section
variable {s t : State} {fresh : Option (SlotId × RequestId)} {owed : List SlotId} (ledger : Ledger s fresh owed)
include ledger

theorem Ledger.perm {owed' : List SlotId} (same : owed.Perm owed') : Ledger s fresh owed' where
  table := ledger.table
  restart := ledger.restart
  once := (same.append_left _).nodup_iff.1 ledger.once
  active i := ((same.append_left _).mem_iff).symm.trans (ledger.active i)
  held := ledger.held
  kinds i listed := ledger.kinds i (same.mem_iff.2 listed)

theorem Ledger.of_same (requests : t.requests = s.requests) (link : t.link = s.link) (line : t.line = s.line)
    (pending : t.store.restartPending = s.store.restartPending)
    (activity : s.store.restartPending = true → t.store.activity = s.store.activity) : Ledger t fresh owed := by
  have slot (i : SlotId) : t.slot i = s.slot i := by rw [State.slot, State.slot, requests]
  refine ⟨ledger.table.of_same requests (by rw [link]), ledger.restart.of_same requests link line pending activity, ledger.once,
    ?_, ?_, ?_⟩ <;> simp only [slot]
  · exact ledger.active
  · exact ledger.held
  · exact ledger.kinds

/-- The reply of a request placed before is owed by an owner from now on (R183). -/
theorem Ledger.adopted {i : SlotId} {q : RequestId} (is : fresh = some (i, q)) (long : longRunning q.kind) :
    Ledger s none (i :: owed) := by
  subst is
  refine ⟨ledger.table, ledger.restart, ledger.once, ledger.active, nofun, fun j listed p active => ?_⟩
  rcases List.mem_cons.1 listed with rfl | listed
  · cases (ledger.held j q rfl).symm.trans active
    exact long
  · exact ledger.kinds j listed p active

end

section
variable {s : State} {fresh : Option (SlotId × RequestId)} {owed : List SlotId} {i : SlotId}

theorem complete_isActive {q : RequestId} (active : s.slot i = .active q) (r : Reply) (j : SlotId) :
    ((complete s i r).slot j).isActive = true ↔ j ≠ i ∧ (s.slot j).isActive = true := by
  rw [complete_slot active]
  split
  · next here => exact iff_of_false nofun fun is => is.1 here
  · next other => exact (and_iff_right other).symm

/-- A request that is owed a reply is answered. -/
theorem Ledger.complete (ledger : Ledger s fresh (i :: owed)) (r : Reply) : Ledger (complete s i r) fresh owed := by
  obtain ⟨q, active⟩ := RequestSlot.isActive_iff.1 ((ledger.active i).1 (by simp))
  have long := ledger.kinds i List.mem_cons_self q active
  have middle : ((fresh.map (·.1)).toList ++ i :: owed).Perm (i :: ((fresh.map (·.1)).toList ++ owed)) := List.perm_middle
  obtain ⟨unlisted, once⟩ := List.nodup_cons.1 (middle.nodup_iff.1 ledger.once)
  refine ⟨ledger.table.complete active r, ledger.restart.complete active r ledger.table fun kind => ?_, once, fun j => ?_,
    fun j p is => ?_, fun j listed p held => ?_⟩
  · rw [kind] at long
    unfold longRunning at long
    exact absurd long (by decide)
  · rw [complete_isActive active, ← ledger.active, middle.mem_iff, List.mem_cons]
    exact ⟨fun listed => ⟨fun here => unlisted (here ▸ listed), .inr listed⟩,
      fun ⟨other, listed⟩ => listed.resolve_left other⟩
  · have other : j ≠ i := by
      rintro rfl
      exact unlisted (by rw [is]; simp)
    rw [complete_slot_ne s other]
    exact ledger.held j p is
  · have other : j ≠ i := by
      rintro rfl
      exact unlisted (List.mem_append_right _ listed)
    rw [complete_slot_ne s other] at held
    exact ledger.kinds j (List.mem_cons_of_mem i listed) p held

theorem Ledger.completions {done : List SlotId} {e : State} (ended : Completions s done e) :
    Ledger s fresh (done ++ owed) → Ledger e fresh owed := by
  induction ended with
  | nil => exact id
  | cons i r _ ih => exact fun ledger => ih (ledger.complete r)

/-- The completed state has one ACTIVE request less. -/
theorem Ledger.closed {t : State} {q : RequestId} (ledger : Ledger s (some (i, q)) owed) (table : TableLaws t)
    (restart : RestartLaws t) (slot : ∀ j, t.slot j = (Machine.complete s i (bare .ok)).slot j ∨
      ∃ r, t.slot j = (Machine.complete s i r).slot j) : Ledger t none owed := by
  have active := ledger.held i q rfl
  have each (j : SlotId) : ∃ r, t.slot j = (Machine.complete s i r).slot j := (slot j).elim (fun is => ⟨_, is⟩) id
  obtain ⟨unlisted, once⟩ := List.nodup_cons.1 ledger.once
  refine ⟨table, restart, once, fun j => ?_, nofun, fun j listed p held => ?_⟩
  · obtain ⟨r, is⟩ := each j
    rw [is, complete_isActive active, ← ledger.active]
    show j ∈ owed ↔ j ≠ i ∧ j ∈ i :: owed
    rw [List.mem_cons]
    exact ⟨fun listed => ⟨fun here => unlisted (here ▸ listed), .inr listed⟩,
      fun ⟨other, listed⟩ => listed.resolve_left other⟩
  · obtain ⟨r, is⟩ := each j
    have other : j ≠ i := fun here => unlisted (here ▸ listed)
    rw [is, complete_slot_ne s other] at held
    exact ledger.kinds j listed p held

/-- A placed request is answered at once, unless it is a RESTART that succeeds. -/
theorem Ledger.answered {q : RequestId} (ledger : Ledger s (some (i, q)) owed) {r : Reply}
    (other : q.kind = RequestKind.restart.code → r ≠ bare .ok) : Ledger (Machine.complete s i r) none owed :=
  ledger.closed (ledger.table.complete (ledger.held i q rfl) r)
    (ledger.restart.complete (ledger.held i q rfl) r ledger.table other) fun _ => .inr ⟨r, rfl⟩

/-- A RESTART succeeds (R186). -/
theorem Ledger.restarts {q : RequestId} (ledger : Ledger s (some (i, q)) owed) (kind : q.kind = RequestKind.restart.code)
    (idle : s.store.activity = .idle) (free : s.store.restartPending = false) :
    Ledger (Machine.complete { s with store := { s.store with restartPending := true } } i (bare .ok)) none owed := by
  have active := ledger.held i q rfl
  have restart := ledger.restart.restarts active ledger.table kind idle free
  generalize is_t : ({ s with store := { s.store with restartPending := true } } : State) = t at restart ⊢
  have table : TableLaws t := by rw [← is_t]; exact ledger.table.of_same rfl rfl
  have slot (j : SlotId) : t.slot j = s.slot j := by rw [← is_t]; rfl
  have activeToo : t.slot i = .active q := (slot i).trans active
  refine ledger.closed (table.complete activeToo _) restart fun j => .inl ?_
  rw [complete_slot activeToo, complete_slot active, slot]

theorem Ledger.placed {q : RequestId} (ledger : Ledger s none owed) (place : Placeable s i q) :
    Ledger (placeRequest s i q) (some (i, q)) owed := by
  have unlisted : i ∉ owed := fun listed => by
    have active := (ledger.active i).1 listed
    rw [place.idle] at active
    cases active
  refine ⟨ledger.table.placed place, ledger.restart.placed, List.nodup_cons.2 ⟨unlisted, ledger.once⟩, fun j => ?_,
    fun j p is => ?_, fun j listed p held => ?_⟩
  · show j ∈ i :: owed ↔ _
    rw [List.mem_cons, placeRequest_slot]
    split
    · next here => exact iff_of_true (.inl here) rfl
    · next other => exact (or_iff_right other).trans (ledger.active j)
  · cases is
    exact placeRequest_slot_self s i q
  · have other : j ≠ i := fun here => unlisted (here ▸ listed)
    rw [placeRequest_slot_ne s other] at held
    exact ledger.kinds j listed p held

end

/-! ## What is owed -/

theorem owedSlots_perm {s t : State} {done : LaneId → List SlotId} {learn commit : List SlotId}
    (lanes : ∀ k, (done k ++ (t.lane k).hostWork).Perm (s.lane k).hostWork)
    (learned : learn ++ (t.translator.learn.map (·.slot)).toList = (s.translator.learn.map (·.slot)).toList)
    (committed : commit ++ (t.store.commit.map (·.slot)).toList = (s.store.commit.map (·.slot)).toList) :
    (owedSlots s).Perm (((List.finRange 8).flatMap done ++ learn ++ commit) ++ owedSlots t) := by
  have work : ((List.finRange 8).flatMap done ++ (List.finRange 8).flatMap fun l => (t.lane l).hostWork).Perm
      ((List.finRange 8).flatMap fun l => (s.lane l).hostWork) :=
    (List.flatMap_append_perm ..).trans (List.Perm.flatMap_left _ fun k _ => lanes k)
  refine List.perm_iff_count.2 fun a => ?_
  have count := work.count_eq a
  simp only [owedSlots, ← learned, ← committed, List.count_append] at count ⊢
  omega

/-- Where no lane's host work changes. -/
theorem owedSlots_kept {s t : State} {learn commit : List SlotId} (lanes : ∀ k, (t.lane k).hostWork = (s.lane k).hostWork)
    (learned : learn ++ (t.translator.learn.map (·.slot)).toList = (s.translator.learn.map (·.slot)).toList)
    (committed : commit ++ (t.store.commit.map (·.slot)).toList = (s.store.commit.map (·.slot)).toList) :
    (owedSlots s).Perm ((learn ++ commit) ++ owedSlots t) := by
  have perm := owedSlots_perm (s := s) (t := t) (done := fun _ => []) (fun k => by rw [lanes]; exact List.Perm.refl _)
    learned committed
  rwa [List.flatMap_eq_nil_iff.2 fun _ _ => rfl, List.nil_append] at perm

/-- Where the host work of one lane changes. -/
theorem owedSlots_lane {s t : State} {l : LaneId} {done : List SlotId}
    (lane : (done ++ (t.lane l).hostWork).Perm (s.lane l).hostWork)
    (others : ∀ k, k ≠ l → (t.lane k).hostWork = (s.lane k).hostWork)
    (learned : t.translator.learn = s.translator.learn) (committed : t.store.commit = s.store.commit) :
    (owedSlots s).Perm (done ++ owedSlots t) := by
  have perm := owedSlots_perm (s := s) (t := t) (done := fun k => if k = l then done else []) (learn := []) (commit := [])
    (fun k => ?_) (by rw [learned]; rfl) (by rw [committed]; rfl)
  · rw [flatMap_of_others (List.nodup_finRange 8) (List.mem_finRange l) fun k other => if_neg other, if_pos rfl] at perm
    simpa using perm
  · split
    · next here => subst here; exact lane
    · next other => rw [others k other]; exact List.Perm.refl _

/-! ## Requests -/

section
variable {s t u : State} {fresh : Option (SlotId × RequestId)}

/-- Where lanes keep their place and requests, link, store and LEARN stay. -/
theorem Ledger.kept (ledger : Ledger s fresh (owedSlots s)) (lanes : LanesKept s t) (requests : t.requests = s.requests)
    (link : t.link = s.link) (line : t.line = s.line) (store : t.store = s.store)
    (learn : t.translator.learn = s.translator.learn) : Ledger t fresh (owedSlots t) := by
  have same := owedSlots_kept (s := s) (t := t) (learn := []) (commit := []) (fun k => (lanes k).hostWork)
    (by rw [learn]; rfl) (by rw [store]; rfl)
  exact (ledger.perm same).of_same requests link line (by rw [store]) fun _ => by rw [store]

/-- A LEARN waiter is answered and cleared (R74 to R76). -/
theorem Ledger.learned (ledger : Ledger s fresh (owedSlots s)) {w : LearnWaiter} (waiting : s.translator.learn = some w)
    (r : Reply) (requests : t.requests = (Machine.complete (clearLearn s) w.slot r).requests)
    (link : t.link = (Machine.complete (clearLearn s) w.slot r).link) (line : t.line = s.line) (store : t.store = s.store)
    (lanes : LanesKept s t) (learn : t.translator.learn = none) : Ledger t fresh (owedSlots t) := by
  have same := owedSlots_kept (s := s) (t := t) (learn := [w.slot]) (commit := []) (fun k => (lanes k).hostWork)
    (by rw [learn, waiting]; rfl) (by rw [store]; rfl)
  have cleared : Ledger (clearLearn s) fresh (w.slot :: owedSlots t) :=
    (ledger.perm same).of_same rfl rfl rfl rfl fun _ => rfl
  have answered := cleared.complete r
  refine answered.of_same requests link ?_ ?_ fun _ => ?_
  · rw [line, complete_line]; rfl
  · rw [store, complete_store]; rfl
  · rw [store, complete_store]; rfl

/-- The lanes that leave RUNNING under a replaced configuration have their requests answered (R147). -/
theorem Ledger.replaced (laws : ∀ l, LaneLaws (s.lane l)) (ledger : Ledger s fresh (owedSlots s)) (image : ConfigImage) :
    Ledger (replaced s image) fresh (owedSlots (Machine.replaced s image)) := by
  have frame := replaced_frame s image
  generalize is_work : settingsWork (replaceDefinitions s image) s.config.working.lanes (List.finRange 8) = work at frame
  have ended := Completions.all s work (bare .aborted)
  have outline := completeAll_outline s work (bare .aborted)
  have line : (Machine.replaced s image).line = (completeAll s work (bare .aborted)).line := by rw [frame]
  have store : (Machine.replaced s image).store = (completeAll s work (bare .aborted)).store := by rw [frame]
  have learn : (Machine.replaced s image).translator.learn = s.translator.learn := by rw [frame]
  have perm := owedSlots_perm (s := s) (t := Machine.replaced s image) (learn := []) (commit := [])
    (done := fun l => if leavesBy (replaceDefinitions s image) s.config.working.lanes l then (s.lane l).hostWork else [])
    (fun k => ?_) (by rw [learn]; rfl) (by rw [store, outline]; rfl)
  · have same : (List.finRange 8).flatMap
        (fun l => if leavesBy (replaceDefinitions s image) s.config.working.lanes l then (s.lane l).hostWork else []) =
          work := by
      rw [← is_work]
      exact List.flatMap_congr fun l _ => by rw [lane_replaceDefinitions]; rfl
    rw [same, List.append_nil, List.append_nil] at perm
    refine (Ledger.completions ended (ledger.perm perm)).of_same ?_ ?_ line ?_ fun _ => ?_
    · rw [frame]
    · rw [frame]
    · rw [store]
    · rw [store]
  · obtain ⟨y, takes, keeps⟩ := lane_replaced_takes s image k
    rw [leavesBy_replaceDefinitions, (keeps false).hostWork, takes.hostWork (laws k)]

/-- Lanes that take new settings complete what they drop, and nothing else is owed (R114, R115). -/
theorem Ledger.resettled (laws : WorkLaws s) (ledger : Ledger s fresh (owedSlots s)) (settles : Resettles s u) :
    Ledger u fresh (owedSlots u) := by
  obtain ⟨-, image, -, rfl⟩ := settles.replaced laws
  exact ledger.replaced laws.lanes image

/-- What ends CONFIG mode leaves everything that a request is owed by (R139). -/
theorem leftConfig_setMode_frame (s : State) : ∃ table lanes config, leftConfig (setMode s .run) =
    { s with table := table, lanes := lanes, config := config } := ⟨_, _, _, rfl⟩

/-- CONFIG mode is left with LEARN answered ABORTED (R139). -/
theorem Ledger.configLeft (ledger : Ledger s fresh (owedSlots s)) (kept : LanesKept s (leftConfig (setMode (abortLearn s) .run))) :
    Ledger (leftConfig (setMode (abortLearn s) .run)) fresh (owedSlots (leftConfig (setMode (abortLearn s) .run))) := by
  obtain ⟨_, _, _, frame⟩ := leftConfig_setMode_frame (abortLearn s)
  rw [frame, abortLearn_frame] at kept ⊢
  cases waiting : s.translator.learn with
  | none =>
    have idle : abortLearn s = s := by unfold abortLearn; rw [waiting]
    have requests : (abortLearn s).requests = s.requests := by rw [idle]
    have link : (abortLearn s).link = s.link := by rw [idle]
    exact ledger.kept kept requests link rfl rfl waiting.symm
  | some w =>
    have ends : abortLearn s = Machine.complete (clearLearn s) w.slot (bare .aborted) := by
      unfold abortLearn
      rw [waiting]
      rfl
    have requests := congrArg State.requests ends
    have link := congrArg State.link ends
    exact ledger.learned waiting (bare .aborted) requests link rfl rfl kept rfl

theorem Ledger.worked (laws : WorkLaws s) (ledger : Ledger s fresh (owedSlots s)) (work : Worked s u) :
    Ledger u fresh (owedSlots u) := by
  rcases work.lanesKept with settles | kept
  · exact ledger.resettled laws settles
  cases work
  case nothing => exact ledger
  case opened w _ _ _ => exact ledger.kept kept rfl rfl rfl rfl rfl
  case acked n w _ delivering _ =>
    rw [admitAck_eq laws.delivery delivering] at kept ⊢
    exact ledger.kept kept rfl rfl rfl rfl rfl
  case closed =>
    rw [closeSession_eq] at kept ⊢
    exact ledger.kept kept rfl rfl rfl rfl rfl
  case lampsWritten => exact ledger.kept kept rfl rfl rfl rfl rfl
  case lampsReleased => exact ledger.kept kept rfl rfl rfl rfl rfl
  case faultCleared => exact ledger.kept kept rfl rfl rfl rfl rfl
  case configEntered => exact ledger.kept kept rfl rfl rfl rfl rfl
  case configLeft => exact ledger.configLeft kept
  case edited => exact ledger.kept kept rfl rfl rfl rfl rfl
  case worked => exact ledger.kept kept rfl rfl rfl rfl rfl
  case laneSet l new config type => exact ledger.resettled laws (.inl ⟨l, new, config, type, rfl⟩)
  case replaced image config which => exact ledger.resettled laws (.inr ⟨image, config, which, rfl⟩)

theorem Ledger.served {i : SlotId} {q : RequestId} (laws : WorkLaws s) (ledger : Ledger s (some (i, q)) (owedSlots s))
    (served : Served q.kind i s t) : Ledger t none (owedSlots t) := by
  have owes {i : SlotId} {t : State} (listed : (owedSlots t).Perm (i :: owedSlots s)) (long : longRunning q.kind)
      (ledger : Ledger s (some (i, q)) (owedSlots s)) (requests : t.requests = s.requests) (link : t.link = s.link)
      (line : t.line = s.line) (pending : t.store.restartPending = s.store.restartPending)
      (activity : s.store.restartPending = true → t.store.activity = s.store.activity) : Ledger t none (owedSlots t) :=
    ((ledger.adopted rfl long).perm listed.symm).of_same requests link line pending activity
  cases served
  case answered u r work other =>
    have same : owedSlots (Machine.complete u i r) = owedSlots u := by
      simp only [owedSlots, complete_lane, complete_translator, complete_store]
    rw [same]
    exact (ledger.worked laws work).answered other
  case restarts kind idle free =>
    have same : owedSlots (Machine.complete { s with store := { s.store with restartPending := true } } i (bare .ok)) =
        owedSlots s := by
      simp only [owedSlots, complete_lane, complete_translator, complete_store]
      rfl
    rw [same]
    exact ledger.restarts kind idle free
  case laneEntry l k kind _ _ _ =>
    refine owes ?_ (.inl kind) ledger rfl rfl rfl rfl fun _ => rfl
    refine owedSlots_lane (l := l) (done := [i]) ?_ (fun k other => ?_) rfl rfl
    · rw [State.lane_modLane_self, hostWork_eq, hostWork_eq, List.filterMap_append]
      refine List.perm_iff_count.2 fun a => ?_
      simp only [List.count_append, List.filterMap_cons, List.filterMap_nil]
      omega
    · rw [State.lane_modLane_ne _ other]
  case lampsWait l y mask values kind _ is _ =>
    refine owes ?_ (.inr (.inl kind)) ledger rfl rfl rfl rfl fun _ => rfl
    have work : y.hostWork = (s.lane l).hostWork := by
      rw [is]
      exact (Lane.Keeps.hostLamps false (s.lane l) mask values).hostWork
    refine owedSlots_lane (l := l) (done := [i]) ?_ (fun k other => ?_) rfl rfl
    · rw [State.lane_setLane_self, ← work, hostWork_eq, hostWork_eq, List.map_append]
      refine List.perm_iff_count.2 fun a => ?_
      simp only [List.count_append, List.map_cons, List.map_nil]
      omega
    · rw [State.lane_setLane_ne _ other]
  case learning w kind _ free slot =>
    refine owes ?_ (.inr (.inr (.inl kind))) ledger rfl rfl rfl rfl fun _ => rfl
    refine owedSlots_kept (learn := [i]) (commit := []) (fun _ => rfl) ?_ rfl
    rw [free, ← slot]
    rfl
  case committed kind _ other free _ =>
    have none : s.store.commit = none := by
      rw [← Option.not_isSome_iff_eq_none, laws.store.committing]
      exact other
    have store : (takeCommit s i).store.restartPending = s.store.restartPending ∧
        (takeCommit s i).store.commit.map (·.slot) = some i := by
      unfold takeCommit
      dsimp only
      split <;> exact ⟨rfl, rfl⟩
    refine owes ?_ (.inr (.inr (.inr kind))) ledger rfl rfl rfl store.1 fun pending => ?_
    · refine owedSlots_kept (learn := []) (commit := [i]) (fun _ => rfl) rfl ?_
      rw [none, store.2]
      rfl
    · exact absurd (pending.symm.trans free) (by decide)

theorem Ledger.received (laws : WorkLaws s) (ledger : Ledger s none (owedSlots s)) (received : Received s t) :
    Ledger t none (owedSlots t) := by
  cases received
  case refused tag kind status which room =>
    exact ⟨ledger.table.refused which room, ledger.restart.listed fun e among => List.mem_append_left _ among, ledger.once,
      ledger.active, nofun, ledger.kinds⟩
  case repeated i done =>
    exact ⟨ledger.table.requeued done, ledger.restart.requeued i, ledger.once, ledger.active, nofun, ledger.kinds⟩
  case taken i q tagged place served =>
    have placed : Ledger (placeRequest s i q) (some (i, q)) (owedSlots (placeRequest s i q)) :=
      ledger.placed (.of_place ledger.table tagged place)
    exact placed.served (laws.placed i q) served

end

/-! ## Lanes, turns and the store -/

section
variable {s t : State} (ledger : Ledger s none (owedSlots s))
include ledger

/-- Requests of lane `l` complete and the lane keeps the rest of its host work. -/
theorem Ledger.laneWork {l : LaneId} {done : List SlotId} {e : State} (ended : Completions s done e)
    (lane : (done ++ (t.lane l).hostWork).Perm (s.lane l).hostWork)
    (others : ∀ k, k ≠ l → (t.lane k).hostWork = (s.lane k).hostWork) (requests : t.requests = e.requests)
    (link : t.link = e.link) (line : t.line = s.line) (store : t.store = s.store)
    (learn : t.translator.learn = s.translator.learn) : Ledger t none (owedSlots t) := by
  have perm := owedSlots_lane lane others learn (by rw [store])
  have same : e.line = s.line ∧ e.store = s.store := by rw [ended.frame]; exact ⟨rfl, rfl⟩
  refine ((ledger.perm perm).completions ended).of_same requests link (line.trans same.1.symm) ?_ fun _ => ?_
  · rw [store, same.2]
  · rw [store, same.2]

theorem Ledger.moved {l : LaneId} (moved : LaneMoved s l t) : Ledger t none (owedSlots t) := by
  cases moved
  case stays e y done ended becomes =>
    refine ledger.laneWork ended (l := l) ?_ (fun k other => ?_) rfl rfl ?_ ?_ ?_
    · rw [State.lane_setLane_self]; exact becomes.owed
    · rw [State.lane_setLane_ne _ other, lane_of_completions ended.frame]
    · rw [ended.frame]; rfl
    · rw [ended.frame]; rfl
    · rw [ended.frame]; rfl
  case leaves e x f done run ended lamps ends lawful enabled setFor work wanted owed =>
    have frame := stayEnded_frame (l := l) (x := x) (status := .laneDown) (f := f) ended.frame
    have all := ended.append (Completions.all e x.hostWork (bare .laneDown))
    refine ledger.laneWork all (l := l) ?_ (fun k other => ?_) ?_ ?_ ?_ ?_ ?_
    · have none : ((stayEnded s e l x .laneDown f).lane l).hostWork = [] := by
        rw [lane_stayEnded ended.frame lamps ends, if_pos rfl]
        exact work
      rw [none, List.append_nil]
      exact owed
    · rw [lane_stayEnded ended.frame lamps ends, if_neg other, hostWork_withDesired]
    · rw [frame]
    · rw [frame]
    · rw [frame]
    · rw [frame]
    · rw [frame]
  case enters x starting idle fits list wanted rest calm proper =>
    have frame := stayBegun_frame s l x
    refine ledger.laneWork (.nil s) (l := l) ?_ (fun k other => ?_) ?_ ?_ ?_ ?_ ?_
    · have none : ((stayBegun s l x).lane l).hostWork = [] := by
        have entry : x.inProgress = .none := rest.inProgress
        have waiters : x.waiters = [] := calm.waiters
        rw [lane_stayBegun_self s l (by rw [starting]; decide) list]
        show (x.inProgress.bind (·.request)).toList ++ [] ++ x.waiters.map (·.slot) = []
        rw [entry, waiters]
        rfl
      rw [none, idle]
      exact List.Perm.refl _
    · rw [lane_stayBegun_ne _ _ _ other, hostWork_withDesired]
    · rw [frame]
    · rw [frame]
    · rw [frame]
    · rw [frame]
    · rw [frame]

theorem Ledger.turned (turned : Turned s t) : Ledger (settleLamps s t) none (owedSlots (settleLamps s t)) := by
  have kept := turned.lanesKept
  cases turned
  case idle => exact ledger.kept kept rfl rfl rfl rfl rfl
  case waits => exact ledger.kept kept rfl rfl rfl rfl rfl
  case status l _ _ _ =>
    rw [statusTurn, placeRecord_eq] at kept ⊢
    exact ledger.kept kept rfl rfl rfl rfl rfl
  case byte l b p u _ _ _ _ routed =>
    rw [placeRecord_eq] at kept ⊢
    cases routed
    case nothing => exact ledger.kept kept rfl rfl rfl rfl rfl
    case learned w r _ waiting =>
      refine ledger.learned waiting r rfl rfl ?_ ?_ kept ?_
      · exact complete_line (clearLearn s) w.slot r
      · exact complete_store (clearLearn s) w.slot r
      · exact congrArg Translator.learn (complete_translator (clearLearn s) w.slot r)
    case acted c d ext release _ _ =>
      unfold takeAction at kept ⊢
      obtain ⟨_, e⟩ := actionState_frame s c d release
      rw [e] at kept ⊢
      exact ledger.kept kept rfl rfl rfl rfl rfl

/-- Where link and Delivery Unit alone change, and the laws of table and restart hold. -/
theorem Ledger.linked (frame : t = { s with link := t.link, delivery := t.delivery }) (table : TableLaws t)
    (restart : RestartLaws t) : Ledger t none (owedSlots t) := by
  have slot (i : SlotId) : t.slot i = s.slot i := by rw [frame]; rfl
  have owed : owedSlots t = owedSlots s := by rw [frame]; rfl
  rw [owed]
  refine ⟨table, restart, ledger.once, ?_, nofun, ?_⟩ <;> simp only [slot]
  · exact ledger.active
  · exact ledger.kinds

theorem Ledger.replyStarts : Ledger (replyStarts s) none (owedSlots (Machine.replyStarts s)) := by
  refine ledger.linked ?_ ledger.table.replyStarts (ledger.restart.replyStarts ledger.table)
  unfold Machine.replyStarts
  repeat' split
  all_goals rfl

theorem Ledger.replyEnds (off : s.restartOnLine = false) :
    Ledger { s with link := { s.link with tx := .idle } } none (owedSlots { s with link := { s.link with tx := .idle } }) :=
  ledger.linked rfl (ledger.table.of_same rfl rfl) (ledger.restart.transmits off rfl rfl rfl rfl rfl)

theorem Ledger.reportStarts : Ledger (reportStarts s) none (owedSlots (Machine.reportStarts s)) := by
  unfold Machine.reportStarts
  split
  · next idle _ =>
    have off : s.restartOnLine = false := by rw [State.restartOnLine, idle]
    split
    · exact ledger.linked rfl (ledger.table.of_same rfl rfl) (ledger.restart.transmits off rfl rfl rfl rfl rfl)
    · exact ledger
  · exact ledger

theorem Ledger.reportEnds : Ledger (reportEnds s) none (owedSlots (Machine.reportEnds s)) := by
  unfold Machine.reportEnds
  split
  · next report =>
    have off : s.restartOnLine = false := by rw [State.restartOnLine, report]
    exact ledger.linked rfl (ledger.table.of_same rfl rfl) (ledger.restart.transmits off rfl rfl rfl rfl rfl)
  · exact ledger

theorem Ledger.timerExpires : Ledger (timerExpires s) none (owedSlots (Machine.timerExpires s)) := by
  unfold Machine.timerExpires
  repeat' split
  · exact ledger.of_same rfl rfl rfl rfl fun _ => rfl
  · exact ledger.of_same rfl rfl rfl rfl fun _ => rfl
  · exact ledger
  · exact ledger

theorem Ledger.learnExpires : Ledger (learnExpires s) none (owedSlots (Machine.learnExpires s)) := by
  unfold Machine.learnExpires
  split
  · next w waiting =>
    split
    · refine ledger.learned waiting (bare .timeout) rfl rfl ?_ ?_ ?_ ?_
      · exact complete_line (clearLearn s) w.slot _
      · exact complete_store (clearLearn s) w.slot _
      · exact (LanesKept.of_same rfl rfl : LanesKept s (clearLearn s)).trans (complete_lanesKept _ _ _)
      · exact congrArg Translator.learn (complete_translator (clearLearn s) w.slot _)
    · exact ledger
  · exact ledger

theorem Ledger.bankRead (laws : WorkLaws s) (read : BankRead s t) : Ledger t none (owedSlots t) := by
  cases read
  case idle => exact ledger
  case read n _ _ _ => exact ledger.of_same rfl rfl rfl rfl fun _ => rfl
  case voted v voting _ _ =>
    have startup : s.config.mode = .startup := laws.store.voting.1 voting
    have disabled := (laws.controls.startup startup).2
    have stays := leavesBy_loaded (s := voted s v) (image := v.image) disabled
    have store := concludeVote_kept (readBank s.store .c) v
    have lane (l : LaneId) : ((settingsTaken (loaded (voted s v) v.image) s.config.working.lanes (List.finRange 8)).lane l).hostWork =
        (s.lane l).hostWork := by
      have is : (settingsTaken (loaded (voted s v) v.image) s.config.working.lanes (List.finRange 8)).lane l =
          (s.lane l).settingTaken s.config.working.lanes[l] v.image.lanes[l] := lane_settingsTaken_stays stays l
      have work := (Lane.settingTaken_takes (s.lane l) s.config.working.lanes[l] v.image.lanes[l]).hostWork (laws.lanes l)
      have short : (s.lane l).phase ≠ .running := by rw [disabled]; decide
      rw [(laws.lanes l).hostWork_short short] at work
      rw [is, (laws.lanes l).hostWork_short short]
      simpa using work
    have kept := voted_eq disabled v
    rw [kept] at lane ⊢
    have same := owedSlots_kept (s := s) (t := { loaded (voted s v) v.image with
      lanes := settingsLanes (loaded (voted s v) v.image) s.config.working.lanes (List.finRange 8) })
      (learn := []) (commit := []) lane rfl (congrArg (fun c : Option CommitContext => (c.map CommitContext.slot).toList) store.commit)
    refine (ledger.perm same).of_same rfl rfl rfl store.restartPending fun pending => ?_
    exact absurd (voting.symm.trans (ledger.restart.pendingIdle pending)) (by decide)

theorem Ledger.bankWritten (laws : StoreLaws s) (written : BankWritten s t) : Ledger t none (owedSlots t) := by
  have settled (write : s.store.write.isSome = true) (pending : s.store.restartPending = true) : False := by
    have idle := ledger.restart.pendingIdle pending
    rcases laws.writingOnly write with is | is <;> cases idle.symm.trans is
  cases written
  case idle => exact ledger
  case stored st write pending commit =>
    have same := owedSlots_kept (s := s) (t := { s with store := st }) (learn := []) (commit := []) (fun _ => rfl) rfl
      (by rw [← commit]; rfl)
    exact (ledger.perm same).of_same rfl rfl rfl pending fun is => (settled write is).elim
  case ended st c write pending commit =>
    have frame := commitEnds_frame { s with store := st } c
    have same := owedSlots_kept (s := s) (t := commitEnds { s with store := st } c) (learn := []) (commit := [c.slot])
      (fun l => by rw [frame]; rfl) (by rw [frame]; rfl) (by rw [frame, commit]; rfl)
    unfold commitEnds at same ⊢
    dsimp only at same ⊢
    generalize Reply.mk _ _ = r at same ⊢
    have stored := (ledger.perm same).of_same (t := recomputeDirty { s with
      store := { st with
        standing := standingOfGood c.good, generation := c.generation, activity := .idle, commit := none, write := none }
      config := { s.config with storeCopy := if c.good = 0 then .defaults else c.snapshot } })
      rfl rfl rfl pending fun is => (settled write is).elim
    exact stored.complete r

end

/-! ## Moves -/

theorem Accounted.reset (s : State) (cause : ResetCause) (straps : BitVec 2) : Accounted (resetBlocks s cause straps) := by
  have safe := resetStateKeepsTheLaws.1
  refine Ledger.accounted ?_
  have ledger := safe.ledger rfl
  exact ⟨ledger.table.of_same rfl rfl,
    ⟨safe.restart.single, safe.restart.replyPending, safe.restart.linePending, safe.restart.pendingReply,
      safe.restart.pendingIdle⟩, ledger.once, ledger.active, nofun, ledger.kinds⟩

/-- A reset that begins leaves table, list and restart pending (R163, R176). -/
theorem Accounted.cut {s : State} (safe : SafeState s) (cause : ResetBeginning) : Accounted (hardResetStarts s cause) := by
  have held : (hardResetStarts s cause).line ≠ .running := by
    cases cause <;> cases line : s.line <;> simp [hardResetStarts, lineAfter, line]
  have store : (hardResetStarts s cause).store = cutWrite s.store := rfl
  have kept : (cutWrite s.store).restartPending = s.store.restartPending ∧ (cutWrite s.store).activity = s.store.activity := by
    unfold cutWrite
    split <;> exact ⟨rfl, rfl⟩
  refine ⟨{ safe.requests with }, ⟨safe.restart.single, fun i ok => ?_, fun running => absurd running held,
    fun running => absurd running held, fun pending => ?_⟩, fun running => absurd running held⟩
  · rw [store, kept.1]
    exact safe.restart.replyPending i ok
  · rw [store, kept.1] at pending
    rw [store, kept.2]
    exact safe.restart.pendingIdle pending

theorem Accounted.of_move {s t : State} (safe : SafeState s) (move : Move s t) : Accounted t := by
  have ledger := safe.ledger
  cases move
  case same => exact ⟨safe.requests, safe.restart, safe.owed⟩
  case resetEnds ending straps => exact .reset _ _ straps
  case restarts straps => exact .reset _ _ straps
  case resetBegins cause => exact .cut safe cause
  case received running received => exact ((ledger running).received (safe.works running) received).accounted
  case replyStarts running => exact (ledger running).replyStarts.accounted
  case replyEnds running off => exact ((ledger running).replyEnds off).accounted
  case reportStarts running => exact (ledger running).reportStarts.accounted
  case reportEnds running => exact (ledger running).reportEnds.accounted
  case timer running => exact (ledger running).timerExpires.accounted
  case turn running => exact ((ledger running).turned (takeTurn_turned s)).accounted
  case learnTimeout running => exact (ledger running).learnExpires.accounted
  case lane l running happening =>
    have settings := safe.settings
    have moved := happening.moved ⟨settings.expected l, settings.unexpected l⟩ (safe.lanes running l)
    exact ((ledger running).moved moved).accounted
  case bankRead running =>
    exact ((ledger running).bankRead (safe.works running) (bankReadEnds_bankRead (safe.works running))).accounted
  case bankWrite r running _ =>
    exact ((ledger running).bankWritten safe.store (writeAttemptEnds_bankWritten s r)).accounted

/-- Settles O57: after each move the requests are accounted for. -/
theorem stepsForgetNoRequest : Obligations.StepsForgetNoRequest := by
  unfold Obligations.StepsForgetNoRequest
  have accounted {s t : State} (wf : pendingWf s) (safe : SafeState s) (stepped : step s = .next t) : Accounted t := by
    obtain ⟨u, safe, move⟩ := step_moves safe wf stepped
    exact .of_move safe move
  exact ⟨fun s t wf safe stepped => ⟨(accounted wf safe stepped).requests, (accounted wf safe stepped).restart⟩,
    fun s t wf safe stepped => (accounted wf safe stepped).owed⟩

end Sys2Proof.Machine
end

section
/-! The Control Table under every operation on it, on lanes, mode and definitions (R2, R3, R5, R7, R13 to R16). -/

namespace Sys2Proof.Machine

set_option Elab.async false

/-! ## The laws of the table -/

/-- What `ControlLaws` says of definitions, dynamic parts and selections; the rest it says of lanes and store (R1 to R3, R7, R22). -/
structure ControlOrder (s : State) : Prop where
  keys : s.table.entries.map (·.1) = s.config.working.controls.map (·.1)
  rising : sortedKeys s.config.working.controls
  physical : ∀ c d, s.definition c = some d →
    ((s.control c).physical = .unknown ↔ ¬(s.config.mode = .run ∧ s.boundRunning c = true))
  latched : ∀ c d, s.definition c = some d → (s.control c).latched = true → d.kind = .toggle
  selected : ∀ g c, s.selection g = some c → ∃ d, s.definition c = some d ∧ d.kind = .member g
  startup : s.config.mode = .startup → s.config.working.controls = [] ∧ ∀ l, (s.lane l).phase = .disabled

theorem ControlLaws.order {s : State} (laws : ControlLaws s) : ControlOrder s := { laws with }

/-- With the laws of the store and of the slots, the laws of the Control Table. -/
theorem ControlOrder.laws {s : State} (order : ControlOrder s) (store : StoreLaws s)
    (slots : ∀ l, (s.lane l).slot.isSome → (s.lane l).phase = .running) : ControlLaws s :=
  { order with
    slots := slots
    voting := store.voting
    noWrite := fun voting => by
      constructor
      · rw [← Option.not_isSome_iff_eq_none]
        intro write
        rcases store.writingOnly write with is | is <;> cases voting.symm.trans is
      · rw [← Option.not_isSome_iff_eq_none, store.committing, voting]
        decide }

theorem boundRunning_iff {s : State} {c : ControlId} {d : ControlDef} (defined : s.definition c = some d) :
    s.boundRunning c = true ↔ ∃ b, d.binding = some b ∧ (s.lane b.lane).phase = .running := by
  rw [State.boundRunning, defined]
  cases bound : d.binding <;> simp [bound]

theorem boundTo_iff {s : State} {c : ControlId} {d : ControlDef} {l : LaneId} (defined : s.definition c = some d) :
    s.boundTo c l = true ↔ ∃ b, d.binding = some b ∧ b.lane = l := by
  rw [State.boundTo, defined]
  show defBoundTo d l = true ↔ _
  rw [defBoundTo]
  cases bound : d.binding <;> simp

section
variable {s t : State} (order : ControlOrder s)
include order

theorem ControlOrder.unlisted {c : ControlId} (absent : lookupKey s.table.entries c = none) : s.definition c = none := by
  rw [lookupKey_eq_none_iff, order.keys] at absent
  exact lookupKey_eq_none_iff.2 absent

/-- The same table, definitions and mode, where no lane enters or leaves RUNNING or DISABLED. -/
theorem ControlOrder.of_same (table : t.table = s.table) (controls : t.config.working.controls = s.config.working.controls)
    (mode : t.config.mode = s.config.mode) (running : ∀ l, (t.lane l).phase = .running ↔ (s.lane l).phase = .running)
    (disabled : ∀ l, (t.lane l).phase = .disabled ↔ (s.lane l).phase = .disabled) : ControlOrder t := by
  have definition (c : ControlId) : t.definition c = s.definition c := by
    rw [State.definition, State.definition, controls]
  have control (c : ControlId) : t.control c = s.control c := by rw [State.control, State.control, table]
  have selection (g : GroupId) : t.selection g = s.selection g := by rw [State.selection, State.selection, table]
  refine ⟨?_, ?_, fun c d defined => ?_, ?_, ?_, ?_⟩
  · rw [table, controls]; exact order.keys
  · rw [controls]; exact order.rising
  · have bound : t.boundRunning c = true ↔ s.boundRunning c = true := by
      rw [boundRunning_iff defined, boundRunning_iff (definition c ▸ defined)]
      simp only [running]
    rw [control, mode, bound]
    exact order.physical c d (definition c ▸ defined)
  · simp only [definition, control]; exact order.latched
  · simp only [definition, selection]; exact order.selected
  · rw [mode, controls]
    simp only [disabled]
    exact order.startup

/-- Phases, table and configuration are the same. -/
theorem ControlOrder.of_phases (table : t.table = s.table) (config : t.config = s.config)
    (phase : ∀ l, (t.lane l).phase = (s.lane l).phase) : ControlOrder t :=
  order.of_same table (by rw [config]) (by rw [config]) (fun l => by rw [phase]) fun l => by rw [phase]

/-- The dynamic parts change in their physical states alone. -/
theorem ControlOrder.physicalChanged (keys : t.table.entries.map (·.1) = s.table.entries.map (·.1))
    (selections : t.table.selections = s.table.selections) (controls : t.config.working.controls = s.config.working.controls)
    (latched : ∀ c, (t.control c).latched = (s.control c).latched)
    (physical : ∀ c d, s.definition c = some d →
      ((t.control c).physical = .unknown ↔ ¬(t.config.mode = .run ∧ t.boundRunning c = true)))
    (started : t.config.mode ≠ .startup) : ControlOrder t := by
  have definition (c : ControlId) : t.definition c = s.definition c := by
    rw [State.definition, State.definition, controls]
  have selection (g : GroupId) : t.selection g = s.selection g := by rw [State.selection, State.selection, selections]
  refine ⟨?_, ?_, fun c d defined => physical c d (definition c ▸ defined), ?_, ?_, fun startup => absurd startup started⟩
  · rw [keys, controls]; exact order.keys
  · rw [controls]; exact order.rising
  · simp only [definition, latched]; exact order.latched
  · simp only [definition, selection]; exact order.selected

end

/-! ## Lanes that enter and leave RUNNING (R13, R14) -/

theorem mapControls_keys (s : State) (f : ControlId → ControlState → ControlState) :
    (s.mapControls f).table.entries.map (·.1) = s.table.entries.map (·.1) := by
  show (s.table.entries.map fun e => (e.1, f e.1 e.2)).map (·.1) = _
  rw [List.map_map]
  rfl

section
variable {s e : State} {l : LaneId} {x : Lane} (order : ControlOrder s)
include order

theorem ControlOrder.stayEnded {f : Lane → Lane} {done : List SlotId} (run : (s.lane l).phase = .running)
    (ended : Completions s done e) (lamps : SameLamps (s.lane l) x) (ends : EndsStay f s.delivering) :
    ControlOrder (stayEnded s e l x .laneDown f) := by
  have frame := stayEnded_frame (l := l) (x := x) (status := .laneDown) (f := f) ended.frame
  have started : s.config.mode ≠ .startup := fun startup => by cases run.symm.trans ((order.startup startup).2 l)
  have config : (Machine.stayEnded s e l x .laneDown f).config = s.config := by rw [frame]
  have definition (c : ControlId) : (Machine.stayEnded s e l x .laneDown f).definition c = s.definition c := by
    rw [State.definition, config]; rfl
  have same : e.config = s.config ∧ e.table = s.table ∧ e.time = s.time := by rw [ended.frame]; exact ⟨rfl, rfl, rfl⟩
  have control (c : ControlId) : (Machine.stayEnded s e l x .laneDown f).control c =
      if s.boundTo c l then (s.control c).withPhysical s.time.uptime .unknown else s.control c := by
    have left := control_leftLanes e l x .laneDown c
    have bound : e.boundTo c l = s.boundTo c l := by
      rw [State.boundTo, State.boundTo, State.definition, State.definition, same.1]
    have before : e.control c = s.control c := by rw [State.control, State.control, same.2.1]
    rw [bound, before, same.2.2] at left
    have read : (Machine.stayEnded s e l x .laneDown f).control c = (leftLanes e l x .laneDown).control c := by
      rw [State.control, frame]; rfl
    exact read.trans left
  have keys : (Machine.stayEnded s e l x .laneDown f).table.entries.map (·.1) = s.table.entries.map (·.1) := by
    rw [frame, ← same.2.1]
    show (leftTable e l x .laneDown).table.entries.map (·.1) = _
    rw [leftTable, setBoundPhysical, mapControls_keys]
    show (completeAll e x.hostWork (bare .laneDown)).table.entries.map (·.1) = _
    rw [completeAll_table]
  refine order.physicalChanged keys (by rw [frame]) (by rw [config]) (fun c => ?_) (fun c d defined => ?_)
    (by rw [config]; exact started)
  · rw [control]
    split
    · exact ControlState.withPhysical_latched ..
    · rfl
  · rw [control, config]
    have phases (k : LaneId) : ((Machine.stayEnded s e l x .laneDown f).lane k).phase = .running ↔
        k ≠ l ∧ (s.lane k).phase = .running := by
      rw [lane_stayEnded ended.frame lamps ends]
      split
      · next here => exact iff_of_false (ends.phase _) fun is => is.1 here
      · next other =>
        rw [(Lane.Keeps.withDesired false (s.lane k) _).phase]
        exact (and_iff_right other).symm
    rw [boundRunning_iff (definition c ▸ defined)]
    by_cases bound : s.boundTo c l = true
    · obtain ⟨b, binding, here⟩ := (boundTo_iff defined).1 bound
      rw [if_pos bound, ControlState.withPhysical_physical]
      refine iff_of_true rfl ?_
      rintro ⟨-, o, is, runs⟩
      cases binding.symm.trans is
      exact ((phases b.lane).1 runs).1 here
    · rw [if_neg bound, order.physical c d defined, boundRunning_iff defined]
      refine not_congr (and_congr_right fun _ => exists_congr fun b => and_congr_right fun binding => ?_)
      rw [phases]
      exact (and_iff_right fun here => bound ((boundTo_iff defined).2 ⟨b, binding, here⟩)).symm

theorem ControlOrder.stayBegun (starting : (s.lane l).phase = .starting)
    (list : x.list.filter (fun e => !e.isStartUp) = []) : ControlOrder (stayBegun s l x) := by
  have frame := stayBegun_frame s l x
  have started : s.config.mode ≠ .startup := fun startup => by cases starting.symm.trans ((order.startup startup).2 l)
  have config : (Machine.stayBegun s l x).config = s.config := by rw [frame]
  have definition (c : ControlId) : (Machine.stayBegun s l x).definition c = s.definition c := by
    rw [State.definition, config]; rfl
  have control (c : ControlId) : (Machine.stayBegun s l x).control c =
      if s.config.mode = .run ∧ s.boundTo c l = true then (s.control c).withPhysical s.time.uptime .up else s.control c := by
    have entered := control_enteredTable s l (c := c) order.unlisted
    have read : (Machine.stayBegun s l x).control c = (enteredTable s l).control c := by
      rw [State.control, frame]; rfl
    exact read.trans entered
  have keys : (Machine.stayBegun s l x).table.entries.map (·.1) = s.table.entries.map (·.1) := by
    rw [frame]
    show (enteredTable s l).table.entries.map (·.1) = _
    unfold enteredTable
    split
    · exact mapControls_keys ..
    · rfl
  refine order.physicalChanged keys (by rw [frame]) (by rw [config]) (fun c => ?_) (fun c d defined => ?_)
    (by rw [config]; exact started)
  · rw [control]
    split
    · exact ControlState.withPhysical_latched ..
    · rfl
  · rw [control, config]
    have phases (k : LaneId) : ((Machine.stayBegun s l x).lane k).phase = .running ↔
        k = l ∨ (s.lane k).phase = .running := by
      by_cases here : k = l
      · subst here
        rw [lane_stayBegun_self s k (by rw [starting]; decide) list]
        exact iff_of_true rfl (.inl rfl)
      · rw [lane_stayBegun_ne s l x here, (Lane.Keeps.withDesired false (s.lane k) _).phase]
        exact (or_iff_right here).symm
    rw [boundRunning_iff (definition c ▸ defined)]
    by_cases bound : s.config.mode = .run ∧ s.boundTo c l = true
    · obtain ⟨b, binding, here⟩ := (boundTo_iff defined).1 bound.2
      rw [if_pos bound, ControlState.withPhysical_physical]
      exact iff_of_false nofun fun none => none ⟨bound.1, b, binding, (phases b.lane).2 (.inl here)⟩
    · rw [if_neg bound, order.physical c d defined, boundRunning_iff defined]
      refine not_congr (and_congr_right fun run => exists_congr fun b => and_congr_right fun binding => ?_)
      rw [phases]
      exact (or_iff_right fun here => bound ⟨run, (boundTo_iff defined).2 ⟨b, binding, here⟩⟩).symm

theorem ControlOrder.laneMoved {t : State} (moved : LaneMoved s l t) : ControlOrder t := by
  cases moved
  case stays e y done ended becomes =>
    have same (k : LaneId) : ((e.setLane l y).lane k).phase = .running ↔ (s.lane k).phase = .running := by
      rw [State.lane_setLane]
      split
      · next here => subst here; exact becomes.running
      · rw [lane_of_completions ended.frame]
    have sameToo (k : LaneId) : ((e.setLane l y).lane k).phase = .disabled ↔ (s.lane k).phase = .disabled := by
      rw [State.lane_setLane]
      split
      · next here => subst here; exact becomes.disabled
      · rw [lane_of_completions ended.frame]
    refine order.of_same ?_ ?_ ?_ same sameToo <;> rw [ended.frame] <;> rfl
  case leaves e x f done run ended lamps ends _ _ _ _ _ _ => exact order.stayEnded run ended lamps ends
  case enters x starting _ _ list _ _ _ _ => exact order.stayBegun starting list

end

end Sys2Proof.Machine
end

section
/-! The Control Table under actions, mode changes and new definitions (R5, R7, R9 to R12, R15, R16, R137, R147). -/

namespace Sys2Proof.Machine

set_option Elab.async false

/-! ## Actions (R9 to R12) -/

theorem insertKey_keys {n : Nat} {α : Type} {t : List (Fin n × α)} (rising : sortedKeys t) {k : Fin n}
    (listed : k ∈ t.map (·.1)) (v : α) : (insertKey t k v).map (·.1) = t.map (·.1) := by
  induction t with
  | nil => cases listed
  | cons e t ih =>
    obtain ⟨j, w⟩ := e
    obtain ⟨below, rest⟩ := List.pairwise_cons.1 rising
    rw [insertKey]
    rcases List.mem_cons.1 listed with here | later
    · have here : k = j := here
      rw [if_neg (by omega), if_pos here]
      exact congrArg (· :: _) here
    · obtain ⟨⟨i, u⟩, among, is⟩ := List.mem_map.1 later
      have less : j < k := is ▸ below (i, u) among
      rw [if_neg (by omega), if_neg (by omega)]
      exact congrArg (_ :: ·) (ih rest later)

/-- What an action on control `c` of definition `d` does to the table (R9 to R12). -/
structure Acted (s t : State) (c : ControlId) (d : ControlDef) : Prop where
  frame : t = { s with table := t.table }
  keys : t.table.entries.map (·.1) = s.table.entries.map (·.1)
  here : (t.control c).physical ≠ .unknown
  others : ∀ k, k ≠ c → (t.control k).physical = (s.control k).physical
  latched : ∀ k, (t.control k).latched = true → (s.control k).latched = true ∨ (k = c ∧ d.kind = .toggle)
  selected : ∀ g k, t.selection g = some k → s.selection g = some k ∨ (k = c ∧ d.kind = .member g)

/-- Last changes alone are set (R4). -/
structure Touched (s t : State) : Prop where
  frame : t = { s with table := t.table }
  keys : t.table.entries.map (·.1) = s.table.entries.map (·.1)
  physical : ∀ k, (t.control k).physical = (s.control k).physical
  latched : ∀ k, (t.control k).latched = (s.control k).latched
  selections : t.table.selections = s.table.selections

theorem Acted.after {s m t : State} {c : ControlId} {d : ControlDef} (touched : Touched s m) (acted : Acted m t c d) :
    Acted s t c d where
  frame := by
    rw [acted.frame, touched.frame]
  keys := acted.keys.trans touched.keys
  here := acted.here
  others k other := (acted.others k other).trans (touched.physical k)
  latched k is := by
    rw [← touched.latched]
    exact acted.latched k is
  selected g k is := by
    have same : m.selection g = s.selection g := by rw [State.selection, State.selection, touched.selections]
    rw [← same]
    exact acted.selected g k is

/-- The group of a member loses its selection, or selects the member. -/
theorem Acted.selects {s t : State} {c : ControlId} {d : ControlDef} (acted : Acted s t c d) {g : GroupId}
    (member : d.kind = .member g) {o : Option ControlId} (which : o = none ∨ o = some c) :
    Acted s (t.setSelection g o) c d where
  frame := by rw [acted.frame]; rfl
  keys := acted.keys
  here := acted.here
  others := acted.others
  latched := acted.latched
  selected h k is := by
    rw [State.selection_setSelection] at is
    split at is
    · next same =>
      subst same
      rcases which with rfl | rfl
      · cases is
      · cases is
        exact .inr ⟨rfl, member⟩
    · exact acted.selected h k is

/-- One dynamic part is set. -/
theorem acted_set {s : State} (rising : sortedKeys s.table.entries) {c : ControlId} (listed : c ∈ s.table.entries.map (·.1))
    {d : ControlDef} {x : ControlState} (known : x.physical ≠ .unknown)
    (latched : x.latched = true → (s.control c).latched = true ∨ d.kind = .toggle) : Acted s (s.setControl c x) c d where
  frame := rfl
  keys := insertKey_keys rising listed x
  here := by rw [State.control_setControl_self]; exact known
  others k other := by rw [State.control_setControl_ne _ other]
  latched k is := by
    by_cases here : k = c
    · subst here
      rw [State.control_setControl_self] at is
      exact (latched is).imp id fun toggle => ⟨rfl, toggle⟩
    · rw [State.control_setControl_ne _ here] at is
      exact .inl is
  selected g k is := .inl is

theorem sortedKeys_of_keys {n : Nat} {α β : Type} {t : List (Fin n × α)} {u : List (Fin n × β)}
    (keys : t.map (·.1) = u.map (·.1)) (rising : sortedKeys u) : sortedKeys t := by
  have sorted := (List.pairwise_map (f := fun e : Fin n × β => e.1)).2 rising
  rw [← keys] at sorted
  exact List.pairwise_map.1 sorted

section
variable {s : State} (order : ControlOrder s)
include order

theorem ControlOrder.listed {c : ControlId} {d : ControlDef} (defined : s.definition c = some d) :
    c ∈ s.table.entries.map (·.1) := by
  rw [order.keys]
  exact List.mem_map.2 ⟨_, mem_of_lookupKey defined, rfl⟩

theorem ControlOrder.touched (g : GroupId) :
    Touched s (match s.selection g with
      | some p => s.setControl p ((s.control p).touched s.time.uptime)
      | none => s) := by
  split
  · next p selected =>
    obtain ⟨d, defined, -⟩ := order.selected g p selected
    refine ⟨rfl, insertKey_keys (sortedKeys_of_keys order.keys order.rising) (order.listed defined) _, fun k => ?_, fun k => ?_,
      rfl⟩ <;> rw [State.control_setControl] <;> split
    · next here => subst here; rfl
    · rfl
    · next here => subst here; rfl
    · rfl
  · exact ⟨rfl, rfl, fun _ => rfl, fun _ => rfl, rfl⟩

theorem ControlOrder.acted_press {c : ControlId} {d : ControlDef} (defined : s.definition c = some d) :
    Acted s (pressState s c d) c d := by
  have rising := sortedKeys_of_keys order.keys order.rising
  have listed := order.listed defined
  unfold pressState
  dsimp only
  split
  · exact acted_set rising listed nofun .inl
  · next toggle => exact acted_set rising listed nofun fun _ => .inr toggle
  · next g member =>
    split
    · have down := acted_set (d := d) rising listed
        (x := { s.control c with physical := .down, lastChange := some s.time.uptime }) nofun .inl
      split
      · exact down
      · exact down.selects member (.inl rfl)
    · have press (m : State) (touched : Touched s m) : Acted s ((m.setControl c
          { s.control c with physical := .down, lastChange := some s.time.uptime }).setSelection g (some c)) c d := by
        have down : Acted m (m.setControl c { s.control c with physical := .down, lastChange := some s.time.uptime }) c d :=
          acted_set (sortedKeys_of_keys touched.keys rising) (by rw [touched.keys]; exact listed) nofun fun is => .inl (by
            rw [touched.latched]; exact is)
        exact (down.after touched).selects member (.inr rfl)
      exact press _ (order.touched g)

theorem ControlOrder.acted {c : ControlId} {d : ControlDef} (defined : s.definition c = some d) (release : Bool) :
    Acted s (actionState s c d release) c d := by
  unfold actionState
  split
  · refine acted_set (sortedKeys_of_keys order.keys order.rising) (order.listed defined)
      (by rw [ControlState.withPhysical_physical]; decide) fun is => .inl ?_
    rwa [ControlState.withPhysical_latched] at is
  · split
    · next down => exact ⟨rfl, rfl, by rw [down]; decide, fun _ _ => rfl, fun _ is => .inl is, fun _ _ is => .inl is⟩
    · exact order.acted_press defined

/-- An action on a control whose lane runs keeps the laws of the table. -/
theorem ControlOrder.of_acted {t : State} {c : ControlId} {d : ControlDef} (defined : s.definition c = some d)
    (run : s.config.mode = .run) (bound : s.boundRunning c = true) (acted : Acted s t c d) : ControlOrder t := by
  have config : t.config = s.config := by rw [acted.frame]
  have definition (k : ControlId) : t.definition k = s.definition k := by rw [State.definition, State.definition, config]
  have boundSame (k : ControlId) : t.boundRunning k = s.boundRunning k :=
    State.boundRunning_congr (by rw [acted.frame]) (by rw [config]) k
  refine ⟨?_, ?_, fun k x is => ?_, fun k x is latched => ?_, fun g k selected => ?_, fun startup => ?_⟩
  · rw [acted.keys, config]; exact order.keys
  · rw [config]; exact order.rising
  · rw [definition] at is
    rw [config, boundSame]
    by_cases here : k = c
    · subst here
      exact iff_of_false acted.here fun none => none ⟨run, bound⟩
    · rw [acted.others k here]
      exact order.physical k x is
  · rw [definition] at is
    rcases acted.latched k latched with before | ⟨rfl, toggle⟩
    · exact order.latched k x is before
    · cases defined.symm.trans is
      exact toggle
  · rw [definition]
    rcases acted.selected g k selected with before | ⟨rfl, member⟩
    · exact order.selected g k before
    · exact ⟨d, defined, member⟩
  · rw [config, run] at startup
    cases startup

end

/-! ## Turns -/

theorem State.of_boundControl {s : State} (rising : sortedKeys s.config.working.controls) {l : LaneId} {ext : Bool} {b : Byte}
    {c : ControlId} {d : ControlDef} (bound : s.boundControl l ext b = some (c, d)) :
    s.definition c = some d ∧ d.binding = some ⟨l, ext, b⟩ :=
  ⟨lookupKey_of_mem rising (List.mem_of_find?_eq_some bound), by simpa using List.find?_some bound⟩

theorem ControlOrder.turned {s t : State} (order : ControlOrder s) (slots : ∀ l, (s.lane l).slot.isSome → (s.lane l).phase = .running)
    (turned : Turned s t) : ControlOrder (settleLamps s t) := by
  have phase (l : LaneId) := (turned.lanesKept l).phase
  have config : (settleLamps s t).config = s.config := by
    show t.config = s.config
    rw [turned.frame]
  have same (table : t.table = s.table) : ControlOrder (settleLamps s t) := order.of_phases table config phase
  cases turned
  case idle => exact same rfl
  case waits => exact same rfl
  case status l _ _ _ => exact same (by rw [statusTurn, placeRecord_eq]; rfl)
  case byte l b p u _ _ _ slot routed =>
    cases routed
    case nothing => exact same (by rw [placeRecord_eq]; rfl)
    case learned w r _ _ =>
      refine same ?_
      rw [placeRecord_eq]
      exact complete_table (clearLearn s) w.slot r
    case acted c d ext release run bound =>
      obtain ⟨defined, binding⟩ := State.of_boundControl order.rising bound
      have runs : s.boundRunning c = true :=
        (boundRunning_iff defined).2 ⟨_, binding, slots l (by rw [slot]; rfl)⟩
      have acted := order.of_acted defined run runs (order.acted defined release)
      have frame := (order.acted defined release).frame
      generalize is_u : actionState s c d release = u at acted frame
      refine acted.of_phases ?_ (config.trans (by rw [frame])) fun k => ?_
      · rw [placeRecord_eq, takeAction, is_u]
        rfl
      · have lanes : u.lane k = s.lane k := by rw [frame]; rfl
        rw [phase, lanes]

/-! ## Modes (R15, R16) -/

section
variable {s : State} (order : ControlOrder s)
include order

theorem ControlOrder.configEntered : ControlOrder (settleLamps s (allUnknown (setMode s .config))) := by
  have control (c : ControlId) : (settleLamps s (allUnknown (setMode s .config))).control c =
      (s.control c).withPhysical s.time.uptime .unknown := control_unknownTable (setMode s .config) c
  have keys : (unknownTable (setMode s .config)).table.entries.map (·.1) = s.table.entries.map (·.1) := by
    rw [unknownTable, mapControls_keys]
    rfl
  refine order.physicalChanged keys rfl rfl (fun c => ?_) (fun c d _ => ?_) nofun
  · rw [control, ControlState.withPhysical_latched]
  · rw [control, ControlState.withPhysical_physical]
    exact iff_of_true rfl fun is => nomatch is.1

theorem ControlOrder.configLeft (config : s.config.mode = .config) : ControlOrder (leftConfig (setMode s .run)) := by
  have unknown (c : ControlId) (d : ControlDef) (defined : s.definition c = some d) : (s.control c).physical = .unknown :=
    (order.physical c d defined).2 fun is => by cases config.symm.trans is.1
  have control (c : ControlId) : (leftConfig (setMode s .run)).control c =
      if s.boundRunning c = true ∧ (s.control c).physical ≠ .up then
        { s.control c with physical := .up, lastChange := some s.time.uptime } else s.control c :=
    control_leftConfig (a := setMode s .run) order.unlisted
  have keys : (upTable (setMode s .run)).table.entries.map (·.1) = s.table.entries.map (·.1) := by
    rw [upTable, mapControls_keys]
    rfl
  refine order.physicalChanged keys rfl rfl (fun c => ?_) (fun c d defined => ?_) nofun
  · rw [control]
    split <;> rfl
  · have phases (l : LaneId) : ((leftConfig (setMode s .run)).lane l).phase = (s.lane l).phase :=
      (leftConfig_lanesKept (setMode s .run) l).phase
    have bound : (leftConfig (setMode s .run)).boundRunning c = true ↔ s.boundRunning c = true := by
      rw [boundRunning_iff (s := leftConfig (setMode s .run)) defined, boundRunning_iff defined]
      simp only [phases]
    rw [control, bound, unknown c d defined]
    by_cases runs : s.boundRunning c = true
    · rw [if_pos ⟨runs, by decide⟩]
      exact iff_of_false nofun fun none => none ⟨rfl, runs⟩
    · rw [if_neg fun is => runs is.1]
      exact iff_of_true (unknown c d defined) fun is => runs is.2

end

/-! ## New definitions (R5, R7, R137, R147) -/

/-- The table in line with a new image in CONFIG mode. -/
theorem ControlOrder.realigned {s t : State} (order : ControlOrder s) (config : s.config.mode = .config) {image : ConfigImage}
    (rising : sortedKeys image.controls) (table : t.table = (realigned s image).table)
    (working : t.config.working.controls = image.controls) (mode : t.config.mode = .config) : ControlOrder t := by
  have definition (c : ControlId) : t.definition c = lookupKey image.controls c := by rw [State.definition, working]
  have control (c : ControlId) : t.control c = ((lookupKey image.controls c).map (alignedControl s image c)).getD .fresh := by
    rw [← control_realigned, State.control, State.control, table]
  have selection (g : GroupId) : t.selection g = keptSelection s image g := by
    rw [← selection_realigned, State.selection, State.selection, table]
  have unknown (c : ControlId) (o : ControlDef) (defined : s.definition c = some o) : (s.control c).physical = .unknown :=
    (order.physical c o defined).2 fun is => by cases config.symm.trans is.1
  refine ⟨?_, working ▸ rising, fun c d defined => ?_, fun c d defined latched => ?_, fun g c selected => ?_,
    fun startup => by cases mode.symm.trans startup⟩
  · rw [table, working]
    show (image.controls.map fun e => (e.1, alignedControl s image e.1 e.2)).map (·.1) = _
    rw [List.map_map]
    rfl
  · rw [definition] at defined
    rw [control, defined, mode]
    refine iff_of_true ?_ fun is => nomatch is.1
    show (alignedControl s image c d).physical = .unknown
    cases old : s.definition c with
    | none => simp only [alignedControl, old]; rfl
    | some o => rw [alignedControl_unknown old defined (unknown c o old)]
  · rw [definition] at defined
    rw [control, defined] at latched
    have latched : (alignedControl s image c d).latched = true := latched
    cases old : s.definition c with
    | none =>
      simp only [alignedControl, old] at latched
      cases latched
    | some o =>
      rw [alignedControl_unknown old defined (unknown c o old)] at latched
      by_cases same : sameKind o.kind d.kind = true
      · have latched : (s.control c).latched = true := by simpa [same] using latched
        have toggle := order.latched c o old latched
        rw [toggle] at same
        cases kind : d.kind <;> simp [kind, sameKind] at same ⊢
      · simp [same] at latched
  · rw [selection, keptSelection_iff] at selected
    obtain ⟨-, d, listed, member⟩ := selected
    exact ⟨d, (definition c).trans listed, member⟩

/-- The table that the vote loads: every control UNKNOWN, no lane RUNNING (R137). -/
theorem ControlOrder.loaded {s t : State} {image : ConfigImage} (wf : image.wf)
    (table : t.table = (loaded s image).table) (config : t.config = (Machine.loaded s image).config)
    (short : ∀ l, (t.lane l).phase ≠ .running) : ControlOrder t := by
  have control (c : ControlId) : t.control c = .fresh := by
    have read : t.control c = (lookupKey (image.controls.map fun e => (e.1, ControlState.fresh)) c).getD .fresh := by
      rw [State.control, table]; rfl
    rw [read, lookupKey_map image.controls (fun _ _ => ControlState.fresh) c]
    cases lookupKey image.controls c <;> rfl
  have selection (g : GroupId) : t.selection g = none := by
    rw [State.selection, table]
    show (Vector.replicate 32 (none : Option ControlId))[g] = none
    simp
  refine ⟨?_, ?_, fun c d defined => ?_, fun c d _ latched => ?_, fun g c selected => ?_, fun startup => ?_⟩
  · rw [table, config]
    show (image.controls.map fun e => (e.1, ControlState.fresh)).map (·.1) = image.controls.map (·.1)
    rw [List.map_map]
    rfl
  · rw [config]; exact wf.1
  · rw [control, boundRunning_iff defined]
    exact iff_of_true rfl fun ⟨_, _, _, runs⟩ => short _ runs
  · rw [control] at latched
    cases latched
  · rw [selection] at selected
    cases selected
  · rw [config] at startup
    cases startup

end Sys2Proof.Machine
end

section
/-! The Configuration Store under every operation on it (R136, R149 to R163). -/

namespace Sys2Proof.Machine

set_option Elab.async false

/-! ## Standings (R150) -/

/-- A VALID bank holds what its view says, and reads VALID (R149, R150). -/
def ViewsTrue (st : Store) : Prop :=
  ∀ n, (st.views.get n).standing = some .valid →
    (st.banks.get n).readsValid = true ∧ (st.views.get n).generation = (st.banks.get n).generation

/-- Every bank has a standing (R153). -/
def Standing (st : Store) : Prop := ∀ n, (st.views.get n).standing.isSome

section
variable {st : Store} {n : BankName}

theorem view_set (st : Store) (n : BankName) (v : BankView) (m : BankName) :
    ((st.views.set n v).get m) = if m = n then v else st.views.get m := by
  split
  · next here => rw [here, PerBank.get_set_self]
  · next other => exact PerBank.get_set_ne _ other _

theorem ViewsTrue.setStanding (views : ViewsTrue st) {v : BankStanding} (other : v ≠ .valid) : ViewsTrue (setStanding st n v) := by
  intro m
  show ((st.views.set n _).get m).standing = some .valid → _ ∧ ((st.views.set n _).get m).generation = _
  rw [view_set]
  split
  · exact fun is => absurd (Option.some.inj is) other
  · exact views m

theorem Standing.setStanding (standing : Standing st) (v : BankStanding) : Standing (setStanding st n v) := by
  intro m
  show ((st.views.set n _).get m).standing.isSome
  rw [view_set]
  split
  · rfl
  · exact standing m

theorem ViewsTrue.setValid (views : ViewsTrue st) {g : Word} (reads : (st.banks.get n).readsValid = true)
    (generation : (st.banks.get n).generation = g) : ViewsTrue (setValid st n g) := by
  intro m
  show ((st.views.set n _).get m).standing = some .valid → _ ∧ ((st.views.set n _).get m).generation = _
  rw [view_set]
  split
  · next here => subst here; exact fun _ => ⟨reads, generation.symm⟩
  · exact views m

theorem Standing.setValid (standing : Standing st) (g : Word) : Standing (setValid st n g) := by
  intro m
  show ((st.views.set n _).get m).standing.isSome
  rw [view_set]
  split
  · rfl
  · exact standing m

/-- A bank that is not VALID may come to hold anything. -/
theorem ViewsTrue.held (views : ViewsTrue st) (bad : (st.views.get n).standing ≠ some .valid) (b : StoredBank) :
    ViewsTrue { st with banks := st.banks.set n b } := by
  intro m valid
  have other : m ≠ n := fun here => bad (here ▸ valid)
  show ((st.banks.set n b).get m).readsValid = true ∧ _ = ((st.banks.set n b).get m).generation
  rw [PerBank.get_set_ne _ other]
  exact views m valid

theorem ViewsTrue.readBank (views : ViewsTrue st) (n : BankName) : ViewsTrue (readBank st n) := by
  intro m
  show ((st.views.set n _).get m).standing = some .valid → _ ∧ ((st.views.set n _).get m).generation = _
  rw [view_set]
  split
  · next here =>
    subst here
    intro valid
    refine ⟨?_, rfl⟩
    show (st.banks.get m).readsValid = true
    by_contra unread
    simp [unread] at valid
  · exact views m

end

/-! ## The store after the vote -/

/-- The store while the part runs and the vote is over, by what it does: nothing, a repair, or a commit (R136, R152, R156, R159). -/
inductive StoreRuns (st : Store) : Prop where
  | resting : st.activity = .idle → st.write = none → st.commit = none → StoreRuns st
  | repairing (w : BankWrite) : st.activity = .repairing → st.write = some w → w.origin = .repair → st.commit = none →
      (st.views.get w.bank).standing = some .invalid → st.generation ≠ 0 → StoreRuns st
  | committing (w : BankWrite) (c : CommitContext) : st.activity = .committing → st.write = some w → st.commit = some c →
      (st.views.get w.bank).standing = some .invalid → c.generation ≠ 0 →
      (w.origin = .repair → c.good = 0 ∧ st.generation ≠ 0) → (w.origin = .commit → c.good ≤ w.bank.before) → StoreRuns st

theorem StoreRuns.laws {s : State} (runs : StoreRuns s.store) (views : ViewsTrue s.store) (standing : Standing s.store)
    (started : s.config.mode ≠ .startup) : StoreLaws s := by
  cases runs
  case resting activity write commit =>
    exact
      { voting := iff_of_false (by rw [activity]; decide) started
        committing := by rw [commit, activity]; decide
        writing := fun _ => by rw [write, activity]; decide
        writingOnly := by rw [write]; nofun
        invalid := by rw [write]; nofun
        origin := by rw [write]; nofun
        good := by rw [write]; nofun
        standings := fun _ => standing
        valid := views
        repairs := by rw [write]; nofun
        commits := by rw [commit]; nofun }
  case repairing w activity write origin commit invalid generation =>
    exact
      { voting := iff_of_false (by rw [activity]; decide) started
        committing := by rw [commit, activity]; decide
        writing := fun _ => iff_of_true (by rw [write]; rfl) (.inl activity)
        writingOnly := fun _ => .inl activity
        invalid := fun o is => by cases write.symm.trans is; exact invalid
        origin := fun o is commits => by cases write.symm.trans is; cases origin.symm.trans commits
        good := by rw [commit]; nofun
        standings := fun _ => standing
        valid := views
        repairs := fun _ _ _ => generation
        commits := by rw [commit]; nofun }
  case committing w c activity write commit invalid generation repair good =>
    exact
      { voting := iff_of_false (by rw [activity]; decide) started
        committing := iff_of_true (by rw [commit]; rfl) activity
        writing := fun _ => iff_of_true (by rw [write]; rfl) (.inr activity)
        writingOnly := fun _ => .inr activity
        invalid := fun o is => by cases write.symm.trans is; exact invalid
        origin := fun _ _ _ => by rw [commit]; rfl
        good := fun o d is context => by
          cases write.symm.trans is
          cases commit.symm.trans context
          cases origin : w.origin
          · exact Nat.le_of_eq (repair origin).1
          · exact good origin
        standings := fun _ => standing
        valid := views
        repairs := fun o is origin => by cases write.symm.trans is; exact (repair origin).2
        commits := fun d is => by cases commit.symm.trans is; exact generation }

theorem StoreLaws.runs {s : State} (laws : StoreLaws s) (running : s.line = .running) (started : s.config.mode ≠ .startup) :
    StoreRuns s.store := by
  have writing := laws.writing running
  cases activity : s.store.activity with
  | voting => exact absurd (laws.voting.1 activity) started
  | idle =>
    refine .resting activity ?_ ?_
    · rw [← Option.not_isSome_iff_eq_none, writing, activity]; decide
    · rw [← Option.not_isSome_iff_eq_none, laws.committing, activity]; decide
  | repairing =>
    obtain ⟨w, write⟩ := Option.isSome_iff_exists.1 (writing.2 (.inl activity))
    have commit : s.store.commit = none := by rw [← Option.not_isSome_iff_eq_none, laws.committing, activity]; decide
    have origin : w.origin = .repair := by
      cases is : w.origin
      · rfl
      · have context := laws.origin w write is
        rw [commit] at context
        cases context
    exact .repairing w activity write origin commit (laws.invalid w write) (laws.repairs w write origin)
  | committing =>
    obtain ⟨w, write⟩ := Option.isSome_iff_exists.1 (writing.2 (.inr activity))
    obtain ⟨c, commit⟩ := Option.isSome_iff_exists.1 (laws.committing.2 activity)
    have good := laws.good w c write commit
    refine .committing w c activity write commit (laws.invalid w write) (laws.commits c commit) (fun origin => ?_) fun origin => ?_
    · rw [origin] at good
      exact ⟨Nat.le_zero.1 good, laws.repairs w write origin⟩
    · rw [origin] at good
      exact good

theorem StoreLaws.standing {s : State} (laws : StoreLaws s) (started : s.config.mode ≠ .startup) : Standing s.store :=
  laws.standings fun voting => started (laws.voting.1 voting)

/-- A write attempt begins on a bank, INVALID from then on (R152). -/
theorem invalid_beginAttempt (st : Store) (n : BankName) (second : Bool) (origin : WriteOrigin) :
    ((beginAttempt st n second origin).views.get n).standing = some .invalid := by
  show ((st.views.set n _).get n).standing = _
  rw [view_set, if_pos rfl]

/-! ## The end of a write attempt (R152, R156, R159 to R161) -/

/-- The store that a write attempt's end or a commit leaves, and its truth about the banks. -/
structure StoreSound (st : Store) : Prop where
  runs : StoreRuns st
  views : ViewsTrue st
  standing : Standing st

theorem StoreSound.laws {s : State} (sound : StoreSound s.store) (started : s.config.mode ≠ .startup) : StoreLaws s :=
  sound.runs.laws sound.views sound.standing started

section
variable {st : Store} (views : ViewsTrue st) (standing : Standing st)
include views standing

theorem StoreSound.begins {n : BankName} {second : Bool} {origin : WriteOrigin}
    (runs : StoreRuns (beginAttempt st n second origin)) : StoreSound (beginAttempt st n second origin) :=
  ⟨runs, views.setStanding (v := .invalid) (by decide), standing.setStanding .invalid⟩

theorem StoreSound.repairAttempt {w : BankWrite} {pass : Bool} (activity : st.activity = .repairing) (commit : st.commit = none)
    (generation : st.generation ≠ 0)
    (passes : pass = true → (st.banks.get w.bank).readsValid = true ∧ (st.banks.get w.bank).generation = st.generation) :
    StoreSound (repairAttemptEnds st w pass) := by
  unfold repairAttemptEnds
  split
  · obtain ⟨reads, is⟩ := passes rfl
    exact ⟨.resting rfl rfl commit, views.setValid reads is, standing.setValid _⟩
  · exact .begins views standing (.repairing _ activity rfl rfl commit (invalid_beginAttempt ..) generation)
  · exact ⟨.resting rfl rfl commit, views.setStanding (v := .failed) (by decide), standing.setStanding .failed⟩

theorem StoreSound.commitBegins {n : BankName} {second : Bool} {c : CommitContext} (activity : st.activity = .committing)
    (commit : st.commit = some c) (generation : c.generation ≠ 0) (good : c.good ≤ n.before) :
    StoreSound (beginAttempt st n second .commit) :=
  .begins views standing (.committing _ c activity rfl commit (invalid_beginAttempt ..) generation nofun fun _ => good)

theorem StoreSound.overtaken {w : BankWrite} {pass : Bool} {c : CommitContext} (activity : st.activity = .committing)
    (commit : st.commit = some c) (generation : c.generation ≠ 0) (good : c.good = 0)
    (passes : pass = true → (st.banks.get w.bank).readsValid = true ∧ (st.banks.get w.bank).generation = st.generation) :
    StoreSound (overtakenAttemptEnds st w pass) := by
  have none : c.good ≤ BankName.a.before := Nat.le_of_eq good
  unfold overtakenAttemptEnds beginCommit
  split
  · obtain ⟨reads, is⟩ := passes rfl
    exact .commitBegins (views.setValid reads is) (standing.setValid _) activity commit generation none
  · exact .commitBegins (views.setStanding (by decide)) (standing.setStanding _) activity commit generation none
  · exact .commitBegins (views.setStanding (by decide)) (standing.setStanding _) activity commit generation none

end

/-- What a store holds of images (R134). -/
structure StoreImages (st : Store) : Prop where
  inUse : st.image.wf
  snapshot : ∀ c, st.commit = some c → c.snapshot.wf
  banks : ∀ n, (st.banks.get n).wf

theorem ImageLaws.stored {s : State} (laws : ImageLaws s) : StoreImages s.store := ⟨laws.inUse, laws.snapshot, laws.banks⟩

theorem StoreImages.of_same {st st' : Store} (images : StoreImages st) (image : st'.image = st.image)
    (commit : ∀ c, st'.commit = some c → c.snapshot.wf) (banks : st'.banks = st.banks) : StoreImages st' :=
  ⟨by rw [image]; exact images.inUse, commit, by rw [banks]; exact images.banks⟩

theorem writtenBank_wf {st : Store} (images : StoreImages st) (w : BankWrite) : (writtenBank st w).wf := by
  unfold writtenBank
  split
  · next c _ commit => exact fun _ => images.snapshot c commit
  · exact fun _ => images.inUse

theorem StoreImages.held {st : Store} (images : StoreImages st) (n : BankName) {b : StoredBank} (wf : b.wf) :
    StoreImages { st with banks := st.banks.set n b } := by
  refine ⟨images.inUse, images.snapshot, fun m => ?_⟩
  show ((st.banks.set n b).get m).wf
  by_cases here : m = n
  · rw [here, PerBank.get_set_self]; exact wf
  · rw [PerBank.get_set_ne _ here]; exact images.banks m

/-- The laws of images and store. -/
structure StoreOrder (s : State) : Prop where
  images : ImageLaws s
  store : StoreLaws s

theorem StoreOrder.stored {s : State} {st : Store} (laws : ImageLaws s) (started : s.config.mode ≠ .startup)
    (sound : StoreSound st) (images : StoreImages st) : StoreOrder { s with store := st } :=
  ⟨⟨laws.working, laws.storeCopy, images.inUse, images.snapshot, images.banks, laws.dirty⟩,
    sound.laws (s := { s with store := st }) started⟩

section
variable {s : State} {st : Store} {c : CommitContext} (laws : ImageLaws s) (started : s.config.mode ≠ .startup)
  (views : ViewsTrue st) (standing : Standing st) (images : StoreImages st) (snapshot : c.snapshot.wf)
  (generation : c.generation ≠ 0)
include laws started views standing images snapshot generation

omit generation in
/-- The commit ends (R161). -/
theorem StoreOrder.commitEnds : StoreOrder (commitEnds { s with store := st } c) := by
  have copy : (if c.good = 0 then ConfigImage.defaults else c.snapshot).wf := by
    split
    · exact defaults_wf
    · exact snapshot
  rw [commitEnds_frame]
  refine ⟨⟨laws.working, copy, images.inUse, nofun, images.banks, decide_eq_true_iff⟩, ?_⟩
  exact StoreRuns.laws (.resting rfl rfl rfl) views standing started

theorem StoreOrder.nextBank {n : BankName} (activity : st.activity = .committing) (good : c.good ≤ n.before + 1) :
    StoreOrder (nextBank { s with store := st } n c) := by
  have context : StoreImages { st with commit := some c } :=
    images.of_same rfl (fun d is => by cases is; exact snapshot) rfl
  have begins (m : BankName) (few : c.good ≤ m.before) :
      StoreOrder { s with store := beginAttempt { st with commit := some c } m false .commit } :=
    .stored laws started
      (.commitBegins (st := { st with commit := some c }) views standing activity rfl generation few)
      (context.of_same rfl (fun d is => by cases is; exact snapshot) rfl)
  cases n with
  | a => exact begins .b good
  | b => exact begins .c good
  | c => exact .commitEnds (s := s) (st := { st with commit := some c }) laws started views standing context snapshot

theorem StoreOrder.commitAttempt {w : BankWrite} {pass : Bool} (activity : st.activity = .committing) (commit : st.commit = some c)
    (good : c.good ≤ w.bank.before)
    (passes : pass = true → (st.banks.get w.bank).readsValid = true ∧ (st.banks.get w.bank).generation = c.generation) :
    StoreOrder (commitAttemptEnds { s with store := st } w c pass) := by
  have kept {st' : Store} (image : st'.image = st.image) (same : st'.commit = st.commit) (banks : st'.banks = st.banks) :
      StoreImages st' := images.of_same image (fun d is => images.snapshot d (same ▸ is)) banks
  unfold commitAttemptEnds
  split
  · obtain ⟨reads, is⟩ := passes rfl
    exact .nextBank (s := s) laws started (st := setValid st w.bank c.generation) (c := { c with good := c.good + 1 })
      (views.setValid reads is) (standing.setValid _) (kept rfl rfl rfl) snapshot generation activity (Nat.succ_le_succ good)
  · exact .stored (s := s) laws started (.commitBegins views standing activity commit generation good) (kept rfl rfl rfl)
  · exact .nextBank (s := s) laws started (st := setStanding st w.bank .failed) (views.setStanding (by decide)) (standing.setStanding _)
      (kept rfl rfl rfl) snapshot generation activity (Nat.le_succ_of_le good)

end

/-- The end of a bank write attempt keeps the laws, whatever the bank reads back (R152, R156, R159 to R161). -/
theorem StoreOrder.writeAttemptEnds {s : State} (images : ImageLaws s) (laws : StoreLaws s) (running : s.line = .running)
    {r : ReadBack} (lawful : ∀ b, r = .other b → b.wf) : StoreOrder (writeAttemptEnds s r) := by
  cases write : s.store.write with
  | none =>
    have same : Machine.writeAttemptEnds s r = s := by rw [Machine.writeAttemptEnds, write]
    rw [same]
    exact ⟨images, laws⟩
  | some w =>
    have started : s.config.mode ≠ .startup := fun startup => by
      have voting := laws.voting.2 startup
      rcases laws.writingOnly (by rw [write]; rfl) with is | is <;> cases voting.symm.trans is
    have bad : (s.store.views.get w.bank).standing ≠ some .valid := by rw [laws.invalid w write]; decide
    obtain ⟨held, is_held⟩ : ∃ held, held = heldAfter (writtenBank s.store w) r := ⟨_, rfl⟩
    have wf : held.wf := by
      rw [is_held]
      cases r with
      | asWritten => exact writtenBank_wf images.stored w
      | other b => exact lawful b rfl
    have views : ViewsTrue (s.store.holding w.bank held) := ViewsTrue.held laws.valid bad held
    have standing : Standing (s.store.holding w.bank held) := laws.standing started
    have stored : StoreImages (s.store.holding w.bank held) := images.stored.held w.bank wf
    have reads {written : StoredBank} {g : Word} (is : decide (held = written) = true) (generation : written.generation = g)
        (some : g ≠ 0) (verifies : written.checkError = 0) :
        ((s.store.holding w.bank held).banks.get w.bank).readsValid = true ∧
          ((s.store.holding w.bank held).banks.get w.bank).generation = g := by
      have here : (s.store.holding w.bank held).banks.get w.bank = held := PerBank.get_set_self ..
      rw [here, of_decide_eq_true is, readsValid_iff, generation]
      exact ⟨⟨some, verifies⟩, rfl⟩
    have kept {st : Store} (image : st.image = s.store.image) (commit : st.commit = s.store.commit)
        (banks : st.banks = (s.store.holding w.bank held).banks) : StoreImages st :=
      stored.of_same image (fun c is => images.snapshot c (commit ▸ is)) banks
    have repairs (origin : w.origin = .repair) : writtenBank s.store w = ⟨s.store.generation, s.store.image, 0⟩ := by
      rw [writtenBank, origin]
    cases laws.runs running started
    case resting none _ => cases write.symm.trans none
    case repairing o activity is origin commit invalid generation =>
      cases write.symm.trans is
      rw [writeAttemptEnds_repair write (repairs origin) (is_held.trans (by rw [repairs origin])) origin commit]
      refine .stored images started
        (.repairAttempt views standing activity commit generation fun pass => reads pass rfl generation rfl) ?_
      unfold repairAttemptEnds
      split <;> exact kept rfl rfl rfl
    case committing o c activity is commit invalid generation repair good =>
      cases write.symm.trans is
      cases origin : w.origin with
      | repair =>
        rw [writeAttemptEnds_overtaken write (repairs origin) (is_held.trans (by rw [repairs origin])) origin commit]
        refine .stored images started
          (.overtaken views standing activity commit generation (repair origin).1 fun pass => reads pass rfl (repair origin).2 rfl) ?_
        unfold overtakenAttemptEnds beginCommit
        split <;> exact kept rfl rfl rfl
      | commit =>
        have written : writtenBank s.store w = ⟨c.generation, c.snapshot, 0⟩ := by rw [writtenBank, origin, commit]
        rw [writeAttemptEnds_commit write written (is_held.trans (by rw [written])) origin commit]
        exact .commitAttempt (s := s) images started views standing stored (images.snapshot c commit) generation activity commit
          (good origin) fun pass => reads pass rfl generation rfl

end Sys2Proof.Machine
end

section
/-! Every step keeps images, store and Control Table lawful (R1 to R7, R134 to R140, R149 to R163). -/

namespace Sys2Proof.Machine

set_option Elab.async false

/-! ## Images, store and table together -/

/-- The laws of images and store, and those of the Control Table beside lanes and store. -/
structure ConfigOrder (s : State) : Prop where
  images : ImageLaws s
  store : StoreLaws s
  controls : ControlOrder s

theorem WorkLaws.config {s : State} (laws : WorkLaws s) : ConfigOrder s := ⟨laws.images, laws.store, laws.controls.order⟩

section
variable {s t : State}

/-- Beside restart pending the store is the same, and the configuration in what images read. -/
theorem ImageLaws.of_same (laws : ImageLaws s) {pending : Bool} (store : t.store = { s.store with restartPending := pending })
    (working : t.config.working = s.config.working) (copy : t.config.storeCopy = s.config.storeCopy)
    (dirty : t.config.dirty = s.config.dirty) : ImageLaws t := by
  refine ⟨?_, ?_, ?_, ?_, ?_, ?_⟩ <;> simp only [store, working, copy, dirty]
  · exact laws.working
  · exact laws.storeCopy
  · exact laws.inUse
  · exact laws.snapshot
  · exact laws.banks
  · exact laws.dirty

/-- A new working configuration, the dirty flag recomputed (R135). -/
theorem ImageLaws.rework (laws : ImageLaws s) (store : t.store = s.store) (wf : t.config.working.wf)
    (copy : t.config.storeCopy = s.config.storeCopy) (dirty : t.config.dirty = decide (t.config.working ≠ t.config.storeCopy)) :
    ImageLaws t := by
  refine ⟨wf, ?_, ?_, ?_, ?_, by rw [dirty, decide_eq_true_iff]⟩ <;> simp only [store, copy]
  · exact laws.storeCopy
  · exact laws.inUse
  · exact laws.snapshot
  · exact laws.banks

theorem StoreLaws.of_same (laws : StoreLaws s) {pending : Bool} (store : t.store = { s.store with restartPending := pending })
    (line : t.line = s.line) (mode : t.config.mode = .startup ↔ s.config.mode = .startup) : StoreLaws t := by
  refine ⟨?_, ?_, ?_, ?_, ?_, ?_, ?_, ?_, ?_, ?_, ?_⟩ <;> simp only [store, line, mode]
  · exact laws.voting
  · exact laws.committing
  · exact laws.writing
  · exact laws.writingOnly
  · exact laws.invalid
  · exact laws.origin
  · exact laws.good
  · exact laws.standings
  · exact laws.valid
  · exact laws.repairs
  · exact laws.commits

/-- Where configuration, table, store and phases are the same. -/
theorem ConfigOrder.of_same (order : ConfigOrder s) (config : t.config = s.config) (table : t.table = s.table)
    {pending : Bool} (store : t.store = { s.store with restartPending := pending }) (line : t.line = s.line)
    (phase : ∀ l, (t.lane l).phase = (s.lane l).phase) : ConfigOrder t :=
  ⟨order.images.of_same store (by rw [config]) (by rw [config]) (by rw [config]), order.store.of_same store line (by rw [config]),
    order.controls.of_phases table config phase⟩

theorem ConfigOrder.complete (order : ConfigOrder s) (i : SlotId) (r : Reply) : ConfigOrder (complete s i r) := by
  obtain ⟨_, _, e⟩ := complete_frame s i r
  rw [e]
  exact order.of_same rfl rfl rfl rfl fun _ => rfl

end

/-! ## Requests -/

section
variable {s t u : State} (laws : WorkLaws s)
include laws

theorem ConfigOrder.replaced (config : s.config.mode = .config) {image : ConfigImage} (wf : image.wf) :
    ConfigOrder (replaced s image) := by
  have frame := replaced_frame s image
  have is : (Machine.replaced s image).config =
      { s.config with working := image, dirty := decide (image ≠ s.config.storeCopy) } := by rw [frame]
  have table : (Machine.replaced s image).table = (realigned s image).table := by rw [frame]
  have store : (Machine.replaced s image).store = s.store := by rw [frame, completeAll_outline]
  have line : (Machine.replaced s image).line = s.line := by rw [frame, completeAll_outline]
  refine ⟨laws.images.rework store (by rw [is]; exact wf) (by rw [is]) (by rw [is]), laws.store.of_same (by rw [store]) line ?_,
    laws.controls.order.realigned config wf.1 table (by rw [is]) (by rw [is]; exact config)⟩
  rw [is]

theorem ConfigOrder.worked (work : Worked s u) : ConfigOrder u := by
  have resettled (settles : Resettles s u) : ConfigOrder u := by
    obtain ⟨config, image, wf, rfl⟩ := settles.replaced laws
    exact .replaced laws config wf
  rcases work.lanesKept with settles | kept
  · exact resettled settles
  have phase (l : LaneId) := (kept l).phase
  have order := laws.config
  cases work
  case nothing => exact order
  case opened w _ _ _ => exact order.of_same rfl rfl rfl rfl phase
  case acked n w _ delivering _ =>
    rw [admitAck_eq laws.delivery delivering] at phase ⊢
    exact order.of_same rfl rfl rfl rfl phase
  case closed =>
    rw [closeSession_eq] at phase ⊢
    exact order.of_same rfl rfl rfl rfl phase
  case lampsWritten => exact order.of_same rfl rfl rfl rfl phase
  case lampsReleased => exact order.of_same rfl rfl rfl rfl phase
  case faultCleared => exact order.of_same rfl rfl rfl rfl phase
  case configEntered run _ =>
    exact ⟨order.images.of_same rfl rfl rfl rfl,
      order.store.of_same rfl rfl (iff_of_false nofun (by rw [run]; decide)), order.controls.configEntered⟩
  case configLeft config =>
    have frame := abortLearn_frame s
    have aborted : ConfigOrder (abortLearn s) := by
      rw [frame]
      exact order.of_same rfl rfl rfl rfl fun _ => rfl
    have mode : (abortLearn s).config.mode = .config := by rw [frame]; exact config
    exact ⟨aborted.images.of_same rfl rfl rfl rfl,
      aborted.store.of_same rfl rfl (iff_of_false nofun (by rw [mode]; decide)), aborted.controls.configLeft mode⟩
  case edited image config lawful _ =>
    have wf := lawful laws.images.working
    exact ⟨laws.images.rework rfl wf rfl rfl, laws.store.of_same rfl rfl Iff.rfl,
      order.controls.realigned config wf.1 rfl rfl config⟩
  case worked image config lawful controls _ =>
    exact ⟨laws.images.rework rfl (lawful laws.images.working) rfl rfl, laws.store.of_same rfl rfl Iff.rfl,
      order.controls.of_same rfl controls rfl (fun _ => Iff.rfl) fun _ => Iff.rfl⟩
  case laneSet l new config type => exact resettled (.inl ⟨l, new, config, type, rfl⟩)
  case replaced image config which => exact resettled (.inr ⟨image, config, which, rfl⟩)

/-- A COMMIT that is taken (R158, R159). -/
theorem StoreOrder.takeCommit (i : SlotId) (started : s.config.mode ≠ .startup) (free : s.store.activity ≠ .committing)
    (fits : commitGeneration s.store ≤ 4294967295) : StoreOrder (takeCommit s i) := by
  have generation : BitVec.ofNat 32 (commitGeneration s.store) ≠ 0 := by
    have least : 1 ≤ commitGeneration s.store := Nat.le_add_right ..
    intro none
    have read := congrArg BitVec.toNat none
    rw [BitVec.toNat_ofNat, Nat.mod_eq_of_lt (by omega)] at read
    exact absurd read (by simpa using Nat.ne_of_gt least)
  have images {st : Store} (image : st.image = s.store.image) (banks : st.banks = s.store.banks)
      (commit : st.commit = some ⟨s.config.working, BitVec.ofNat 32 (commitGeneration s.store), 0, i⟩) : StoreImages st :=
    laws.images.stored.of_same image (fun c is => by cases commit.symm.trans is; exact laws.images.working) banks
  have standing := laws.store.standing started
  unfold Machine.takeCommit
  dsimp only
  split
  · next write =>
    refine .stored laws.images started ⟨?_, laws.store.valid, standing⟩ (images rfl rfl rfl)
    cases laws.store.runs laws.running started
    case resting _ none _ =>
      have write : s.store.write.isSome = true := write
      rw [none] at write
      cases write
    case repairing w activity write origin _ invalid used =>
      exact .committing w _ rfl write rfl invalid generation (fun _ => ⟨rfl, used⟩) fun _ => Nat.zero_le _
    case committing activity _ _ _ _ _ _ => exact absurd activity free
  · exact .stored laws.images started
      (.commitBegins (st := { s.store with
          commit := some ⟨s.config.working, BitVec.ofNat 32 (commitGeneration s.store), 0, i⟩, activity := .committing })
        laws.store.valid standing rfl rfl generation (Nat.zero_le _)) (images rfl rfl rfl)

theorem ConfigOrder.served {kind : Byte} {i : SlotId} (served : Served kind i s t) : ConfigOrder t := by
  have order := laws.config
  cases served
  case answered u r work _ => exact (ConfigOrder.worked laws work).complete i r
  case restarts => exact (order.of_same rfl rfl rfl rfl (fun _ => rfl) : ConfigOrder { s with
      store := { s.store with restartPending := true } }).complete i _
  case laneEntry l k _ _ _ _ =>
    refine order.of_same rfl rfl rfl rfl fun k => ?_
    by_cases here : k = l
    · subst here; rw [State.lane_modLane_self]
    · rw [State.lane_modLane_ne _ here]
  case lampsWait l y mask values _ _ is _ =>
    refine order.of_same rfl rfl rfl rfl fun k => ?_
    by_cases here : k = l
    · subst here
      rw [State.lane_setLane_self, is]
      exact (Lane.Keeps.hostLamps false (s.lane k) mask values).phase
    · rw [State.lane_setLane_ne _ here]
  case learning => exact order.of_same rfl rfl rfl rfl fun _ => rfl
  case committed started other free fits =>
    obtain ⟨images, store⟩ := StoreOrder.takeCommit laws i started other fits
    exact ⟨images, store, order.controls.of_phases rfl rfl fun _ => rfl⟩

theorem ConfigOrder.received (received : Received s t) : ConfigOrder t := by
  cases received
  case refused => exact laws.config.of_same rfl rfl rfl rfl fun _ => rfl
  case repeated => exact laws.config.of_same rfl rfl rfl rfl fun _ => rfl
  case taken i q _ _ served => exact ConfigOrder.served (laws.placed i q) served

/-! ## The vote (R153 to R155) -/

omit laws in
/-- The vote takes a VALID bank, or the defaults (R154). -/
theorem voteOutcome_takes (st : Store) : voteOutcome st = ⟨.defaults, 0, .blank, none⟩ ∨
    ∃ n standing odd, isValid st n = true ∧ voteOutcome st = outcomeOf st n standing odd := by
  have valid {m n : BankName} (same : identicalBanks st m n = true) : isValid st m = true := (identicalBanks_iff.1 same).1
  unfold voteOutcome
  split
  · next ab _ => exact .inr ⟨.a, _, _, valid ab, rfl⟩
  · next ab _ => exact .inr ⟨.a, _, _, valid ab, rfl⟩
  · next _ ac => exact .inr ⟨.a, _, _, valid ac, rfl⟩
  · next _ _ bc => exact .inr ⟨.b, _, _, valid bc, rfl⟩
  · split
    · next n best =>
      refine .inr ⟨n, _, _, ?_, rfl⟩
      rcases betterBank_isValid best with ⟨rfl, is⟩ | best
      · exact is
      · rcases betterBank_isValid best with ⟨rfl, is⟩ | best
        · exact is
        · rcases betterBank_isValid best with ⟨rfl, is⟩ | best
          · exact is
          · cases best
    · exact .inl rfl

omit laws in
theorem isValid_iff {st : Store} {n : BankName} : isValid st n = true ↔ (st.views.get n).standing = some .valid := by
  rw [isValid, decide_eq_true_iff]

omit laws in
/-- A vote that leaves an odd bank takes a generation other than 0, and a lawful image (R149, R154). -/
theorem voteOutcome_lawful {st : Store} (views : ViewsTrue st) (images : ∀ n, (st.banks.get n).wf) :
    (voteOutcome st).image.wf ∧ ((voteOutcome st).odd.isSome → (voteOutcome st).generation ≠ 0) := by
  rcases voteOutcome_takes st with blank | ⟨n, standing, odd, valid, takes⟩
  · rw [blank]
    exact ⟨defaults_wf, nofun⟩
  · obtain ⟨reads, -⟩ := views n (isValid_iff.1 valid)
    rw [takes]
    exact ⟨images n reads, fun _ => ((readsValid_iff _).1 reads).1⟩

omit laws in
/-- The store after the vote (R155). -/
theorem StoreSound.concludeVote {st : Store} (views : ViewsTrue st) (standing : Standing st) (write : st.write = none)
    (commit : st.commit = none) {v : VoteOutcome} (generation : v.odd.isSome → v.generation ≠ 0) :
    StoreSound (concludeVote st v) := by
  unfold Machine.concludeVote
  dsimp only
  split
  · next o odd =>
    refine .begins (st := { st with
      image := v.image, generation := v.generation, standing := v.standing, activity := .repairing }) views standing ?_
    exact .repairing _ rfl rfl rfl commit (invalid_beginAttempt ..) (generation (by rw [odd]; rfl))
  · exact ⟨.resting rfl write commit, views, standing⟩

omit laws in
theorem standing_of_next {st : Store} (next : nextBankRead st = some .c) : Standing (readBank st .c) := by
  unfold nextBankRead at next
  split at next
  · cases next
  · next a =>
    split at next
    · cases next
    · next b =>
      intro n
      show ((st.views.set .c _).get n).standing.isSome
      rw [view_set]
      cases n with
      | a => simpa [PerBank.get, Option.isSome_iff_ne_none] using a
      | b => simpa [PerBank.get, Option.isSome_iff_ne_none] using b
      | c => rfl

theorem ConfigOrder.bankRead (read : BankRead s t) : ConfigOrder t := by
  have order := laws.config
  cases read
  case idle => exact order
  case read n voting _ _ =>
    obtain ⟨write, commit⟩ := laws.controls.noWrite voting
    have startup := laws.store.voting.1 voting
    refine ⟨⟨laws.images.working, laws.images.storeCopy, laws.images.inUse, laws.images.snapshot, laws.images.banks,
      laws.images.dirty⟩, ?_, order.controls.of_phases rfl rfl fun _ => rfl⟩
    exact
      { laws.store with
        invalid := fun w is => by cases write.symm.trans is
        standings := fun other => absurd voting other
        valid := ViewsTrue.readBank laws.store.valid n }
  case voted v voting next is =>
    obtain ⟨write, commit⟩ := laws.controls.noWrite voting
    have startup := laws.store.voting.1 voting
    have disabled := (laws.controls.startup startup).2
    have views : ViewsTrue (readBank s.store .c) := ViewsTrue.readBank laws.store.valid .c
    obtain ⟨wf, generation⟩ := voteOutcome_lawful views laws.images.banks
    rw [← is] at wf generation
    have sound := StoreSound.concludeVote views (standing_of_next next) write commit generation
    have kept := concludeVote_kept (readBank s.store .c) v
    have stays := leavesBy_loaded (s := voted s v) (image := v.image) disabled
    have short (l : LaneId) :
        ((settingsTaken (loaded (voted s v) v.image) s.config.working.lanes (List.finRange 8)).lane l).phase ≠ .running := by
      have taken : (settingsTaken (loaded (voted s v) v.image) s.config.working.lanes (List.finRange 8)).lane l =
          (s.lane l).settingTaken s.config.working.lanes[l] v.image.lanes[l] := lane_settingsTaken_stays stays l
      rw [taken]
      intro run
      cases (disabled l).symm.trans ((s.lane l).settingTaken_running _ _ run)
    rw [voted_eq disabled] at short ⊢
    refine ⟨⟨wf, wf, ?_, fun c is => ?_, ?_, ?_⟩, sound.laws (s := { loaded (voted s v) v.image with
      lanes := settingsLanes (loaded (voted s v) v.image) s.config.working.lanes (List.finRange 8) }) nofun,
      ControlOrder.loaded (s := voted s v) wf rfl rfl short⟩
    · show (concludeVote (readBank s.store .c) v).image.wf
      rw [kept.image]
      exact wf
    · cases (kept.commit.trans commit).symm.trans is
    · show ∀ n, ((concludeVote (readBank s.store .c) v).banks.get n).wf
      rw [kept.banks]
      exact laws.images.banks
    · exact iff_of_false nofun fun other => other rfl

end

/-! ## Resets (R22, R163) -/

theorem cutWrite_banks_wf {st : Store} (banks : ∀ n, (st.banks.get n).wf) (n : BankName) : ((cutWrite st).banks.get n).wf := by
  unfold cutWrite
  split
  · next w _ =>
    show ((st.banks.set w.bank _).get n).wf
    by_cases here : n = w.bank
    · rw [here, PerBank.get_set_self]
      intro reads
      have verifies : (1 : Word) = 0 := ((readsValid_iff _).1 reads).2
      exact absurd verifies (by decide)
    · rw [PerBank.get_set_ne _ here]
      exact banks n
  · exact banks n

theorem ConfigOrder.reset {s : State} (banks : ∀ n, (s.store.banks.get n).wf) (cause : ResetCause) (straps : BitVec 2) :
    ConfigOrder (resetBlocks (cutActivity s) cause straps) := by
  have safe := resetStateKeepsTheLaws.1
  refine ⟨⟨safe.images.working, safe.images.storeCopy, safe.images.inUse, safe.images.snapshot, cutWrite_banks_wf banks,
    safe.images.dirty⟩, { safe.store with valid := fun n valid => ?_ },
    safe.controls.order.of_phases rfl rfl fun _ => rfl⟩
  cases n <;> cases valid

/-- A hard reset that begins leaves the bank in progress INVALID, and cuts no more of store and configuration (R163). -/
theorem ConfigOrder.cut {s : State} (safe : SafeState s) (cause : ResetBeginning) : ConfigOrder (hardResetStarts s cause) := by
  have held : (hardResetStarts s cause).line ≠ .running := by
    cases cause <;> cases line : s.line <;> simp [hardResetStarts, lineAfter, line]
  have lane (l : LaneId) : (hardResetStarts s cause).lane l = (s.lane l).cut := State.lane_mapLanes _ _ l
  have store : (hardResetStarts s cause).store = cutWrite s.store := rfl
  have kept : cutWrite s.store = { s.store with write := none, banks := (cutWrite s.store).banks } := by
    unfold cutWrite
    split
    · rfl
    · next none => rw [← none]
  have valid : ViewsTrue (cutWrite s.store) := by
    unfold cutWrite
    split
    · next w write => exact ViewsTrue.held safe.store.valid (by rw [safe.store.invalid w write]; decide) _
    · exact safe.store.valid
  refine ⟨⟨safe.images.working, safe.images.storeCopy, ?_, ?_, cutWrite_banks_wf safe.images.banks, safe.images.dirty⟩,
    ⟨?_, ?_, fun running => absurd running held, ?_, ?_, ?_, ?_, ?_, valid, ?_, ?_⟩,
    safe.controls.order.of_phases rfl rfl fun l => by rw [lane]; rfl⟩ <;> rw [store, kept]
  · exact safe.images.inUse
  · exact safe.images.snapshot
  · exact safe.store.voting
  · exact safe.store.committing
  · exact nofun
  · exact nofun
  · exact nofun
  · exact nofun
  · exact safe.store.standings
  · exact nofun
  · exact safe.store.commits

/-! ## Moves -/

theorem ConfigOrder.moved {s t : State} (safe : SafeState s) (move : Move s t) : ConfigOrder t := by
  have laws := safe.works
  have order : ConfigOrder s := ⟨safe.images, safe.store, safe.controls.order⟩
  cases move
  case same => exact order
  case resetEnds ending straps => exact .reset safe.images.banks _ straps
  case restarts straps => exact .reset safe.images.banks _ straps
  case resetBegins cause => exact .cut safe cause
  case received running received => exact .received (laws running) received
  case replyStarts running =>
    unfold Machine.replyStarts
    repeat' split
    · exact order.of_same rfl rfl rfl rfl fun _ => rfl
    · exact order
    · exact order
  case replyEnds => exact order.of_same rfl rfl rfl rfl fun _ => rfl
  case reportStarts =>
    unfold Machine.reportStarts
    repeat' split
    · exact order.of_same rfl rfl rfl rfl fun _ => rfl
    · exact order
    · exact order
  case reportEnds =>
    unfold Machine.reportEnds
    split
    · exact order.of_same rfl rfl rfl rfl fun _ => rfl
    · exact order
  case timer =>
    unfold Machine.timerExpires
    repeat' split
    · exact order.of_same rfl rfl rfl rfl fun _ => rfl
    · exact order.of_same rfl rfl rfl rfl fun _ => rfl
    · exact order
    · exact order
  case turn running =>
    have turned := takeTurn_turned s
    have frame := turned.frame
    have config : (settleLamps s (takeTurn s)).config = s.config := by show (takeTurn s).config = _; rw [frame]
    have store : (settleLamps s (takeTurn s)).store = s.store := by show (takeTurn s).store = _; rw [frame]
    have line : (settleLamps s (takeTurn s)).line = s.line := by show (takeTurn s).line = _; rw [frame]
    exact ⟨order.images.of_same (by rw [store]) (by rw [config]) (by rw [config]) (by rw [config]),
      order.store.of_same (by rw [store]) line (by rw [config]), order.controls.turned safe.controls.slots turned⟩
  case learnTimeout =>
    unfold learnExpires
    repeat' split
    · exact (order.of_same rfl rfl rfl rfl (fun _ => rfl) : ConfigOrder (clearLearn s)).complete _ _
    · exact order
    · exact order
  case lane l running happening =>
    have moved := happening.moved ⟨safe.settings.expected l, safe.settings.unexpected l⟩ (safe.lanes running l)
    have work := happening.work
    exact ⟨order.images.of_same (by rw [work.store]) (by rw [work.config]) (by rw [work.config]) (by rw [work.config]),
      order.store.of_same (by rw [work.store]) work.line (by rw [work.config]), order.controls.laneMoved moved⟩
  case bankRead running => exact .bankRead (laws running) (bankReadEnds_bankRead (laws running))
  case bankWrite r running lawful =>
    obtain ⟨images, store⟩ := StoreOrder.writeAttemptEnds safe.images safe.store running lawful
    refine ⟨images, store, ?_⟩
    have written := writeAttemptEnds_bankWritten s r
    generalize writeAttemptEnds s r = t at written
    cases written
    case idle => exact order.controls
    case stored => exact order.controls.of_phases rfl rfl fun _ => rfl
    case ended st c _ _ _ =>
      rw [commitEnds_frame]
      exact order.controls.of_same rfl rfl rfl (fun _ => Iff.rfl) fun _ => Iff.rfl

/-- A slot is filled only on a RUNNING lane after a move (R99). -/
theorem slots_moved {s t : State} (safe : SafeState s) (move : Move s t) (l : LaneId) (filled : (t.lane l).slot.isSome) :
    (t.lane l).phase = .running := by
  rcases LaneOrder.moved safe move with order | rfl | ⟨cause, rfl⟩
  · exact (order.lanes l).phase.slot filled
  · exact safe.controls.slots l filled
  · have lane : (hardResetStarts s cause).lane l = (s.lane l).cut := State.lane_mapLanes _ _ l
    rw [lane] at filled ⊢
    exact safe.controls.slots l filled

/-- Settles O59: after each move images, store and table are lawful. -/
theorem stepsKeepImagesStoreAndControlsLawful : Obligations.StepsKeepImagesStoreAndControlsLawful := by
  unfold Obligations.StepsKeepImagesStoreAndControlsLawful
  constructor
  · intro s t wf safe stepped
    obtain ⟨u, safe, move⟩ := step_moves safe wf stepped
    exact (ConfigOrder.moved safe move).images
  · intro s t wf safe stepped
    obtain ⟨u, safe, move⟩ := step_moves safe wf stepped
    have order := ConfigOrder.moved safe move
    exact ⟨order.store, order.controls.laws order.store (slots_moved safe move)⟩

end Sys2Proof.Machine
end
